-- ==== Sys2Proof/Word.lean ====
section
/-! DEFINITION. The word types of the 6224: characters, ticks and sets of stations. -/

namespace Sys2Proof

/-- A character of the wand line, or a byte of the configuration block (R115, R181). -/
abbrev Byte := BitVec 8

/-- A value of the 32-bit tick counter, one tick being 0.125 µs (R37). -/
abbrev Tick := BitVec 32

/-- A set of stations, station k in bit k (R192). -/
abbrev StationSet := BitVec 16

/-- A set of the six hold reasons every station knows: bit 0 STOP, 1 JAM, 2 HOT, 3 BIN_OPEN,
4 FAULT, 5 SERVICE (R189). -/
abbrev HoldSet := BitVec 6

end Sys2Proof
end

