-- ==== Sys2Proof/Config.lean ====
section
/-! DEFINITION. What a configuration fixes (R182, R192), and the free value of the model. -/

namespace Sys2Proof

/-- The change report mode (R135, R141). -/
inductive ReportMode where
  | carryOnce
  | untilClear
  deriving DecidableEq, Repr

/-- The edges of the TRIG pin that wake the unit (R187). -/
inductive WakeEdge where
  | falling
  | rising
  | both
  deriving DecidableEq, Repr

/-- One entry of the impact class table (R76). `peaks` holds peak class k in bit k - 1. -/
structure ClassEntry where
  enabled : Bool
  peaks   : BitVec 3
  durMin  : Nat
  durMax  : Nat
  ringMin : Nat
  ringMax : Nat
  weight  : Nat
  deriving DecidableEq, Repr

/-- One charge window (R94): temperatures in °C, current in mA, cell voltage in mV. -/
structure ChargeWindow where
  enabled : Bool
  tLo     : Int
  tHi     : Int
  iChg    : Nat
  vCell   : Nat
  deriving DecidableEq, Repr

/-- The configuration in force: one field for each field of the 128-byte block (R192), in the units of
the manual (mV, mA, W, °C, kHz, counts, per cent, A, krpm). -/
structure Settings where
  station         : Nat
  cells           : Nat
  reportMode      : ReportMode
  capacity        : Nat
  rCell           : Nat
  vOver           : Nat
  vLow            : Nat
  vEmpty          : Nat
  ocv             : List Nat
  therm           : List Nat
  iMax            : Nat
  tDerate         : Int
  tCut            : Int
  tDisLow         : Int
  vLowC           : Nat
  vFloor          : Nat
  iHk             : Nat
  iAccCap         : Nat
  pMotorMax       : Nat
  pRunMin         : Nat
  pEco            : Nat
  pMid            : Nat
  pBoost          : Nat
  pAutoBase       : Nat
  pAutoStep       : Nat
  fPwm            : Nat
  minOff          : Nat
  dutyAlign       : Nat
  advance         : Nat
  gain            : Nat
  wakeEdge        : WakeEdge
  iTrip           : Nat
  overspeed       : Nat
  blockedSpeed    : Nat
  thLow           : Nat
  thMid           : Nat
  thHigh          : Nat
  wOver           : Nat
  wHead           : Nat
  prescale        : Nat
  dirt            : List Nat
  classes         : List ClassEntry
  windows         : List ChargeWindow
  vContact        : Nat
  iPre            : Nat
  iChgMax         : Nat
  iTerm           : Nat
  holdStations    : StationSet
  serviceStations : StationSet
  deriving DecidableEq, Repr

/-- FREE VALUE (log 11). The mean bus power in W of a control period in which no product was
sampled: R54 divides the sum by the number of products and states no result for none. The argument is
the index of the use (`State.free`); nothing constrains the value. -/
opaque Config.freePower : Nat → Nat

end Sys2Proof
end

