-- ==== Sys2Proof/Syntax.lean ====
section
/-! DEFINITION. The commands of the 6224: one constructor for each row of spec/opcode_table.json, with the
data that the row's rule reads. -/

namespace Sys2Proof

/-- A motor phase (R43). -/
inductive MotorPhase where
  | a
  | b
  | c
  deriving DecidableEq, Repr

/-- The direction of an edge, of a comparator (R43) or of the TRIG pin (R187). -/
inductive Edge where
  | rising
  | falling
  deriving DecidableEq, Repr

/-- What the conversions of one pack scan yield (R1, R5, R6). The units are the model's (log 9). -/
structure ScanReading where
  /-- The differential readings across cells 1 to 7, in quarters of a mV (a converter step of 1.25 mV is 5);
  the readings of cells above N are not used. -/
  cells     : List Int
  /-- The codes of thermistors T1 and T2, 0 to 4,095. -/
  code1     : Nat
  code2     : Nat
  /-- The dock-input voltage in mV, before its clamp. -/
  dock      : Int
  /-- The head-rail current in mA, before its clamp. -/
  rail      : Int
  /-- The pack shunt's samples over the scan, in mA, signed: the first, and the others. -/
  shunt     : Int
  shuntMore : List Int
  /-- The reading of the internal reference, in ten-thousandths of its nominal value. -/
  reference : Nat
  deriving DecidableEq, Repr

/-- The commands, in the order of the table. -/
inductive Instr where
  | powerOn
  /-- `block`: the bytes read, or `none` when the memory did not answer (R181). -/
  | configLoadEnd (block : Option (List Byte))
  | scanTimerExpiry
  | cellConversionsEnd
  | scanCompletion (r : ScanReading)
  /-- `microAs`: the charge that passed since the previous delivery, in µAs, discharge positive (R14, log 10). -/
  | chargeDelivery (microAs : Int)
  /-- The bus voltage in mV and the bus current in mA at the period start (R39, R42, R54), and the ticks for which the
  bus voltage has by then been below 14,000 mV; left out, a voltage below it has been so since the period start that
  first found it so (R42, log 27). -/
  | periodStart (busMv busMa : Nat) (lowFor : Option Nat := none)
  /-- The bus current in mA that the comparison finds (R41). -/
  | busCurrentTrip (busMa : Nat)
  | overcurrent
  | undervoltageTimerExpiry
  | alignTimerExpiry
  | forcedCommutation
  /-- A comparator edge `after` ticks from now, on a phase, of a direction (R44, log 3). -/
  | comparatorCapture (after : Nat) (phase : MotorPhase) (edge : Edge)
  | commutationCompareExpiry
  | missedCrossingDeadline
  | desync
  | rampTimerExpiry
  | controlExpiry
  | blockedSet
  | blockedClear
  | runSecond
  | coastTimerExpiry
  /-- The envelope code of the sample (R68). -/
  | envelopeSample (code : Byte)
  | scoringCompletion
  | windowExpiry
  /-- The dock-input voltage after the change, in mV (R90). -/
  | dockInputRise (mv : Nat)
  | dockInputFall (mv : Nat)
  | settleTimerExpiry
  | resendTimerExpiry
  | echoTimerExpiry
  | regulationExpiry
  | terminationTimerExpiry
  | prechargeTimerExpiry
  | totalTimerExpiry
  /-- The characters of the complete notice, from its header to its check (R116). -/
  | noticeReceived (chars : List Byte)
  | hold
  | request
  | supply
  | draw
  | headDirt
  | otherClassNotice
  | ident
  | runs
  | modeTime
  | chargeCounts
  | cellsA
  | cellsB
  | fault
  | sample
  | holds
  | table
  | masterOn
  | masterOff
  | clearHistory
  | ship
  | unknownItem
  | lineIdle
  | headerLoss
  | bitError
  | attemptCompletion
  | shipOrderTimeout
  | breakInProgress
  | breakTaken
  | ownBreakRelease
  | lineStuck
  | stuckRecovery
  | conflictTimerExpiry
  | stateCadenceExpiry
  | holdoffExpiry
  | holdCadenceExpiry
  /-- The station whose record has gone unheard (R152, R153). -/
  | recordStale (station : Nat)
  | recordAgeRemoval (station : Nat)
  | headContactsLow
  /-- The levels of HD1 and HD2 after the change, true being high (R176). -/
  | headContactHigh (hd1High hd2High : Bool)
  | seatTimerExpiry
  | railOnTimerExpiry
  /-- The rail current in mA that the comparator sees (R179). -/
  | headRailShort (railMa : Nat)
  | overdrawTimerExpiry
  | dozeTimerExpiry
  | shipTimerExpiry
  | trigEdge (edge : Edge)
  | sleepBreak
  /-- The ticks for which the line stays dominant from this edge; left out, it is no glitch, and a later command tells
  the release (R115, R117, R129, R133, log 15). -/
  | lineFallingEdge (low : Option Nat := none)
  | framingError
  /-- The length character that was read (R119). -/
  | lengthTooGreat (length : Byte)
  deriving DecidableEq, Repr

end Sys2Proof
end

