-- ==== Sys2Proof/WellFormed.lean ====
section
/-! DEFINITION. Which commands are well formed: the bounds the manual puts on what a row carries. -/

namespace Sys2Proof

/-- A scan reading converts seven taps at most and yields 12-bit thermistor codes (R1). -/
def ScanReading.wellFormed (r : ScanReading) : Bool :=
  r.cells.length == 7 && r.code1 ≤ 4095 && r.code2 ≤ 4095

/-- A complete notice is a header, a length of 0 to 12, that many payload characters and a check (R116). -/
def noticeShape : List Byte → Bool
  | _ :: len :: rest => len.toNat ≤ 12 && rest.length == len.toNat + 1
  | _ => false

/-- The bounds on each command's data. Commands without data are always well formed. -/
def Instr.wellFormed : Instr → Bool
  | .configLoadEnd (some bs) => bs.length == 128
  | .scanCompletion r => r.wellFormed
  | .dockInputRise mv => 5000 < mv
  | .dockInputFall mv => mv ≤ 5000
  | .noticeReceived chars => noticeShape chars
  | .recordStale st => 1 ≤ st && st ≤ 14
  | .recordAgeRemoval st => 1 ≤ st && st ≤ 14
  | .headContactHigh hd1 hd2 => hd1 || hd2
  | .headRailShort ma => 4000 < ma
  | .lengthTooGreat len => 12 < len.toNat
  | _ => true

end Sys2Proof
end

