-- ==== Sys2Proof/Decode.lean ====
section
/-! DEFINITION. The command that a word spells by the table's bits. No row of spec/opcode_table.json gives
bits (its rows carry no "fixed" and no fields), so no word spells a command (log 35). -/

namespace Sys2Proof

/-- The command spelt by an `nbits`-bit word: none, since the table gives no row any bits. -/
def decodeTableWord (_nbits _w : Nat) : Option Instr := none

end Sys2Proof
end

