-- ==== Sys2Proof/Machine/Bits.lean ====
section
/-! DEFINITION. Clamps, byte order, packed runs of bits and the check: the number handling that the chapters share. -/

namespace Sys2Proof.Machine

/-- `n` held to the range `lo` to `hi`. -/
def clampNat (lo hi n : Nat) : Nat := max lo (min hi n)

/-- `n` held to the range `lo` to `hi`. -/
def clampInt (lo hi n : Int) : Int := max lo (min hi n)

/-- `n` + 1, stopping at `hi` (a saturating counter). -/
def satSucc (hi n : Nat) : Nat := min hi (n + 1)

/-- The number whose bytes are given most significant first (R189). -/
def beNat : List Byte → Nat := List.foldl (fun acc b => acc * 256 + b.toNat) 0

/-- `n` as `k` bytes, most significant first (R189). -/
def toBytes : (k n : Nat) → List Byte
  | 0, _ => []
  | k + 1, n => BitVec.ofNat 8 (n / 256 ^ k) :: toBytes k n

/-- The `k`-th of the fields of `width` bits packed most significant bit first in `total` bits (R189). -/
def packedField (total width n k : Nat) : Nat := n / 2 ^ (total - width * (k + 1)) % 2 ^ width

/-- Fields of `width` bits joined to one number, the first most significant (R189). -/
def packFields (width : Nat) (fields : List Nat) : Nat :=
  fields.foldl (fun acc f => acc * 2 ^ width + f % 2 ^ width) 0

/-- A signed byte in two's complement (R189). -/
def signedByte (t : Int) : Byte := BitVec.ofInt 8 t

/-- A bit as a byte's value. -/
def bitNat (b : Bool) : Nat := if b then 1 else 0

/-- One of the eight shifts of the check (R118): the bit shifted out decides whether 0x07 is combined. -/
def crcShift (v : Byte) : Byte := if v.msb then (v <<< 1) ^^^ 0x07#8 else v <<< 1

/-- The running value of the check after one more character (R118). -/
def crcStep (v c : Byte) : Byte :=
  crcShift (crcShift (crcShift (crcShift (crcShift (crcShift (crcShift (crcShift (v ^^^ c))))))))

/-- The check over some characters: a CRC-8 with polynomial 0x07 and initial value 0x00 (R118). -/
def crc8 (cs : List Byte) : Byte := cs.foldl crcStep 0

/-- The characters of a notice: header, length, payload, check (R116). -/
def noticeChars (cls station : Nat) (payload : List Byte) : List Byte :=
  let body := BitVec.ofNat 8 (cls * 16 + station) :: BitVec.ofNat 8 payload.length :: payload
  body ++ [crc8 body]

/-- Linear interpolation on one segment: `base` plus `rise` × (`num`) / (`den`), the quotient toward zero. -/
def alongSegment (base rise num den : Int) : Int := base + (rise * num).tdiv den

end Sys2Proof.Machine
end

