-- ==== Sys2Proof/Machine/Defaults.lean ====
section
/-! DEFINITION. The default configuration: the column "Default" of the table of R192 and the default tables of
R11, R76 and R94. -/

namespace Sys2Proof.Machine

/-- The default impact class table (R76). -/
def defaultClasses : List ClassEntry :=
  [ ⟨true, 0b001, 3, 20, 0, 2, 1⟩, ⟨true, 0b110, 3, 30, 0, 4, 3⟩,
    ⟨true, 0b100, 10, 255, 3, 15, 6⟩, ⟨true, 0b011, 31, 255, 0, 15, 2⟩,
    ⟨false, 0, 0, 0, 0, 0, 0⟩, ⟨false, 0, 0, 0, 0, 0, 0⟩,
    ⟨false, 0, 0, 0, 0, 0, 0⟩, ⟨false, 0, 0, 0, 0, 0, 0⟩ ]

/-- The default charge windows (R94); the two entries of zeros decode as R192 says. -/
def defaultWindows : List ChargeWindow :=
  [ ⟨true, 0, 9, 500, 4100⟩, ⟨true, 10, 44, 2500, 4200⟩, ⟨true, 45, 50, 1000, 4100⟩,
    ⟨false, -10, -10, 0, 3900⟩, ⟨false, -10, -10, 0, 3900⟩ ]

/-- The default open-circuit voltages for 0, 10, …, 100 % (R16, R192). -/
def defaultOcv : List Nat :=
  [3300, 3500, 3580, 3630, 3680, 3740, 3810, 3900, 3990, 4080, 4180]

/-- The default thermistor codes for −20, −5, …, 100 °C (R11, R192). -/
def defaultTherm : List Nat := [3620, 3330, 2910, 2390, 1920, 1470, 1090, 790, 560]

/-- The default dirt thresholds (R83, R192). -/
def defaultDirt : List Nat := [4, 10, 20, 35, 55, 80, 110, 150, 200, 260]

/-- The default set of the configuration (R192). -/
def defaultSettings : Settings where
  station := 1
  cells := 7
  reportMode := .carryOnce
  capacity := 2500
  rCell := 20
  vOver := 4300
  vLow := 3300
  vEmpty := 3000
  ocv := defaultOcv
  therm := defaultTherm
  iMax := 30000
  tDerate := 55
  tCut := 70
  tDisLow := -20
  vLowC := 3400
  vFloor := 3000
  iHk := 150
  iAccCap := 3000
  pMotorMax := 600
  pRunMin := 60
  pEco := 100
  pMid := 220
  pBoost := 450
  pAutoBase := 150
  pAutoStep := 30
  fPwm := 40
  minOff := 24
  dutyAlign := 96
  advance := 10
  gain := 4
  wakeEdge := .falling
  iTrip := 45
  overspeed := 125
  blockedSpeed := 115
  thLow := 24
  thMid := 64
  thHigh := 160
  wOver := 2
  wHead := 1
  prescale := 0
  dirt := defaultDirt
  classes := defaultClasses
  windows := defaultWindows
  vContact := 300
  iPre := 250
  iChgMax := 3000
  iTerm := 150
  holdStations := 0x7FFE
  serviceStations := 0

end Sys2Proof.Machine
end

