-- ==== Sys2Proof/Machine/State.lean ====
section
/-! DEFINITION. The state of the 6224, block by block (00_scope.md, "Block overview"), and its value right
after a power-on. A timer is `Option Nat`: the tick at which it ends (or, where its name ends in `Since`,
`At` or `From`, the tick at which it began); `none` is "not running" (log 4). -/

namespace Sys2Proof.Machine

/-- Why the machine stops. The manual gives every command an effect, so there is no reason: the type is empty. -/
inductive Fault where
  deriving DecidableEq, Repr

/-- Why a command is refused. -/
inductive Refusal where
  /-- Raised by `exec` for a command without a meaning; no arm raises it. Safe: the model stops. -/
  | notModelled (mnemonic : String)
  deriving DecidableEq, Repr

/-- The timebase (R37). -/
structure Timebase where
  /-- Ticks of 0.125 µs counted since power-on; the 32-bit tick counter is its low 32 bits. -/
  ticks       : Nat
  /-- The seconds-since-start counter, saturating at 2^32 − 1. -/
  seconds     : Nat
  /-- Units of 0.125 µs passed since power-on, in every power state: the low-power oscillator's time. -/
  steady      : Nat
  deriving DecidableEq, Repr

/-- The levels of pins that are judged at the end of STARTING and at a wake (R90, R176, R183, R187). -/
structure Pins where
  hd1High : Bool
  hd2High : Bool
  dockMv  : Nat
  deriving DecidableEq, Repr

/-- The configuration loader (R181, R182). -/
structure Loader where
  cfg          : Settings
  loading      : Bool
  defaultsMark : Bool
  deriving DecidableEq, Repr

/-- The class of a cell, and the pack state (R8, R10). -/
inductive CellClass where
  | good
  | low
  | empty
  | high
  | openTap
  deriving DecidableEq, Repr

/-- A cell record (R7, R8, R9, R19). -/
structure Cell where
  vMeas     : Nat
  vc        : Int
  cls       : CellClass
  cand      : Option CellClass
  candCount : Nat
  /-- The bleed set's mark for this cell: true is closed. -/
  bleed     : Bool
  deriving DecidableEq, Repr

/-- A thermistor record (R11, R12); the candidate is the standing it may change to. -/
structure Thermistor where
  code      : Nat
  temp      : Int
  faulty    : Bool
  cand      : Option Bool
  candCount : Nat
  deriving DecidableEq, Repr

/-- How far a pack scan is (R1, R4). -/
inductive ScanPhase where
  | none
  /-- The cell conversions are in progress: every physical bleed switch is open. -/
  | cells
  /-- The other channels are being converted. -/
  | rest
  deriving DecidableEq, Repr

/-- The pack monitor (chapter 1). -/
structure Pack where
  cells            : List Cell
  t1               : Thermistor
  t2               : Thermistor
  tPack            : Int
  iPack            : Int
  vPack            : Nat
  dockReading      : Nat
  iRail            : Nat
  refFails         : Nat
  direct           : Bool
  packState        : CellClass
  sensor           : Bool
  q                : Nat
  soc              : Nat
  ocvPending       : Bool
  emptyRest        : Nat
  scan             : ScanPhase
  startScan        : Bool
  scanSwitchClosed : Bool
  scanTimer        : Option Nat
  deliveryTimer    : Option Nat
  carried          : Int
  deriving DecidableEq, Repr

/-- The mode of a request, and the mode in force (R30, R135). -/
inductive Mode where
  | off
  | eco
  | mid
  | boost
  | auto
  deriving DecidableEq, Repr

/-- The allowance unit (chapter 2). -/
structure Allowance where
  pAllow : Nat
  iShare : Nat
  target : Nat
  low    : Bool
  mode   : Mode
  deriving DecidableEq, Repr

/-- The drive state (R49 to R62). -/
inductive DriveState where
  | stopped
  | align
  | ramp
  | run
  | coast
  | fault
  deriving DecidableEq, Repr

/-- The drive controller (chapter 3). -/
structure Drive where
  state             : DriveState
  period            : Nat
  /-- The start of the running PWM period, in counts of the 48 MHz clock (6 to a tick; R38, log 26). -/
  periodAt          : Nat
  bufDuty           : Nat
  appDuty           : Nat
  gatesOn           : Bool
  step              : Nat
  tC                : Tick
  tRef              : Tick
  ring              : List Nat
  stepAvg           : Nat
  forced            : Nat
  rampEntry         : Nat
  speed             : Nat
  badSteps          : Nat
  goodCrossings     : Nat
  rampFailures      : Nat
  desyncs           : Nat
  restart           : Bool
  cutoffs           : Nat
  cutEarly          : Bool
  uvSince           : Option Nat
  /-- The tick at which the drive last left STOPPED, from which the bus voltage is judged (R42, log 27). -/
  watchedFrom       : Nat
  blocked           : Bool
  blockedSetSince   : Option Nat
  blockedClearSince : Option Nat
  target            : Nat
  runNumber         : Nat
  runs              : Nat
  secEco            : Nat
  secMid            : Nat
  secBoost          : Nat
  secAuto           : Nat
  secTotal          : Nat
  runFraction       : Nat
  alignTimer        : Option Nat
  rampTimer         : Option Nat
  forcedTimer       : Option Nat
  controlTimer      : Option Nat
  coastTimer        : Option Nat
  compare           : Option Nat
  deadline          : Option Nat
  armed             : Bool
  crossed           : Bool
  powerSum          : Nat
  powerCount        : Nat
  deriving DecidableEq, Repr

/-- The impact detector's state (R68). -/
inductive DetState where
  | off
  | ready
  | above
  | trailing
  | dead
  deriving DecidableEq, Repr

/-- An impact record (R72). -/
structure Impact where
  peak     : Nat
  duration : Nat
  ring     : Nat
  window   : Nat
  deriving DecidableEq, Repr

/-- A sample record (R78): the class is the entry's number, or `none` for unclassed. -/
structure Sample where
  cls    : Option Nat
  weight : Nat
  window : Nat
  run    : Nat
  deriving DecidableEq, Repr

/-- The impact detector and the dirt scorer (chapter 4). -/
structure Dirt where
  det         : DetState
  peak        : Nat
  duration    : Nat
  ring        : Nat
  midSeen     : Bool
  midAbove    : Bool
  below       : Nat
  dead        : Nat
  sampleAt    : Option Nat
  queue       : List Impact
  tally       : Nat
  window      : Nat
  windowSum   : Nat
  windowTimer : Option Nat
  level       : Nat
  fall        : Nat
  sampleCount : Nat
  sampleRun   : Option Nat
  samples     : List Sample
  deriving DecidableEq, Repr

/-- The charge phase (R100 to R110). -/
inductive ChargePhase where
  | undocked
  | waiting
  | precharge
  | bulk
  | topoff
  | done
  | paused
  | fault
  deriving DecidableEq, Repr

/-- The pause causes (R106). -/
structure Causes where
  temp         : Bool
  notReady     : Bool
  weak         : Bool
  unresponsive : Bool
  hold         : Bool
  deriving DecidableEq, Repr

/-- The ask (R95): enable, v_ask in mV, i_ask in mA. -/
structure Ask where
  enable : Bool
  v      : Nat
  i      : Nat
  deriving DecidableEq, Repr

/-- A timer that holds its value while stopped (R101, R104, R109): ticks counted before, and the tick at
which it last began to run. -/
structure Stopwatch where
  acc   : Nat
  since : Option Nat
  deriving DecidableEq, Repr

/-- The charge controller (chapter 5). -/
structure Charge where
  phase       : ChargePhase
  causes      : Causes
  window      : Option Nat
  ask         : Ask
  awaiting    : Bool
  echoTimer   : Option Nat
  resendTimer : Option Nat
  regTimer    : Option Nat
  termination : Stopwatch
  precharge   : Stopwatch
  total       : Stopwatch
  supplyLost  : Bool
  switch      : Bool
  completions : Nat
  mah         : Nat
  masRem      : Nat
  deriving DecidableEq, Repr

/-- The line state (R117). -/
inductive LineState where
  | off
  | idle
  | busy
  | inBreak
  | stuck
  deriving DecidableEq, Repr

/-- A complete, checked notice in the receive queue (R116, R120). -/
structure Notice where
  cls     : Nat
  station : Nat
  payload : List Byte
  deriving DecidableEq, Repr

/-- The state of a transmit slot (R121) with the payloads it holds. The payload of a waiting HOLD or STATE has
no meaning: it is formed at the start of the attempt (R122). -/
inductive Slot where
  | empty
  | pending (waiting : List Byte)
  | inFlight (sent : List Byte)
  | inFlightReplaced (sent waiting : List Byte)
  deriving DecidableEq, Repr

/-- A transmit slot with its bit-error count (R121, R124). -/
structure TxSlot where
  slot   : Slot
  errors : Nat
  deriving DecidableEq, Repr

/-- The four classes the 6224 sends (R121). -/
inductive SlotId where
  | hold
  | ask
  | state
  | report
  deriving DecidableEq, Repr

/-- The attempt in progress (R122): its slot, the tick of its start edge, and its characters. -/
structure Attempt where
  slot  : SlotId
  start : Nat
  chars : List Byte
  deriving DecidableEq, Repr

/-- An attempt ended by a bit error that is not yet settled (R124). `replaced`: the slot holds a newer notice than
the one in flight at the error. -/
structure Unsettled where
  slot     : SlotId
  replaced : Bool
  deriving DecidableEq, Repr

/-- A dominant interval of the line in SLEEP, in the time that passes there (R133, log 29): its falling edge, and its
release where the edge told it (log 15). -/
structure Pulse where
  fellAt : Nat
  roseAt : Option Nat
  deriving DecidableEq, Repr

/-- The line controller (chapter 6). -/
structure Line where
  state         : LineState
  dominantFrom  : Option Nat
  /-- The tick at which the dominant interval ends, where its falling edge told it (R117, R129, log 15). -/
  risesAt       : Option Nat
  recessiveFrom : Option Nat
  reception     : Option (List Byte)
  rx            : List Notice
  hold          : TxSlot
  ask           : TxSlot
  state_        : TxSlot
  report        : TxSlot
  attempt       : Option Attempt
  unsettled     : Option Unsettled
  ownBreak      : Option Nat
  /-- The 6224's own break has been ordered and is neither taken nor lost in a stuck line: HOLD is put at its taking
  where local reasons stand (R132, R133, R175, log 30). -/
  breakOwed     : Bool
  /-- The latest dominant interval of SLEEP, begun there or before the entry (R133). -/
  pulse         : Option Pulse
  stuck         : Bool
  conflict      : Option Nat
  stateCadence  : Option Nat
  holdoff       : Bool
  lastStatePut  : Option Nat
  holdCadence   : Option Nat
  deriving DecidableEq, Repr

/-- The roles a station has shown (R149). -/
structure Roles where
  handle : Bool
  dock   : Bool
  head   : Bool
  tool   : Bool
  other  : Bool
  deriving DecidableEq, Repr

/-- The request part (R135). -/
structure RequestPart where
  held : Bool
  mode : Mode
  deriving DecidableEq, Repr

/-- The state a dock reports (R136). -/
inductive SupplyState where
  | idle
  | ready
  | output
  | fault
  deriving DecidableEq, Repr

/-- The supply part (R136): mV and mA. -/
structure SupplyPart where
  state : SupplyState
  maxV  : Nat
  maxI  : Nat
  setV  : Nat
  setI  : Nat
  outI  : Nat
  deriving DecidableEq, Repr

/-- The kind of a draw (R137). -/
inductive DrawKind where
  | head
  | tool
  | other
  deriving DecidableEq, Repr

/-- The draw part (R137): mA. -/
structure DrawPart where
  kind    : DrawKind
  wanted  : Nat
  present : Nat
  deriving DecidableEq, Repr

/-- The head-dirt part (R137, R82). -/
structure HeadDirtPart where
  count    : Nat
  interval : Nat
  used     : Bool
  deriving DecidableEq, Repr

/-- A station record (chapter 8); the age timer is the time since `heardAt`. -/
structure Record where
  station  : Nat
  roles    : Roles
  stale    : Bool
  heardAt  : Nat
  request  : Option RequestPart
  supply   : Option SupplyPart
  draw     : Option DrawPart
  headDirt : Option HeadDirtPart
  heard    : Option HoldSet
  deriving DecidableEq, Repr

/-- The station table (chapter 8): its records in the order of their last entry, oldest first, and the three
recency orders, newest first. -/
structure Table where
  records      : List Record
  requestOrder : List Nat
  supplyOrder  : List Nat
  headOrder    : List Nat
  deriving DecidableEq, Repr

/-- The state of a change flag (R141). -/
inductive FlagState where
  | clear
  | set
  | carried
  | carriedAgain
  deriving DecidableEq, Repr

/-- Where the OK answer of the pending SHIP order stands (R147, log 18). -/
inductive ShipAnswer where
  /-- No order is pending. -/
  | none
  /-- The answer waits in the REPORT slot. -/
  | waiting
  /-- The answer is in flight. -/
  | flying
  deriving DecidableEq, Repr

/-- The report unit (chapter 7): the sixteen change flags in the order of their bits, bit 0 first (R189), the tick at
which the pending SHIP order was accepted, and where its answer stands (R147). -/
structure Report where
  flags       : List FlagState
  shipPending : Option Nat
  shipAnswer  : ShipAnswer
  deriving DecidableEq, Repr

/-- The local reasons and the master hold (R164 to R168). -/
structure Reasons where
  packEmpty       : Bool
  packHot         : Bool
  packCold        : Bool
  cellHigh        : Bool
  sensor          : Bool
  lowAllowance    : Bool
  docked          : Bool
  driveFault      : Bool
  headShort       : Bool
  overdraw        : Bool
  lineStuck       : Bool
  stationConflict : Bool
  master          : Bool
  deriving DecidableEq, Repr

/-- The kinds of a fault-history entry (R173). -/
inductive FaultKind where
  | overcurrent
  | startFail
  | desync
  | undervolt
  | headShort
  | overdraw
  | chargeTimeout
  | prechargeTimeout
  | cellHigh
  | dockFault
  deriving DecidableEq, Repr

/-- A fault-history entry (R173): speed in krpm. -/
structure FaultEntry where
  kind    : FaultKind
  run     : Nat
  soc     : Nat
  tPack   : Int
  speed   : Nat
  seconds : Nat
  deriving DecidableEq, Repr

/-- The hold unit (chapter 9). -/
structure Hold where
  reasons     : Reasons
  heard       : HoldSet
  stopSuction : Bool
  stopCharge  : Bool
  railOff     : Bool
  history     : List FaultEntry
  deriving DecidableEq, Repr

/-- The head-detect state (R176). -/
inductive HeadState where
  | removed
  | settling
  | seated
  deriving DecidableEq, Repr

/-- The dock-detect state (R90). -/
inductive DockState where
  | undocked
  | settling
  | docked
  deriving DecidableEq, Repr

/-- The attachment monitor (chapter 10). -/
structure Attach where
  head          : HeadState
  seatTimer     : Option Nat
  rail          : Bool
  railTimer     : Option Nat
  excess        : Bool
  overdrawTimer : Option Nat
  dock          : DockState
  settleTimer   : Option Nat
  deriving DecidableEq, Repr

/-- The power state (R183). -/
inductive PowerState where
  | starting
  | awake
  | doze
  | sleep
  | ship
  deriving DecidableEq, Repr

/-- The power-state controller (R183 to R187). The ship timer ends at a value of the seconds counter. -/
structure Power where
  state     : PowerState
  dozeTimer : Option Nat
  shipTimer : Option Nat
  deriving DecidableEq, Repr

/-- The state of the 6224. `free` and `pending` are the model's own: the index of the next free value (log 11)
and the queue of commands that wait. -/
structure State where
  time    : Timebase
  pins    : Pins
  loader  : Loader
  pack    : Pack
  allow   : Allowance
  drive   : Drive
  dirt    : Dirt
  charge  : Charge
  line    : Line
  table   : Table
  report  : Report
  hold    : Hold
  attach  : Attach
  power   : Power
  free    : Nat
  pending : List Instr
  deriving DecidableEq, Repr

/-- A cell record after power-on (R21). -/
def Cell.reset : Cell := ⟨0, 0, .openTap, none, 0, false⟩

/-- A thermistor record after power-on (R21). -/
def Thermistor.reset : Thermistor := ⟨0, 25, false, none, 0⟩

/-- The pack monitor after power-on (R21). -/
def Pack.reset : Pack where
  cells := [.reset, .reset, .reset, .reset, .reset, .reset, .reset]
  t1 := .reset
  t2 := .reset
  tPack := 25
  iPack := 0
  vPack := 0
  dockReading := 0
  iRail := 0
  refFails := 0
  direct := true
  packState := .openTap
  sensor := true
  q := 0
  soc := 0
  ocvPending := true
  emptyRest := 0
  scan := .none
  startScan := false
  scanSwitchClosed := false
  scanTimer := none
  deliveryTimer := none
  carried := 0

/-- The allowance unit after power-on (R36). -/
def Allowance.reset : Allowance := ⟨0, 0, 0, true, .off⟩

/-- The drive controller after power-on (R66). The table of R66 gives the PWM period no value before the configuration
load ends, and none to some figures of a step and a control period: they are 0 here (log 44). -/
def Drive.reset : Drive where
  state := .stopped
  period := 0
  periodAt := 0
  bufDuty := 0
  appDuty := 0
  gatesOn := false
  step := 1
  tC := 0
  tRef := 0
  ring := [0, 0, 0, 0, 0, 0]
  stepAvg := 0
  forced := 0
  rampEntry := 0
  speed := 0
  badSteps := 0
  goodCrossings := 0
  rampFailures := 0
  desyncs := 0
  restart := false
  cutoffs := 0
  cutEarly := false
  uvSince := none
  watchedFrom := 0
  blocked := false
  blockedSetSince := none
  blockedClearSince := none
  target := 0
  runNumber := 0
  runs := 0
  secEco := 0
  secMid := 0
  secBoost := 0
  secAuto := 0
  secTotal := 0
  runFraction := 0
  alignTimer := none
  rampTimer := none
  forcedTimer := none
  controlTimer := none
  coastTimer := none
  compare := none
  deadline := none
  armed := false
  crossed := false
  powerSum := 0
  powerCount := 0

/-- Dirt sensing after power-on (R88). -/
def Dirt.reset : Dirt where
  det := .off
  peak := 0
  duration := 0
  ring := 0
  midSeen := false
  midAbove := false
  below := 0
  dead := 0
  sampleAt := none
  queue := []
  tally := 0
  window := 0
  windowSum := 0
  windowTimer := none
  level := 0
  fall := 0
  sampleCount := 0
  sampleRun := none
  samples := []

/-- No pause cause. -/
def Causes.none : Causes := ⟨false, false, false, false, false⟩

/-- The ask outside the charging phases (R95). -/
def Ask.disabled : Ask := ⟨false, 0, 0⟩

/-- A stopwatch at 0. -/
def Stopwatch.zero : Stopwatch := ⟨0, .none⟩

/-- The charge controller after power-on (R113). -/
def Charge.reset : Charge where
  phase := .undocked
  causes := .none
  window := none
  ask := .disabled
  awaiting := false
  echoTimer := none
  resendTimer := none
  regTimer := none
  termination := .zero
  precharge := .zero
  total := .zero
  supplyLost := false
  switch := false
  completions := 0
  mah := 0
  masRem := 0

/-- An empty transmit slot. -/
def TxSlot.reset : TxSlot := ⟨.empty, 0⟩

/-- The line controller after power-on (R132). -/
def Line.reset : Line where
  state := .off
  dominantFrom := none
  risesAt := none
  recessiveFrom := none
  reception := none
  rx := []
  hold := .reset
  ask := .reset
  state_ := .reset
  report := .reset
  attempt := none
  unsettled := none
  ownBreak := none
  breakOwed := false
  pulse := none
  stuck := false
  conflict := none
  stateCadence := none
  holdoff := false
  lastStatePut := none
  holdCadence := none

/-- The empty station table (R163). -/
def Table.reset : Table := ⟨[], [], [], []⟩

/-- The sixteen change flags, all CLEAR (R148). -/
def clearFlags : List FlagState := List.replicate 16 .clear

/-- The report unit after power-on (R148). -/
def Report.reset : Report := ⟨clearFlags, none, .none⟩

/-- The hold unit after power-on (R175): SENSOR and LOW_ALLOWANCE stand. -/
def Hold.reset : Hold where
  reasons :=
    { packEmpty := false, packHot := false, packCold := false, cellHigh := false, sensor := true,
      lowAllowance := true, docked := false, driveFault := false, headShort := false, overdraw := false,
      lineStuck := false, stationConflict := false, master := false }
  heard := 0
  stopSuction := true
  stopCharge := true
  railOff := false
  history := []

/-- The attachment monitor after power-on (R113, R188). -/
def Attach.reset : Attach := ⟨.removed, none, false, none, false, none, .undocked, none⟩

/-- The power-state controller after power-on (R188). -/
def Power.reset : Power := ⟨.starting, none, none⟩

/-- The 6224 right after a power-on (R188). The levels of the pins and `free` are the model's choice (log 11, 13). -/
def State.reset : State where
  time := ⟨0, 0, 0⟩
  pins := ⟨true, true, 0⟩
  loader := ⟨defaultSettings, true, false⟩
  pack := .reset
  allow := .reset
  drive := .reset
  dirt := .reset
  charge := .reset
  line := .reset
  table := .reset
  report := .reset
  hold := .reset
  attach := .reset
  power := .reset
  free := 0
  pending := []

end Sys2Proof.Machine
end

