-- ==== Sys2Proof/Machine/Ops.lean ====
section
/-! DEFINITION. The shared operations: changing one block, the passing of time, and what several blocks ask of
one another's state. -/

namespace Sys2Proof.Machine

/-- What a command answers. -/
abbrev Out := Host.Outcome State Fault Refusal

/-! ### One block at a time -/

def State.onTime (f : Timebase → Timebase) (s : State) : State := { s with time := f s.time }
def State.onPins (f : Pins → Pins) (s : State) : State := { s with pins := f s.pins }
def State.onLoader (f : Loader → Loader) (s : State) : State := { s with loader := f s.loader }
def State.onPack (f : Pack → Pack) (s : State) : State := { s with pack := f s.pack }
def State.onAllow (f : Allowance → Allowance) (s : State) : State := { s with allow := f s.allow }
def State.onDrive (f : Drive → Drive) (s : State) : State := { s with drive := f s.drive }
def State.onDirt (f : Dirt → Dirt) (s : State) : State := { s with dirt := f s.dirt }
def State.onCharge (f : Charge → Charge) (s : State) : State := { s with charge := f s.charge }
def State.onLine (f : Line → Line) (s : State) : State := { s with line := f s.line }
def State.onTable (f : Table → Table) (s : State) : State := { s with table := f s.table }
def State.onReport (f : Report → Report) (s : State) : State := { s with report := f s.report }
def State.onHold (f : Hold → Hold) (s : State) : State := { s with hold := f s.hold }
def State.onAttach (f : Attach → Attach) (s : State) : State := { s with attach := f s.attach }
def State.onPower (f : Power → Power) (s : State) : State := { s with power := f s.power }

/-- The configuration in force (R182). -/
def State.cfg (s : State) : Settings := s.loader.cfg

/-! ### Time (R37) -/

/-- `n` microseconds in ticks. -/
def us (n : Nat) : Nat := 8 * n

/-- `n` milliseconds in ticks. -/
def ms (n : Nat) : Nat := 8000 * n

/-- `n` seconds in ticks. -/
def sec (n : Nat) : Nat := 8000000 * n

/-- The ticks counted so far. -/
def State.now (s : State) : Nat := s.time.ticks

/-- The 32-bit tick counter (R37): it wraps. -/
def State.counter (s : State) : Tick := BitVec.ofNat 32 s.time.ticks

/-- AWAKE or DOZE: the scans, the line and the timers of the blocks run. -/
def PowerState.running : PowerState → Bool
  | .awake | .doze => true
  | _ => false

/-- The tick counter runs in STARTING, AWAKE and DOZE (R37). -/
def PowerState.ticking : PowerState → Bool
  | .sleep | .ship => false
  | _ => true

/-- The unit is AWAKE or in DOZE. -/
def State.running (s : State) : Bool := s.power.state.running

/-- The greatest value of a 32-bit saturating counter. -/
def max32 : Nat := 4294967295

/-- The greatest value of a 16-bit saturating counter. -/
def max16 : Nat := 65535

/-- The part of the running second, in units of 0.125 µs (R37). -/
def Timebase.secFraction (t : Timebase) : Nat := t.steady % 8000000

/-- `n` times 0.125 µs pass (R37): the seconds run in every power state, the ticks stop in SLEEP and SHIP. -/
def elapse (n : Nat) (s : State) : State :=
  s.onTime fun t =>
    { ticks := if s.power.state.ticking then t.ticks + n else t.ticks
      seconds := min max32 (t.seconds + (t.secFraction + n) / 8000000)
      steady := t.steady + n }

/-- The time runs on to tick `d`; no time passes when that tick has come (log 3). -/
def runTo (d : Nat) (s : State) : State :=
  if d ≤ s.now then s else elapse (d - s.now) s

/-- The time runs on until the seconds counter reads `d` (R186); no time passes when it does. -/
def runToSecond (d : Nat) (s : State) : State :=
  if d ≤ s.time.seconds then s
  else elapse ((d - s.time.seconds) * 8000000 - s.time.secFraction) s

/-- The time runs on until `d` units of 0.125 µs have passed since power-on, in any power state; no time passes when
they have. -/
def runToSteady (d : Nat) (s : State) : State :=
  if d ≤ s.time.steady then s else elapse (d - s.time.steady) s

/-- An expiry that repeats: the next one `n` ticks after the one that ended, whenever it was taken (log 3). -/
def again (n : Nat) (t : Option Nat) : Option Nat := t.map (· + n)

/-- A timer that ends at a tick has ended. -/
def State.ended (s : State) (t : Option Nat) : Bool :=
  match t with
  | some d => d ≤ s.now
  | none => false

/-! ### Stopwatches (R101, R104, R109) -/

/-- What the stopwatch shows at tick `now`. -/
def Stopwatch.value (w : Stopwatch) (now : Nat) : Nat :=
  match w.since with
  | some t => w.acc + (now - t)
  | none => w.acc

/-- The stopwatch runs on from `now`, or goes on running. -/
def Stopwatch.run (w : Stopwatch) (now : Nat) : Stopwatch :=
  match w.since with
  | some _ => w
  | none => { w with since := some now }

/-- The stopwatch holds its value. -/
def Stopwatch.stop (w : Stopwatch) (now : Nat) : Stopwatch := ⟨w.value now, none⟩

/-- The tick at which a running stopwatch reaches `limit`. -/
def Stopwatch.endsAt (w : Stopwatch) (limit : Nat) : Option Nat :=
  w.since.map fun t => t + (limit - w.acc)

/-! ### What the blocks ask of each other -/

/-- The charging phases: PRECHARGE, BULK and TOPOFF (chapter 5). -/
def ChargePhase.charging : ChargePhase → Bool
  | .precharge | .bulk | .topoff => true
  | _ => false

/-- The drive states in which the gates are off and the charge switch may be closed (R40, R99). -/
def DriveState.quiet : DriveState → Bool
  | .stopped | .coast | .fault => true
  | _ => false

/-- The drive states in which the gates are driven (R41). -/
def DriveState.driven : DriveState → Bool
  | .align | .ramp | .run => true
  | _ => false

/-- The cell records that take part: cells 1 to N (R1). -/
def State.activeCells (s : State) : List Cell := s.pack.cells.take s.cfg.cells

/-- Q_full: the capacity in mAh times 3,600 (R14). -/
def State.qFull (s : State) : Nat := s.cfg.capacity * 3600

/-- Q takes a value, and SoC is formed from it (R15). -/
def setQ (q : Nat) (s : State) : State :=
  s.onPack fun p => { p with q := q, soc := q * 100 / s.qFull }

/-- The least of some readings (0 of none). -/
def minOf : List Nat → Nat
  | [] => 0
  | x :: xs => xs.foldl min x

/-- The lowest V_meas among cells 1 to N (R7). -/
def State.lowestCell (s : State) : Nat := minOf (s.activeCells.map (·.vMeas))

/-- The highest V_meas among cells 1 to N (R7). -/
def State.highestCell (s : State) : Nat := (s.activeCells.map (·.vMeas)).foldl max 0

/-- A physical bleed switch is closed where the bleed set is, except while the cells are converted (R4). -/
def State.bleedClosed (s : State) (c : Cell) : Bool := c.bleed && s.pack.scan != .cells

/-- The cell taps are connected, except in SHIP: an entry to SHIP disconnects them until a wake (R186), and a wake
from SHIP reconnects them (R187). -/
def State.tapsConnected (s : State) : Bool := decide (s.power.state ≠ .ship)

/-- Every bleed of the bleed set opens (R20). -/
def openBleeds (s : State) : State :=
  s.onPack fun p => { p with cells := p.cells.map fun c => { c with bleed := false } }

/-- Counts of the 48 MHz clock of the PWM timer, six to a tick (R38). -/
def State.counts (s : State) : Nat := 6 * s.now

/-- The PWM timer's modulo counter, counted from the latest period start (R38). -/
def State.pwmCounter (s : State) : Nat := (s.counts - s.drive.periodAt) % s.drive.period

/-- The driven legs are on while the counter is below the applied duty and the on-pulse has not been ended
early (R38, R41). -/
def State.legsOn (s : State) : Bool :=
  s.drive.gatesOn && !s.drive.cutEarly && decide (s.pwmCounter < s.drive.appDuty)

/-- The speed in krpm as a history entry and STATE carry it: saturating at 255 (R140, R173). -/
def State.krpm (s : State) : Nat := min 255 (s.drive.speed / 1000)

/-- A new entry 0 of the fault history; the entry at place 7 of a full history is dropped (R173). -/
def pushHistory (kind : FaultKind) (s : State) : State :=
  s.onHold fun h =>
    { h with history := (⟨kind, s.drive.runNumber, s.pack.soc, s.pack.tPack, s.krpm, s.time.seconds⟩
        :: h.history).take 8 }

/-- Some local reason stands, the master hold among them (R131, R172). -/
def Reasons.any (r : Reasons) : Bool :=
  r.packEmpty || r.packHot || r.packCold || r.cellHigh || r.sensor || r.lowAllowance || r.docked ||
  r.driveFault || r.headShort || r.overdraw || r.lineStuck || r.stationConflict || r.master

/-- Some pause cause stands (R106). -/
def Causes.any (c : Causes) : Bool := c.temp || c.notReady || c.weak || c.unresponsive || c.hold

end Sys2Proof.Machine
end

