-- ==== Sys2Proof/Machine/Operands.lean ====
section
/-! DEFINITION. Reading what a command or a notice carries: the conversions of a scan (R1, R5, R6) and the
payloads of the notices that are heard (R134 to R138, R190). -/

namespace Sys2Proof.Machine

/-! ### The conversions of a scan -/

/-- A cell conversion in whole mV, rounded down and clamped (R1). -/
def cellMv (quarterMv : Int) : Nat := (clampInt 0 5000 (quarterMv.fdiv 4)).toNat

/-- The dock-input conversion, clamped (R1). -/
def ScanReading.dockMv (r : ScanReading) : Nat := (clampInt 0 40000 r.dock).toNat

/-- The head-rail conversion, clamped (R1). -/
def ScanReading.railMa (r : ScanReading) : Nat := (clampInt 0 8000 r.rail).toNat

/-- The mean of the shunt's samples, rounded toward zero and clamped (R6). -/
def ScanReading.meanMa (r : ScanReading) : Int :=
  clampInt (-8000) 40000 ((r.shunt + r.shuntMore.sum).tdiv (r.shuntMore.length + 1))

/-- The reference check: the reading lies within ±2 % of its nominal value (R5). -/
def ScanReading.accepted (r : ScanReading) : Bool := 9800 ≤ r.reference && r.reference ≤ 10200

/-! ### Payloads, read by position; a missing character is 0 (R134) -/

/-- The payload character at an offset. -/
def Notice.at (n : Notice) (k : Nat) : Nat := (n.payload.getD k 0).toNat

/-- The two-byte field at an offset, most significant byte first (R189). -/
def Notice.word (n : Notice) (k : Nat) : Nat := n.at k * 256 + n.at (k + 1)

/-- A coded mode, if the value names one (R135, R189). -/
def modeOf : Nat → Option Mode
  | 0 => some .off
  | 1 => some .eco
  | 2 => some .mid
  | 3 => some .boost
  | 4 => some .auto
  | _ => none

/-- A REQUEST's trigger: bit 0 of the first character (R190). -/
def Notice.trigger (n : Notice) : Bool := n.at 0 % 2 = 1

/-- The request part a REQUEST gives, after the part the record held before (R135). -/
def Notice.requestPart (n : Notice) (before : Option RequestPart) : RequestPart :=
  ⟨n.trigger, (modeOf (n.at 1)).getD ((before.map (·.mode)).getD .off)⟩

/-- The seen set of a REQUEST: sixteen marks in the order of the change set (R135, R190). -/
def Notice.seenSet (n : Notice) : BitVec 16 := BitVec.ofNat 16 (n.word 2)

/-- A coded supply state; a value above 3 is entered as IDLE (R136). -/
def supplyStateOf : Nat → SupplyState
  | 1 => .ready
  | 2 => .output
  | 3 => .fault
  | _ => .idle

/-- The supply part a SUPPLY gives (R136, R190). -/
def Notice.supplyPart (n : Notice) : SupplyPart :=
  ⟨supplyStateOf (n.at 0), n.word 1, n.word 3, n.word 5, n.word 7, n.word 9⟩

/-- A coded draw kind; a value above 2 is entered as other (R137). -/
def drawKindOf : Nat → DrawKind
  | 0 => .head
  | 1 => .tool
  | _ => .other

/-- The draw part a DRAW gives, each current held to 25,500 mA (R137, R190). -/
def Notice.drawPart (n : Notice) : DrawPart :=
  ⟨drawKindOf (n.at 0), min 25500 (n.word 1), min 25500 (n.word 3)⟩

/-- The head-dirt part a HEAD_DIRT gives, its interval held to 1,000 ms and its used mark clear (R137, R190). -/
def Notice.headDirtPart (n : Notice) : HeadDirtPart := ⟨n.word 0, min 1000 (n.word 2), false⟩

/-- The reasons a HOLD carries; marks that name no reason are ignored (R138, R190). -/
def Notice.holdSet (n : Notice) : HoldSet := BitVec.ofNat 6 (n.at 0)

/-- A QUERY's item and argument (R144, R190). -/
def Notice.item (n : Notice) : Nat := n.at 0
def Notice.argument (n : Notice) : Nat := n.at 1

/-! ### The notice classes (R134) -/

/-- The classes whose contents reach the station table only: 4, 7, 9 and 10 to 15 (R134, R138). -/
def otherClass (c : Nat) : Bool := c = 4 || c = 7 || c = 9 || (10 ≤ c && c ≤ 15)

/-- The items named in R145 to R147. -/
def namedItem (k : Nat) : Bool := k ≤ 9 || (16 ≤ k && k ≤ 19)

end Sys2Proof.Machine
end

