-- ==== Sys2Proof/Machine/StationTable.lean ====
section
/-! DEFINITION. The station table (chapter 8): entering a notice, records leaving, and the derived values. -/

namespace Sys2Proof.Machine

/-! ### Records -/

/-- The record of a station, if it has one. -/
def Table.find (t : Table) (st : Nat) : Option Record := t.records.find? (·.station = st)

/-- The record of a station takes a new content. -/
def Table.update (t : Table) (st : Nat) (f : Record → Record) : Table :=
  { t with records := t.records.map fun r => if r.station = st then f r else r }

/-- The role a notice gives is added to those already held (R149). -/
def Roles.add (r : Roles) (n : Notice) : Roles :=
  match n.cls with
  | 2 => { r with handle := true }
  | 3 => { r with dock := true }
  | 5 => if n.drawPart.kind = .head then { r with head := true } else { r with other := true }
  | 8 => { r with tool := true }
  | _ => { r with other := true }

/-- No role. -/
def Roles.none : Roles := ⟨false, false, false, false, false⟩

/-- A record before its first notice. -/
def Record.blank (st : Nat) : Record := ⟨st, .none, false, 0, none, none, none, none, none⟩

/-- A record after a notice of its station: FRESH, its age timer from 0, its role and its part as R149 lays
down; no other part changes (R150). -/
def Record.entered (r : Record) (n : Notice) (now : Nat) : Record :=
  let r := { r with stale := false, heardAt := now, roles := r.roles.add n }
  match n.cls with
  | 1 => { r with heard := some n.holdSet }
  | 2 => { r with request := some (n.requestPart r.request) }
  | 3 => { r with supply := some n.supplyPart }
  | 5 => { r with draw := some n.drawPart }
  | 6 => { r with headDirt := some n.headDirtPart }
  | _ => r

/-- A station to the front of a recency order, leaving its former place (R149). -/
def toFront (st : Nat) (order : List Nat) : List Nat := st :: order.filter (· ≠ st)

/-- The recency order that the notice gives moves (R149). -/
def Table.reorder (t : Table) (n : Notice) : Table :=
  match n.cls with
  | 2 => { t with requestOrder := toFront n.station t.requestOrder }
  | 3 => { t with supplyOrder := toFront n.station t.supplyOrder }
  | 5 => if n.drawPart.kind = .head then { t with headOrder := toFront n.station t.headOrder } else t
  | _ => t

/-- The record becomes the one entered last. -/
def Table.place (t : Table) (r : Record) : Table :=
  { t with records := t.records.filter (·.station ≠ r.station) ++ [r] }

/-- The records that satisfy `p` leave together, and their stations leave the orders (R155). -/
def Table.removeWhere (t : Table) (p : Record → Bool) : Table :=
  let gone := (t.records.filter p).map (·.station)
  { records := t.records.filter fun r => !p r
    requestOrder := t.requestOrder.filter fun st => !gone.contains st
    supplyOrder := t.supplyOrder.filter fun st => !gone.contains st
    headOrder := t.headOrder.filter fun st => !gone.contains st }

/-- The record of a station leaves (R155). -/
def Table.remove (t : Table) (st : Nat) : Table := t.removeWhere (·.station = st)

/-- The older of two records; of two entered at one tick, the first (log 33). -/
def olderOf (a b : Record) : Record := if b.heardAt < a.heardAt then b else a

/-- The stalest STALE record: the one whose age timer stands highest (R151). -/
def Table.stalest (t : Table) : Option Record :=
  match t.records.filter (·.stale) with
  | [] => none
  | r :: rs => some (rs.foldl olderOf r)

/-- The record that a notice evicts (R151): of a station without a record, in a full table, the stalest STALE one. -/
def Table.evicts (t : Table) (n : Notice) : Option Record :=
  if (t.find n.station).isSome || decide (t.records.length < 6) then none else t.stalest

/-- Entering a notice (R150, R151): the table after it, and after the eviction that goes before it, or `none` where a
full table refuses it. -/
def Table.enter (t : Table) (n : Notice) (now : Nat) : Option Table :=
  match t.find n.station with
  | some r => some ((t.place (r.entered n now)).reorder n)
  | none =>
    let r := (Record.blank n.station).entered n now
    if t.records.length < 6 then some ((t.place r).reorder n)
    else (t.evicts n).map fun old => ((t.remove old.station).place r).reorder n

/-! ### Derived values (R158 to R162) -/

/-- The active request: the request part of the first FRESH record of the request order (R158). -/
def Table.activeRequest (t : Table) : Option RequestPart :=
  ((t.requestOrder.filterMap t.find).find? (!·.stale)).bind (·.request)

/-- The active request shows the trigger held (R166, R184). -/
def Table.triggerHeld (t : Table) : Bool :=
  match t.activeRequest with
  | some r => r.held
  | none => false

/-- What the hold unit and the power-state controller are told of: the active request's presence and
trigger (R156). -/
def Table.wish (t : Table) : Option Bool := t.activeRequest.map (·.held)

/-- The dock record: the front of the supply order, FRESH or STALE (R159). -/
def Table.dockRecord (t : Table) : Option Record := t.supplyOrder.head?.bind t.find

/-- A change of the dock record from `a` to `b` is one that the charge controller is told of (R93, R156): it has
appeared, left or given way to another, its supply part has changed, or it has become STALE. A STALE record that any
other notice makes FRESH again is not told of; it is seen at the next event that is (log 41). -/
def tellsDock : Option Record → Option Record → Bool
  | some a, some b => a.station ≠ b.station || a.supply ≠ b.supply || (!a.stale && b.stale)
  | none, none => false
  | _, _ => true

/-- The dock is ready: a FRESH dock record whose supply part shows READY or OUTPUT (R93). Where the dock record leaves
and another stands behind it in the supply order, that record is the dock record at once (R159), and the dock is ready
by it (log 42). -/
def Table.dockReady (t : Table) : Bool :=
  match t.dockRecord with
  | some r =>
    match r.supply with
    | some p => !r.stale && (p.state = .ready || p.state = .output)
    | none => false
  | none => false

/-- The dock's maximum voltage, 0 without a dock record (R93). -/
def Table.dockMaxV (t : Table) : Nat := ((t.dockRecord.bind (·.supply)).map (·.maxV)).getD 0

/-- The dock's maximum current, 0 without a dock record (R93). -/
def Table.dockMaxI (t : Table) : Nat := ((t.dockRecord.bind (·.supply)).map (·.maxI)).getD 0

/-- The wanted draw: the wanted currents of all draw parts, FRESH or STALE (R160). -/
def Table.wantedDraw (t : Table) : Nat :=
  (t.records.map fun r => (r.draw.map (·.wanted)).getD 0).sum

/-- The heard holds: the union over the records whose station lies in the hold station set (R161). -/
def Table.heardUnion (t : Table) (stations : StationSet) : HoldSet :=
  t.records.foldl (fun acc r => if stations.getLsbD r.station then acc ||| r.heard.getD 0 else acc) 0

/-- The HEAD record: the front of the head order (R162). -/
def Table.headRecord (t : Table) : Option Record := t.headOrder.head?.bind t.find

/-- A record of the table put in ascending order of station number (R146). -/
def insertByStation (r : Record) : List Record → List Record
  | [] => [r]
  | x :: xs => if r.station ≤ x.station then r :: x :: xs else x :: insertByStation r xs

/-- The records in ascending order of station number (R146). -/
def Table.byStation (t : Table) : List Record := t.records.foldr insertByStation []

end Sys2Proof.Machine
end

