-- ==== Sys2Proof/Machine/Line.lean ====
section
/-! DEFINITION. The line controller's slots and cadences (R121, R130, R131). -/

namespace Sys2Proof.Machine

/-- A newer notice is put in the slot (R121). -/
def Slot.put (w : List Byte) : Slot → Slot
  | .empty => .pending w
  | .pending _ => .pending w
  | .inFlight f => .inFlightReplaced f w
  | .inFlightReplaced f _ => .inFlightReplaced f w

/-- An attempt of the slot begins with a payload (R122). -/
def Slot.begin (payload : List Byte) : Slot → Slot
  | .pending _ => .inFlight payload
  | s => s

/-- The attempt ends lost: the slot is PENDING with the notice, or with the newer one (R123). -/
def Slot.lost : Slot → Slot
  | .inFlight f => .pending f
  | .inFlightReplaced _ w => .pending w
  | s => s

/-- The attempt completes (R125). -/
def Slot.completed : Slot → Slot
  | .inFlight _ => .empty
  | .inFlightReplaced _ w => .pending w
  | s => s

/-- The slot is PENDING, and with what. -/
def Slot.waiting : Slot → Option (List Byte)
  | .pending w => some w
  | _ => none

/-- The slot has a newer notice behind the one in flight. -/
def Slot.replaced : Slot → Bool
  | .inFlightReplaced _ _ => true
  | _ => false

/-- One of the four transmit slots. -/
def Line.slot (l : Line) : SlotId → TxSlot
  | .hold => l.hold
  | .ask => l.ask
  | .state => l.state_
  | .report => l.report

/-- One of the four transmit slots takes a value. -/
def Line.setSlot (l : Line) (id : SlotId) (t : TxSlot) : Line :=
  match id with
  | .hold => { l with hold := t }
  | .ask => { l with ask := t }
  | .state => { l with state_ := t }
  | .report => { l with report := t }

/-- A transmit slot's state changes; its bit-error count does not. -/
def Line.onSlot (l : Line) (id : SlotId) (f : Slot → Slot) : Line :=
  l.setSlot id { l.slot id with slot := f (l.slot id).slot }

/-- A notice put in a slot since an unsettled bit error is not the notice that was in flight (R124). -/
def Unsettled.noticing (u : Unsettled) (id : SlotId) : Unsettled :=
  if u.slot = id then { u with replaced := true } else u

/-- A notice is put in a slot (R121). -/
def putSlot (id : SlotId) (w : List Byte) (s : State) : State :=
  s.onLine fun l => { l.onSlot id (Slot.put w) with unsettled := l.unsettled.map (·.noticing id) }

/-- The period of the STATE cadence (R130). -/
def State.statePeriod (s : State) : Nat := if s.power.state = .awake then ms 100 else ms 500

/-- STATE is put in its slot, which restarts its cadence and clears the change-holdoff mark (R130). -/
def putState (s : State) : State :=
  (putSlot .state [] s).onLine fun l =>
    { l with stateCadence := some (s.now + s.statePeriod), holdoff := false, lastStatePut := some s.now }

/-- 10 ms or more have passed since STATE was last put in its slot (R130). -/
def State.stateMayGo (s : State) : Bool :=
  match s.line.lastStatePut with
  | some t => t + ms 10 ≤ s.now
  | none => true

/-- A change of STATE content (R130): nothing more while STATE is PENDING; else STATE is put at once, or the
change-holdoff mark is set within 10 ms of the last putting. In STARTING, SLEEP and SHIP STATE is not put. -/
def contentChange (s : State) : State :=
  if !s.running || s.line.state_.slot.waiting.isSome then s
  else if s.stateMayGo then putState s
  else s.onLine fun l => { l with holdoff := true }

/-- HOLD is put in its slot, and its cadence restarts while a local reason stands, else stops (R131). -/
def putHold (s : State) : State :=
  if !s.running then s
  else (putSlot .hold [] s).onLine fun l =>
    { l with holdCadence := if s.hold.reasons.any then some (s.now + ms 200) else none }

end Sys2Proof.Machine
end

