-- ==== Sys2Proof/Machine/Flags.lean ====
section
/-! DEFINITION. The change set (R141 to R143). -/

namespace Sys2Proof.Machine

/-- The sixteen change flags (R189). -/
inductive Flag where
  | stationConflict
  | overdraw
  | rxOverrun
  | lineReset
  | stationLost
  | tableFull
  | blocked
  | driveFault
  | chargeFault
  | chargeDone
  | packEmpty
  | packLow
  | undocked
  | docked
  | headRemoved
  | headAttached
  deriving DecidableEq, Repr

/-- The bit of a flag in the change set (R189). -/
def Flag.bit : Flag → Nat
  | .stationConflict => 0
  | .overdraw => 1
  | .rxOverrun => 2
  | .lineReset => 3
  | .stationLost => 4
  | .tableFull => 5
  | .blocked => 6
  | .driveFault => 7
  | .chargeFault => 8
  | .chargeDone => 9
  | .packEmpty => 10
  | .packLow => 11
  | .undocked => 12
  | .docked => 13
  | .headRemoved => 14
  | .headAttached => 15

/-- A raising, by the flag's state (R141). -/
def FlagState.raised : FlagState → FlagState
  | .clear => .set
  | .set => .set
  | .carried => .carriedAgain
  | .carriedAgain => .carriedAgain

/-- At the start of a STATE attempt in CARRY_ONCE a SET flag becomes CARRIED (R142). -/
def FlagState.carry : FlagState → FlagState
  | .set => .carried
  | f => f

/-- The attempt's outcome: completed (R142). -/
def FlagState.completed : FlagState → FlagState
  | .carried => .clear
  | .carriedAgain => .set
  | f => f

/-- The attempt's outcome: lost or errored (R142). -/
def FlagState.lost : FlagState → FlagState
  | .carried => .set
  | .carriedAgain => .set
  | f => f

/-- The state of a flag. -/
def State.flag (s : State) (f : Flag) : FlagState := s.report.flags.getD f.bit .clear

/-- A flag is raised, which is a change of STATE content (R141). -/
def raise (f : Flag) (s : State) : State :=
  contentChange (s.onReport fun r => { r with flags := r.flags.modify f.bit FlagState.raised })

/-- Every flag changes by `g`. -/
def onFlags (g : FlagState → FlagState) (s : State) : State :=
  s.onReport fun r => { r with flags := r.flags.map g }

/-- The start of a STATE attempt marks the flags in CARRY_ONCE only (R142, R143). -/
def carryFlags (s : State) : State :=
  match s.cfg.reportMode with
  | .carryOnce => onFlags .carry s
  | .untilClear => s

/-- The outcome of a STATE attempt reaches the report unit, which acts on it in CARRY_ONCE only (R142, R143). -/
def flagsOutcome (g : FlagState → FlagState) (s : State) : State :=
  match s.cfg.reportMode with
  | .carryOnce => onFlags g s
  | .untilClear => s

/-- The flags, with their bits, of which a seen set marks the SET ones to be cleared (R143). -/
def clearSeen (seen : BitVec 16) : (bit : Nat) → List FlagState → List FlagState
  | _, [] => []
  | k, f :: fs => (if seen.getLsbD k && f = .set then .clear else f) :: clearSeen seen (k + 1) fs

/-- A REQUEST's seen set acts in UNTIL_CLEAR only (R135, R143). -/
def seenActs (seen : BitVec 16) (s : State) : State :=
  match s.cfg.reportMode with
  | .carryOnce => s
  | .untilClear => s.onReport fun r => { r with flags := clearSeen seen 0 r.flags }

/-- A flag is carried as set by a STATE formed now (R142, R143). -/
def FlagState.shown : FlagState → Bool
  | .carried => true
  | .set => true
  | _ => false

/-- The change set as a number, the first flag in bit 0. -/
def flagBits : List FlagState → Nat
  | [] => 0
  | f :: fs => bitNat f.shown + 2 * flagBits fs

end Sys2Proof.Machine
end

