-- ==== Sys2Proof/Machine/DirtSensing.lean ====
section
/-! DEFINITION. Dirt sensing (chapter 4): the impact detector, the queue, scoring, windows and the dirt level. -/

namespace Sys2Proof.Machine

/-! ### Entering and leaving RUN (R86, R87) -/

/-- The entry to RUN (R68, R77, R80, R86): the first sample falls 10 µs later, window 0 opens for 100 ms, and the
sample count starts afresh at the first RUN of a run. -/
def Dirt.openRun (d : Dirt) (now run : Nat) : Dirt :=
  { d with
    det := .ready
    below := 0
    dead := 0
    sampleAt := some (now + us 10)
    window := 0
    windowSum := 0
    windowTimer := some (now + ms 100)
    sampleCount := if d.sampleRun = some run then d.sampleCount else 0
    sampleRun := some run }

/-- The leaving of RUN (R68, R87): the impact in progress, the queue, the scoring, the tally and the open window are
discarded, and L is 0. The sample queue, count and run are kept. -/
def Dirt.closeRun (d : Dirt) : Dirt :=
  { d with
    det := .off
    peak := 0
    duration := 0
    ring := 0
    midSeen := false
    midAbove := false
    below := 0
    dead := 0
    sampleAt := none
    queue := []
    tally := 0
    windowSum := 0
    windowTimer := none
    level := 0
    fall := 0 }

/-! ### The impact detector (R69 to R72) -/

/-- The highest peak class whose threshold a sample reaches (R69). -/
def peakClass (c : Settings) (v : Nat) : Nat :=
  if c.thHigh ≤ v then 3 else if c.thMid ≤ v then 2 else 1

/-- An impact begins with this sample (R69). -/
def Dirt.beginImpact (d : Dirt) (c : Settings) (v : Nat) : Dirt :=
  { d with
    det := .above
    peak := peakClass c v
    duration := 1
    ring := 0
    midSeen := c.thMid ≤ v
    midAbove := c.thMid ≤ v
    below := 0 }

/-- What every later sample of an impact does, in ABOVE or TRAILING: the peak class is raised (R69), a re-crossing
of th_mid is counted and the mid marks follow (R71). -/
def Dirt.trackSample (d : Dirt) (c : Settings) (v : Nat) : Dirt :=
  let crossing := decide (c.thMid ≤ v) && !d.midAbove
  { d with
    peak := max d.peak (peakClass c v)
    ring := if crossing && d.midSeen then satSucc 15 d.ring else d.ring
    midSeen := d.midSeen || crossing
    midAbove := c.thMid ≤ v }

/-- The impact queue takes a record, or the overflow tally rises when it holds 32 (R73, R74). -/
def Dirt.offer (d : Dirt) (r : Impact) : Dirt :=
  if d.queue.length < 32 then { d with queue := d.queue ++ [r] }
  else { d with tally := satSucc 4095 d.tally }

/-- The end of an impact (R72): a glitch is discarded, else the record is handed to the queue; DEAD for two samples. -/
def Dirt.endImpact (d : Dirt) : Dirt :=
  let d' := if d.duration < 3 then d else d.offer ⟨d.peak, d.duration, d.ring, d.window⟩
  { d' with det := .dead, dead := 2, below := 0 }

/-- One envelope sample (R68 to R72). -/
def Dirt.sample (d : Dirt) (c : Settings) (v : Nat) : Dirt :=
  match d.det with
  | .off => d
  | .ready => if c.thLow ≤ v then d.beginImpact c v else d
  | .above =>
    let d := d.trackSample c v
    if c.thLow ≤ v then { d with duration := satSucc 255 d.duration }
    else { d with det := .trailing, below := 1 }
  | .trailing =>
    let d := d.trackSample c v
    if c.thLow ≤ v then { d with det := .above, duration := satSucc 255 d.duration, below := 0 }
    else if d.below + 1 < 4 then { d with below := d.below + 1 }
    else d.endImpact
  | .dead => if d.dead ≤ 1 then { d with det := .ready, dead := 0 } else { d with dead := d.dead - 1 }

/-! ### Scoring (R75 to R78) -/

/-- A record matches an entry of the class table (R76). -/
def entryAccepts (e : ClassEntry) (r : Impact) : Bool :=
  e.enabled && e.peaks.getLsbD (r.peak - 1) && decide (e.durMin ≤ r.duration) && decide (r.duration ≤ e.durMax) &&
  decide (e.ringMin ≤ r.ring) && decide (r.ring ≤ e.ringMax)

/-- The class and weight of the first entry that a record matches; unclassed, with weight 0, when none does (R76). -/
def classify (r : Impact) : (number : Nat) → List ClassEntry → Option Nat × Nat
  | _, [] => (none, 0)
  | k, e :: es => if entryAccepts e r then (some k, e.weight) else classify r (k + 1) es

/-- A copy is offered to the sample queue, which skips it when it holds 16 (R78). -/
def Dirt.copySample (d : Dirt) (smp : Sample) : Dirt :=
  if d.samples.length < 16 then { d with samples := d.samples ++ [smp] } else d

/-- The sample count after one more scored record (R77). -/
def Dirt.countSample (d : Dirt) (prescale : Nat) (smp : Sample) : Dirt :=
  if prescale = 0 then { d with sampleCount := 0 }
  else if d.sampleCount + 1 < prescale then { d with sampleCount := d.sampleCount + 1 }
  else { d.copySample smp with sampleCount := 0 }

/-- The completion of the scoring of the oldest record, in run `run` (R75). -/
def Dirt.score (d : Dirt) (c : Settings) (run : Nat) : Dirt :=
  match d.queue with
  | [] => d
  | r :: rest =>
    let cw := classify r 0 c.classes
    let d := { d with windowSum := min max16 (d.windowSum + cw.2) }
    { d.countSample c.prescale ⟨cw.1, cw.2, r.window, run % 256⟩ with queue := rest }

/-! ### Windows and the dirt level (R80 to R84) -/

/-- The head part H of a head-dirt part (R82). -/
def headPart (wHead : Nat) (p : HeadDirtPart) : Nat :=
  if p.interval = 0 then 0 else min 255 (p.count * wHead * 100 / p.interval)

/-- The head-dirt part that a window expiry uses: of a FRESH HEAD record, with its used mark clear (R82). -/
def Table.usableHeadDirt (t : Table) : Option (Nat × HeadDirtPart) :=
  match t.headRecord with
  | some r =>
    match r.headDirt with
    | some p => if !r.stale && !p.used then some (r.station, p) else none
    | none => none
  | none => none

/-- The used mark of a station's head-dirt part is set (R162). -/
def Table.markUsed (t : Table) (st : Nat) : Table :=
  t.update st fun r => { r with headDirt := r.headDirt.map fun p => { p with used := true } }

/-- The raw level: the number of dirt thresholds that S reaches (R83). -/
def rawLevel (thresholds : List Nat) (score : Nat) : Nat := (thresholds.filter (· ≤ score)).length

/-- The dirt level after a window (R84): it rises at once and falls one step per five windows below it. -/
def Dirt.levelAfter (d : Dirt) (raw : Nat) : Dirt :=
  if d.level ≤ raw then { d with level := raw, fall := 0 }
  else if d.fall + 1 < 5 then { d with fall := d.fall + 1 }
  else { d with level := d.level - 1, fall := 0 }

/-- The window score S (R81). -/
def Dirt.windowScore (d : Dirt) (c : Settings) (h : Nat) : Nat := min max16 (d.windowSum + d.tally * c.wOver + h)

/-- A window expiry with head part `h` (R80, R81, R83, R84); the expiries stay 100 ms apart from the entry to RUN. -/
def Dirt.closeWindow (d : Dirt) (c : Settings) (h : Nat) : Dirt :=
  let d' := d.levelAfter (rawLevel c.dirt (d.windowScore c h))
  { d' with
    tally := 0
    windowSum := 0
    window := satSucc max16 d.window
    windowTimer := again (ms 100) d.windowTimer }

end Sys2Proof.Machine
end

