-- ==== Sys2Proof/Machine/DriveControl.lean ====
section
/-! DEFINITION. The drive controller's operations (chapter 3): duties, commutation, the drive states and the arrival of
a target. -/

namespace Sys2Proof.Machine

/-! ### The PWM timer (R38, R39) -/

/-- duty_max = period − min_off (R38). -/
def State.dutyMax (s : State) : Nat := s.drive.period - s.cfg.minOff

/-- duty_min_run = period / 10 (R38). -/
def Drive.dutyMinRun (d : Drive) : Nat := d.period / 10

/-- A duty is written into the buffer, clamped to 0 to duty_max (R39). -/
def writeDuty (duty : Nat) (s : State) : State :=
  s.onDrive fun d => { d with bufDuty := min duty s.dutyMax }

/-! ### Six-step commutation (R43) -/

/-- The phases driven high and low in a step (R43). -/
def bridge : Nat → MotorPhase × MotorPhase
  | 1 => (.a, .b)
  | 2 => (.a, .c)
  | 3 => (.b, .c)
  | 4 => (.b, .a)
  | 5 => (.c, .a)
  | _ => (.c, .b)

/-- The floating phase of a step and the edge captured on it (R43). -/
def floating : Nat → MotorPhase × Edge
  | 1 => (.c, .rising)
  | 2 => (.b, .falling)
  | 3 => (.a, .rising)
  | 4 => (.c, .falling)
  | 5 => (.b, .rising)
  | _ => (.a, .falling)

/-- A commutation: the next step, t_c, and the capture armed for the new step (R43). -/
def commutate (s : State) : State :=
  s.onDrive fun d =>
    { d with step := if d.step = 6 then 1 else d.step + 1, tC := s.counter, armed := true, crossed := false }

/-- From a crossing to the commutation it schedules: step_avg / 2 − step_avg × advance / 100 (R46). -/
def commutationDelay (avg advance : Nat) : Nat := avg / 2 - avg * advance / 100

/-- The speed in rpm of a step time in ticks (R63). -/
def speedOf (ticks : Nat) : Nat := 80000000 / ticks

/-! ### The drive states -/

/-- The drive's part of an entry to STOPPED, COAST or FAULT (R40, R41, R43, R57, R59, R61): gates off, duty 0, every
timer cancelled, capture disarmed, BLOCKED cleared. The undervoltage timer runs on only in COAST (R42). -/
def Drive.quieted (d : Drive) (st : DriveState) : Drive :=
  { d with
    state := st
    bufDuty := 0
    appDuty := 0
    gatesOn := false
    speed := 0
    cutoffs := 0
    cutEarly := false
    uvSince := if st = .coast then d.uvSince else none
    blocked := false
    blockedSetSince := none
    blockedClearSince := none
    alignTimer := none
    rampTimer := none
    forcedTimer := none
    controlTimer := none
    coastTimer := none
    compare := none
    deadline := none
    armed := false
    powerSum := 0
    powerCount := 0 }

/-- The drive enters STOPPED, COAST or FAULT; from RUN, dirt sensing is closed (R87). -/
def quietDrive (st : DriveState) (s : State) : State :=
  let s' := if s.drive.state = .run then s.onDirt Dirt.closeRun else s
  s'.onDrive (·.quieted st)

/-- The entry to ALIGN (R41, R50): step 1, duty_align in the buffer, the 150 ms align timer. -/
def enterAlign (s : State) : State :=
  (writeDuty s.cfg.dutyAlign s).onDrive fun d =>
    { d with
      state := .align
      step := 1
      alignTimer := some (s.now + ms 150)
      coastTimer := none
      cutoffs := 0
      cutEarly := false
      gatesOn := false
      speed := 0
      armed := false }

/-- A run starts (R49, R64); from here on the bus voltage is judged (R42). -/
def startRun (s : State) : State :=
  enterAlign (s.onDrive fun d =>
    { d with
      runNumber := (d.runNumber + 1) % 65536
      runs := satSucc max16 d.runs
      rampFailures := 0
      desyncs := 0
      restart := false
      watchedFrom := s.now })

/-- The entry to STOPPED ends the run; a target above 0 that stands at that moment starts a new one (R49). -/
def enterStopped (s : State) : State :=
  let s := quietDrive .stopped s
  if s.drive.target = 0 then s else startRun s

/-- The entry to COAST (R59): the 1.5 s coast timer, and the restart mark by the cause. -/
def enterCoast (restart : Bool) (s : State) : State :=
  (quietDrive .coast s).onDrive fun d => { d with coastTimer := some (s.now + ms 1500), restart := restart }

/-- A target arrives at the drive, which records it and acts on it by its state (R60). -/
def driveTarget (w : Nat) (s : State) : State :=
  let s := s.onDrive fun d => { d with target := w }
  match s.drive.state with
  | .stopped => if w = 0 then s else startRun s
  | .align => if w = 0 then enterCoast false s else s
  | .ramp => if w = 0 then enterCoast false s else s
  | .run => if w = 0 then enterCoast false s else s
  | .coast => if w = 0 then s.onDrive fun d => { d with restart := false } else s
  | .fault => s

/-! ### RAMP and RUN -/

/-- The forced interval of a commutation made `t` ticks after the entry to RAMP (R51). -/
def forcedInterval (t : Nat) : Nat := 40000 - 33334 * t / 3200000

/-- The duty written at a forced commutation `t` ticks after the entry to RAMP (R51). -/
def rampDuty (dutyAlign dutyMinRun t : Nat) : Nat :=
  (alongSegment dutyAlign ((dutyMinRun : Int) + 60 - dutyAlign) t 3200000).toNat

/-- A forced commutation now (R51): the forced interval, the next forced commutation, the speed and the duty. -/
def forceCommutation (s : State) : State :=
  let t := s.now - s.drive.rampEntry
  let i := forcedInterval t
  writeDuty (rampDuty s.cfg.dutyAlign s.drive.dutyMinRun t)
    ((commutate s).onDrive fun d => { d with forced := i, forcedTimer := some (s.now + i), speed := speedOf i })

/-- The entry to RAMP (R51, R52): the 400 ms ramp timer and the first commutation. -/
def enterRamp (s : State) : State :=
  forceCommutation (s.onDrive fun d =>
    { d with
      state := .ramp
      alignTimer := none
      rampTimer := some (s.now + ms 400)
      rampEntry := s.now
      goodCrossings := 0 })

/-- The entry to RUN at a crossing in RAMP (R52): the ring filled with the forced interval, t_ref the crossing, the
next commutation scheduled, the control timer started, and dirt window 0 opened (R86). -/
def enterRun (s : State) : State :=
  let i := s.drive.forced
  let s' := s.onDrive fun d =>
    { d with
      state := .run
      rampTimer := none
      forcedTimer := none
      ring := List.replicate 6 i
      stepAvg := i
      speed := speedOf i
      tRef := s.counter
      badSteps := 0
      blocked := false
      blockedSetSince := none
      blockedClearSince := none
      compare := some (s.now + commutationDelay i s.cfg.advance)
      deadline := none
      controlTimer := some (s.now + ms 1)
      powerSum := 0
      powerCount := 0 }
  s'.onDirt (·.openRun s.now s.drive.runNumber)

/-- A bad or missed step (R45, R47); the count stays at 3 until the desync is taken (log 5). -/
def Drive.badStep (d : Drive) : Drive := { d with badSteps := min 3 (d.badSteps + 1) }

/-- A good interval enters the step ring (R45). -/
def Drive.goodInterval (d : Drive) (interval : Nat) : Drive :=
  let ring := d.ring.drop 1 ++ [interval]
  let avg := ring.sum / 6
  { d with
    ring := ring
    stepAvg := avg
    speed := speedOf avg
    badSteps := if d.badSteps = 3 then 3 else 0 }

/-- The interval is good: from step_avg / 2 to 3 × step_avg / 2 (R45), and at least 1 tick (log 12). -/
def goodIn (avg interval : Nat) : Bool := 1 ≤ interval && avg / 2 ≤ interval && interval ≤ 3 * avg / 2

/-- The crossing of a step in RUN (R45, R46). -/
def crossingInRun (s : State) : State :=
  let interval := (s.counter - s.drive.tRef).toNat
  let s := s.onDrive fun d =>
    let d := if goodIn d.stepAvg interval then d.goodInterval interval else d.badStep
    { d with tRef := s.counter, crossed := true, deadline := none }
  s.onDrive fun d => { d with compare := some (s.now + commutationDelay d.stepAvg s.cfg.advance) }

/-- The crossing of a step in RAMP (R52); `off` is its offset from the step's commutation. -/
def crossingInRamp (off : Nat) (s : State) : State :=
  let i := s.drive.forced
  let good := i / 4 ≤ off && off ≤ 3 * i / 4
  let s := s.onDrive fun d =>
    { d with crossed := true, goodCrossings := if good then d.goodCrossings + 1 else 0 }
  if 12 ≤ s.drive.goodCrossings then enterRun s else s

/-- The blanking time of the step in force (R44). -/
def Drive.blanking (d : Drive) : Nat := if d.state = .ramp then d.forced / 4 else d.stepAvg / 4

/-- A comparator edge is accepted (R44): of the armed kind on the floating phase, after blanking, the first of its
step. -/
def Drive.accepts (d : Drive) (phase : MotorPhase) (edge : Edge) (off : Nat) : Bool :=
  d.armed && !d.crossed && decide (floating d.step = (phase, edge)) && decide (d.blanking ≤ off)

/-- The mean bus power of a control period in W (R54); with no product it is a free value (log 11). -/
def meanPower (sum count free : Nat) : Nat :=
  if count = 0 then Config.freePower free else sum / count / 1000000

/-- The duty a control expiry writes (R55, R56): the feed-forward cut, or the step of at most 8 counts; clamped. -/
def regulate (c : Settings) (d : Drive) (dutyMax pMeas : Nat) : Nat :=
  let raw : Int :=
    if 5 * d.target < 4 * pMeas then ((d.bufDuty * d.target / pMeas : Nat) : Int)
    else if c.overspeed * 1000 < d.speed then (d.bufDuty : Int) - 8
    else (d.bufDuty : Int) + clampInt (-8) 8 ((((d.target : Int) - pMeas) * c.gain).tdiv 16)
  min dutyMax (max d.dutyMinRun raw.toNat)

/-- The timers of the BLOCKED mark, judged at a control expiry at tick `now` (R57). -/
def Drive.judgeBlocked (d : Drive) (c : Settings) (now : Nat) : Drive :=
  let limit := c.blockedSpeed * 1000
  { d with
    blockedSetSince := if limit ≤ d.speed then some (d.blockedSetSince.getD now) else none
    blockedClearSince :=
      if d.blocked && decide (d.speed < limit - 10000) then some (d.blockedClearSince.getD now) else none }

/-- One second in RUN in the mode in force; none of the per-mode counters in OFF (R65). -/
def Drive.countSecond (d : Drive) (m : Mode) : Drive :=
  let d := { d with runFraction := 0, secTotal := satSucc max32 d.secTotal }
  match m with
  | .off => d
  | .eco => { d with secEco := satSucc max32 d.secEco }
  | .mid => { d with secMid := satSucc max32 d.secMid }
  | .boost => { d with secBoost := satSucc max32 d.secBoost }
  | .auto => { d with secAuto := satSucc max32 d.secAuto }

end Sys2Proof.Machine
end

