-- ==== Sys2Proof/Machine/AllowanceUnit.lean ====
section
/-! DEFINITION. The allowance unit (chapter 2): the nine stages, the excess judgement that follows them, and the two
zeroings between computations. -/

namespace Sys2Proof.Machine

/-! ### The nine stages (R24 to R34) -/

/-- A current lowered to the multiple of 100 mA at or below it (R24, R25). -/
def lowered (ma : Nat) : Nat := ma / 100 * 100

/-- Stage 1, the temperature limit I_T (R24). -/
def tempLimit (c : Settings) (t : Int) : Nat :=
  if c.tCut ≤ t then 0
  else if t < c.tDisLow then 0
  else if t ≤ c.tDerate then c.iMax
  else lowered (c.iMax * (c.tCut - t).toNat / (c.tCut - c.tDerate).toNat)

/-- Stage 2, the voltage limit I_V of the lowest compensated voltage (R25). -/
def voltLimit (c : Settings) (v : Int) : Nat :=
  if (c.vLowC : Int) ≤ v then c.iMax
  else if v ≤ (c.vFloor : Int) then 0
  else lowered (c.iMax * (v - c.vFloor).toNat / (c.vLowC - c.vFloor))

/-- Stage 4, the accessory share I_share (R26). -/
def accessoryShare (c : Settings) (packLim : Nat) : Nat := min c.iAccCap (packLim - c.iHk)

/-- Stage 4, the reserve I_res (R27). -/
def reserve (share iRail wAcc : Nat) : Nat := min share (max iRail wAcc)

/-- Stage 5, the motor limit I_mot (R28). -/
def motorLimit (packLim res iHk : Nat) : Nat := packLim - res - iHk

/-- Stage 6, the allowance P_allow (R28). -/
def allowance (c : Settings) (iMot vPack : Nat) (switchClosed : Bool) : Nat :=
  if switchClosed then 0 else min c.pMotorMax (iMot * vPack / 1000000)

/-- The mode power of a mode before its caps (R30). -/
def modePower (c : Settings) (level : Nat) : Mode → Nat
  | .off => 0
  | .eco => c.pEco
  | .mid => c.pMid
  | .boost => c.pBoost
  | .auto => c.pAutoBase + level * c.pAutoStep

/-- The mode in force: the active request's with the trigger held, else OFF (R30). -/
def modeInForce : Option RequestPart → Mode
  | some ⟨true, m⟩ => m
  | _ => .off

/-- A cap lowers a power while its condition stands (R31). -/
def capped (stands : Bool) (cap p : Nat) : Nat := if stands then min cap p else p

/-- Stage 7, the mode power after its two caps (R30, R31); without a held trigger the mode in force is OFF. -/
def wantedPower (c : Settings) (m : Mode) (level soc : Nat) (blocked : Bool) : Nat :=
  capped blocked c.pEco (capped (decide (soc < 10)) c.pMid (modePower c level m))

/-- Stage 8, LOW_ALLOWANCE (R32). -/
def lowAfter (c : Settings) (p : Nat) (before : Bool) : Bool :=
  if p < c.pRunMin then true else if c.pRunMin + 20 ≤ p then false else before

/-- The slew of a raw target against the previous target (R34). -/
def slew (pRunMin prev raw : Nat) : Nat :=
  if prev = 0 then pRunMin else if raw ≤ prev then raw else min raw (prev + 50)

/-- Stage 9, the target (R33). -/
def newTarget (c : Settings) (stop low : Bool) (pMode pAllow prev : Nat) : Nat :=
  if stop || low || pMode = 0 then 0 else slew c.pRunMin prev (min pMode pAllow)

/-- The lowest compensated voltage among cells 1 to N (R7). -/
def State.vMinC (s : State) : Int :=
  match s.activeCells.map (·.vc) with
  | [] => 0
  | x :: xs => xs.foldl min x

/-- The pack limit I_pack_lim (R26). -/
def State.packLimit (s : State) : Nat := min (tempLimit s.cfg s.pack.tPack) (voltLimit s.cfg s.vMinC)

/-- The results of the allowance computation on the figures that now stand (R23). -/
def State.computed (s : State) : Allowance :=
  let c := s.cfg
  let lim := s.packLimit
  let share := accessoryShare c lim
  let iMot := motorLimit lim (reserve share s.pack.iRail s.table.wantedDraw) c.iHk
  let p := allowance c iMot s.pack.vPack s.charge.switch
  let m := modeInForce s.table.activeRequest
  let low := lowAfter c p s.allow.low
  { pAllow := p
    iShare := share
    target := newTarget c s.hold.stopSuction low (wantedPower c m s.dirt.level s.pack.soc s.drive.blocked) p
      s.allow.target
    low := low
    mode := m }

/-! ### The excess judgement (R180) -/

/-- The rail current exceeds 110 % of the share while the rail is on (R180). -/
def State.railExcess (s : State) : Bool :=
  s.attach.rail && decide (110 * s.allow.iShare < s.pack.iRail * 100)

/-- The excess mark is judged, and the overdraw timer runs on, starts or stops (R180). -/
def excessJudge (s : State) : State :=
  s.onAttach fun a =>
    { a with
      excess := s.railExcess
      overdrawTimer := if s.railExcess then some (a.overdrawTimer.getD (s.now + ms 500)) else none }

/-! ### Between two computations (R29, R35) -/

/-- The target becomes 0 at once and is handed to the drive (R29, R35). -/
def zeroTarget (s : State) : State := driveTarget 0 (s.onAllow fun a => { a with target := 0 })

/-- The charge switch has closed (R29): P_allow is 0, and a target that is not 0 becomes 0. -/
def switchClosed (s : State) : State :=
  let s := s.onAllow fun a => { a with pAllow := 0 }
  if s.allow.target = 0 then s else zeroTarget s

end Sys2Proof.Machine
end

