-- ==== Sys2Proof/Machine/ChargeControl.lean ====
section
/-! DEFINITION. The charge controller's operations (chapter 5): the window, the ask, the switch, the causes and the
phases. -/

namespace Sys2Proof.Machine

/-! ### The charge window (R94) -/

/-- A temperature lies in a window's own range (R94). -/
def inRange (t : Int) (w : ChargeWindow) : Bool := decide (w.tLo ≤ t) && decide (t ≤ w.tHi)

/-- A temperature lies in a selected window's band (R94). -/
def inBand (t : Int) (w : ChargeWindow) : Bool := decide (w.tLo - 2 ≤ t) && decide (t ≤ w.tHi + 2)

/-- The first enabled window whose range contains a temperature (R94). -/
def firstWindow (ws : List ChargeWindow) (t : Int) : Option Nat := ws.findIdx? fun w => w.enabled && inRange t w

/-- The review of a selection: kept within its band, else made afresh (R94). -/
def reviewWindow (ws : List ChargeWindow) (sel : Option Nat) (t : Int) : Option Nat :=
  match sel.bind (ws[·]?) with
  | some w => if inBand t w then sel else firstWindow ws t
  | none => firstWindow ws t

/-- The window in force. -/
def State.window (s : State) : Option ChargeWindow := s.charge.window.bind (s.cfg.windows[·]?)

/-- The window in force, where it has a charge current (R94). -/
def State.liveWindow (s : State) : Option ChargeWindow :=
  match s.window with
  | some w => if w.iChg = 0 then none else some w
  | none => none

/-! ### The ask (R95, R96) -/

/-- The full v_ask of a cell voltage (R95). -/
def State.fullV (s : State) (vCell : Nat) : Nat := s.cfg.cells * vCell + s.cfg.vContact

/-- The i_ask of a window in a phase (R95). -/
def State.askCurrent (s : State) (w : ChargeWindow) : Nat :=
  let i := min w.iChg (min s.table.dockMaxI s.cfg.iChgMax)
  if s.charge.phase = .precharge then min s.cfg.iPre i else i

/-- The ask of the phase in force; `topV` is the regulated v_ask of TOPOFF (R95). -/
def State.askFor (s : State) (topV : Nat) : Ask :=
  if s.charge.phase.charging then
    match s.window with
    | some w => ⟨true, if s.charge.phase = .topoff then topV else s.fullV w.vCell, s.askCurrent w⟩
    | none => .disabled
  else .disabled

/-- The payload of a CHARGE_ASK (R190). -/
def Ask.payload (a : Ask) : List Byte := BitVec.ofNat 8 (bitNat a.enable) :: (toBytes 2 a.v ++ toBytes 2 a.i)

/-- The ask in force becomes `a`; a change is put in its slot, awaits its echo and restarts the resend and echo
timers, which run in the charging phases only (R96, R98). -/
def changeAsk (a : Ask) (s : State) : State :=
  if a = s.charge.ask then s
  else (putSlot .ask a.payload s).onCharge fun c =>
    { c with
      ask := a
      awaiting := true
      resendTimer := if c.phase.charging then some (s.now + ms 500) else none
      echoTimer := if c.phase.charging then some (s.now + sec 3) else none }

/-- The ask is formed afresh from its inputs (R95). -/
def refreshAsk (s : State) : State := changeAsk (s.askFor s.charge.ask.v) s

/-! ### The charge switch (R99) -/

/-- The four conditions of the closed switch (R99). -/
def State.switchWanted (s : State) : Bool :=
  s.charge.phase.charging && !s.charge.awaiting && s.drive.state.quiet && !s.hold.stopCharge

/-- The charge switch follows its conditions (R99); a closing zeroes the allowance (R29), an opening holds the
termination timer (R104), and either ends "closed throughout" for a scan in progress (R108). -/
def switchJudge (s : State) : State :=
  if s.switchWanted = s.charge.switch then s
  else if s.switchWanted then
    switchClosed ((s.onPack fun p => { p with scanSwitchClosed := false }).onCharge fun c => { c with switch := true })
  else
    (s.onPack fun p => { p with scanSwitchClosed := false }).onCharge fun c =>
      { c with switch := false, termination := c.termination.stop s.now }

/-! ### Phases and causes (R100 to R107) -/

/-- A change of phase (R101 to R104, R106, R109): the precharge and total timers run or hold, the regulation timer runs
in TOPOFF, the termination timer is 0, the echo and resend timers stop outside the charging phases, the pause causes
are cleared, and the bleeds open unless the phase is TOPOFF or DONE (R20). -/
def enterPhase (ph : ChargePhase) (s : State) : State :=
  let s := s.onCharge fun c =>
    { c with
      phase := ph
      causes := .none
      total := if ph.charging then c.total.run s.now else c.total.stop s.now
      precharge := if ph = .precharge then c.precharge.run s.now else c.precharge.stop s.now
      regTimer := if ph = .topoff then some (s.now + ms 500) else none
      termination := .zero
      echoTimer := if ph.charging then c.echoTimer else none
      resendTimer := if ph.charging then c.resendTimer else none }
  if ph = .topoff || ph = .done then s else openBleeds s

/-- DOCK_WEAK: a window with a charge current is selected and the dock cannot reach its full v_ask (R106). -/
def State.dockWeak (s : State) : Bool :=
  match s.liveWindow with
  | some w => decide (s.table.dockMaxV < s.fullV w.vCell)
  | none => false

/-- The pause causes that stand now (R106); DOCK_UNRESPONSIVE goes on standing until the mark clears (R98). -/
def State.causesNow (s : State) : Causes where
  temp := s.liveWindow.isNone
  notReady := !s.table.dockReady || s.charge.supplyLost
  weak := s.dockWeak
  unresponsive := s.charge.causes.unresponsive && s.charge.awaiting
  hold := s.hold.stopCharge

/-- The causes of the WAITING decision (R100). -/
def State.waitingCauses (s : State) : Causes :=
  { Causes.none with temp := s.liveWindow.isNone, weak := s.dockWeak, hold := s.hold.stopCharge }

/-- PAUSED with a set of causes (R106). -/
def enterPaused (cs : Causes) (s : State) : State := (enterPhase .paused s).onCharge fun c => { c with causes := cs }

/-- The WAITING decision (R100). -/
def waitingDecision (s : State) : State :=
  if !s.table.dockReady then s
  else if s.waitingCauses.any then enterPaused s.waitingCauses s
  else if s.lowestCell < 3000 then enterPhase .precharge s
  else enterPhase .bulk s

/-- What the standing causes do to the phase: a charging phase pauses (R106), a pause re-forms its set and ends when
it is empty (R107), WAITING decides (R100). -/
def chargeReview (s : State) : State :=
  match s.charge.phase with
  | .precharge => if s.causesNow.any then enterPaused s.causesNow s else s
  | .bulk => if s.causesNow.any then enterPaused s.causesNow s else s
  | .topoff => if s.causesNow.any then enterPaused s.causesNow s else s
  | .paused =>
    if s.causesNow.any then s.onCharge fun c => { c with causes := s.causesNow }
    else waitingDecision (enterPhase .waiting s)
  | .waiting => waitingDecision s
  | .undocked => s
  | .done => s
  | .fault => s

/-- The charge controller settles after an event: its phase, its ask and its switch. -/
def chargeSettle (s : State) : State := switchJudge (refreshAsk (chargeReview s))

/-! ### Docking, undocking and faults (R91, R92, R110) -/

/-- Dock detect changes to UNDOCKED (R91); at the entry to SLEEP or SHIP no ask is put (R114). -/
def undock (sendAsk : Bool) (s : State) : State :=
  let s := if sendAsk && s.charge.phase.charging then putSlot .ask Ask.disabled.payload s else s
  switchJudge (openBleeds (s.onCharge fun c =>
    { c with
      phase := .undocked
      causes := .none
      window := none
      ask := .disabled
      awaiting := false
      echoTimer := none
      resendTimer := none
      regTimer := none
      termination := .zero
      precharge := .zero
      total := .zero
      supplyLost := false }))

/-- Dock detect changes to DOCKED (R92): WAITING, with a window selected afresh. -/
def dockIn (s : State) : State :=
  (enterPhase .waiting s).onCharge fun c => { c with window := firstWindow s.cfg.windows s.pack.tPack }

/-- The entry to charge FAULT (R110). -/
def chargeFault (kind : FaultKind) (s : State) : State :=
  pushHistory kind (raise .chargeFault (switchJudge (refreshAsk (enterPhase .fault s))))

/-- The entry to DONE (R104, R17, R112). -/
def chargeDone (s : State) : State :=
  let s := switchJudge (refreshAsk (enterPhase .done s))
  raise .chargeDone ((setQ s.qFull s).onCharge fun c =>
    { c with completions := satSucc max16 c.completions, total := .zero, precharge := .zero })

/-! ### A SUPPLY event (R93, R97, R108) -/

/-- A set value lies within ±2 % of what was asked (R97). -/
def within2 (set ask : Nat) : Bool := decide (100 * (max set ask - min set ask) ≤ 2 * ask)

/-- A supply part echoes an ask (R97). -/
def echoes (p : SupplyPart) (a : Ask) : Bool :=
  if a.enable then p.state = .output && within2 p.setV a.v && within2 p.setI a.i
  else p.state = .ready || p.state = .idle

/-- A SUPPLY event of the dock record with supply part `p`: the supply-lost mark clears (R108), the ask in force is
tested for its echo (R97, log 17), and a state FAULT in a charging phase is a charge FAULT (R110). -/
def supplyEvent (p : SupplyPart) (s : State) : State :=
  let echo := echoes p s.charge.ask
  let s := s.onCharge fun c =>
    { c with
      supplyLost := false
      awaiting := c.awaiting && !echo
      echoTimer := if echo then none else c.echoTimer }
  if p.state = .fault && s.charge.phase.charging then chargeFault .dockFault s else s

/-! ### TOPOFF (R103, R104) -/

/-- The charge current: −I_pack where it is negative, else 0 (R103). -/
def State.chargeCurrent (s : State) : Nat := (-s.pack.iPack).toNat

/-- The step of v_ask at a regulation expiry (R103). -/
def State.regulatedV (s : State) (w : ChargeWindow) : Nat :=
  let v := s.charge.ask.v
  if w.vCell + 10 < s.highestCell then max (v - 20) (s.fullV (w.vCell - 100))
  else if s.highestCell + 30 < w.vCell && s.chargeCurrent + 100 < s.charge.ask.i then min (v + 20) (s.fullV w.vCell)
  else v

/-- The termination condition of a scan (R104). -/
def State.ending (s : State) : Bool :=
  decide (s.chargeCurrent < s.cfg.iTerm) && decide (s.highestCell ≤ s.lowestCell + 30)

/-- The termination timer at an accepted scan in TOPOFF with the switch closed (R104). -/
def terminationJudge (s : State) : State :=
  if s.charge.phase = .topoff && s.charge.switch then
    s.onCharge fun c => { c with termination := if s.ending then c.termination.run s.now else .zero }
  else s

/-! ### The scan's part (R94, R101, R102, R105, R108, R110) -/

/-- The supply-lost guard of an accepted scan (R108). -/
def supplyGuard (throughout : Bool) (s : State) : State :=
  if throughout && decide (s.pack.dockReading + 100 ≤ s.pack.vPack) then
    s.onCharge fun c => { c with supplyLost := true }
  else s

/-- The window review of an accepted scan (R94); in TOPOFF a change of window sets v_ask to the new full value. -/
def windowReview (s : State) : State :=
  if s.charge.phase = .undocked then s
  else
    let sel := reviewWindow s.cfg.windows s.charge.window s.pack.tPack
    if sel = s.charge.window then s
    else
      let s := chargeReview (s.onCharge fun c => { c with window := sel })
      match s.window with
      | some w => if s.charge.phase = .topoff then changeAsk (s.askFor (s.fullV w.vCell)) s else s
      | none => s

/-- The progress of a charging phase at an accepted scan (R101, R102), and the recharge from DONE (R105). -/
def phaseProgress (s : State) : State :=
  match s.charge.phase with
  | .precharge => if 3100 ≤ s.lowestCell then enterPhase .bulk s else s
  | .bulk =>
    match s.window with
    | some w => if w.vCell ≤ s.highestCell + 20 then enterPhase .topoff s else s
    | none => s
  | .done =>
    match s.liveWindow with
    | some w => if s.lowestCell + 150 < w.vCell then waitingDecision (enterPhase .waiting s) else s
    | none => s
  | _ => s

/-- The charge controller at an accepted scan: `high` says that a cell's class has become HIGH, `throughout` that the
switch was closed throughout the scan. The supply guard and the window review come first and the tests of the phase
after them, with the window then in force; no test is made in a phase that the review has only now given (log 43). R111
gives no order among the blocks that are told of a phase: the bleeds open with the change, `scanCharge` has the
power-state controller judge next, and STATE follows (log 47). -/
def chargeScan (high throughout : Bool) (s : State) : State :=
  let s := if high && (s.charge.phase.charging || s.charge.phase = .paused) then chargeFault .cellHigh s else s
  let s := supplyGuard throughout s
  let before := s.charge.phase
  let s := refreshAsk (chargeReview (windowReview s))
  let s := if s.charge.phase = before then phaseProgress s else s
  let s := switchJudge (refreshAsk s)
  if before = .topoff then terminationJudge s else s

end Sys2Proof.Machine
end

