-- ==== Sys2Proof/Machine/Attachments.lean ====
section
/-! DEFINITION. The head rail's permission (R178) and the change between AWAKE and DOZE with the timers it moves
(R2, R130, R184 to R186). -/

namespace Sys2Proof.Machine

/-! ### The head rail (R178) -/

/-- The head rail is permitted (R178). -/
def State.railPermitted (s : State) : Bool :=
  decide (s.attach.head = .seated) && !s.hold.railOff && s.running

/-- The rail follows its permission (R178): an event that permits it starts the 50 ms rail-on timer, one that ends the
permission turns it off and stops its timers (R180). -/
def railJudge (s : State) : State :=
  s.onAttach fun a =>
    if s.railPermitted then
      if a.rail then a else { a with railTimer := some (a.railTimer.getD (s.now + ms 50)) }
    else { a with rail := false, railTimer := none, excess := false, overdrawTimer := none }

/-! ### AWAKE and DOZE (R184) -/

/-- One of the three conditions that hold the unit AWAKE stands (R184). -/
def State.keptAwake (s : State) : Bool :=
  s.drive.state != .stopped || s.charge.phase.charging || s.table.triggerHeld

/-- A pending end more than `n` ticks away is brought forward (R2, R130). -/
def broughtForward (n now : Nat) (t : Option Nat) : Option Nat := t.map (min (now + n))

/-- The doze timer runs in DOZE while not docked (R185). -/
def State.dozeAfter (s : State) : Option Nat :=
  if s.power.state = .doze && decide (s.attach.dock ≠ .docked) then some (s.power.dozeTimer.getD (s.now + sec 120))
  else none

/-- The ship timer runs in DOZE while the pack is EMPTY, in whole seconds (R186). -/
def State.shipAfter (s : State) : Option Nat :=
  if s.power.state = .doze && decide (s.pack.packState = .empty) then
    some (s.power.shipTimer.getD (s.time.seconds + 600))
  else none

/-- The doze and ship timers follow their conditions. -/
def powerTimers (s : State) : State :=
  s.onPower fun p => { p with dozeTimer := s.dozeAfter, shipTimer := s.shipAfter }

/-- The power state becomes AWAKE or DOZE; a change to AWAKE brings the next scan to 10 ms and the next STATE to
100 ms (R2, R130, R184). -/
def enterAwakeOrDoze (awake : Bool) (s : State) : State :=
  if awake then
    if s.power.state = .awake then s
    else
      ((s.onPower fun p => { p with state := .awake }).onPack fun p =>
        { p with scanTimer := broughtForward (ms 10) s.now p.scanTimer }).onLine fun l =>
        { l with stateCadence := broughtForward (ms 100) s.now l.stateCadence }
  else s.onPower fun p => { p with state := .doze }

/-- The power-state controller judges its conditions, in AWAKE and DOZE (R184 to R186). -/
def powerJudge (s : State) : State :=
  if s.running then powerTimers (enterAwakeOrDoze s.keptAwake s) else s

/-- The drive's state has changed: the charge controller and the power-state controller are told (R63, R99, R184). -/
def handDrive (s : State) : State := powerJudge (switchJudge s)

/-- The dock or a cause has changed: the charge controller settles and the power-state controller is told. -/
def handCharge (s : State) : State := powerJudge (chargeSettle s)

end Sys2Proof.Machine
end

