-- ==== Sys2Proof/Machine/HoldUnit.lean ====
section
/-! DEFINITION. The hold unit (chapter 9): the reasons, the three outputs, the DRIVE_FAULT latch, and what a change of
the station table sets off (R156). -/

namespace Sys2Proof.Machine

/-! ### Reasons and outputs (R164 to R170) -/

/-- The live reasons as their owners' conditions stand; the other reasons as they are (R164). -/
def State.liveReasons (s : State) : Reasons :=
  { s.hold.reasons with
    packEmpty := s.pack.packState = .empty
    cellHigh := s.activeCells.any fun c => c.cls = .high
    sensor := s.pack.sensor
    lowAllowance := s.allow.low
    docked := s.attach.dock = .docked
    lineStuck := s.line.stuck
    stationConflict := s.line.conflict.isSome }

/-- A local reason other than MASTER that stops suction stands (R170, R171). -/
def Reasons.localStop (r : Reasons) : Bool :=
  r.packEmpty || r.packHot || r.packCold || r.cellHigh || r.sensor || r.lowAllowance || r.docked || r.driveFault ||
  r.lineStuck || r.stationConflict

/-- Stop-suction (R170). -/
def stopsSuction (r : Reasons) (heard : HoldSet) : Bool := r.localStop || r.master || decide (heard ≠ 0)

/-- Stop-charge (R170). -/
def Reasons.stopsCharge (r : Reasons) : Bool := r.cellHigh || r.sensor || r.lineStuck || r.master

/-- Rail-off (R170). -/
def Reasons.stopsRail (r : Reasons) : Bool := r.packEmpty || r.headShort || r.overdraw || r.master

/-- The reasons, the heard union and the three outputs are formed afresh (R169, R170). -/
def formHolds (s : State) : State :=
  let r := s.liveReasons
  let h := s.table.heardUnion s.cfg.holdStations
  s.onHold fun o =>
    { o with
      reasons := r
      heard := h
      stopSuction := stopsSuction r h
      stopCharge := r.stopsCharge
      railOff := r.stopsRail }

/-- Stop-charge, changed from `before`, is handed to the charge controller (R99, R100, R106); else only the switch is
judged, since a target of 0 may have changed the drive's state (R99). -/
def handStopCharge (before : Bool) (s : State) : State :=
  if s.hold.stopCharge = before then switchJudge s else chargeSettle s

/-- Each output that changes is handed to its reader (R170): stop-suction rising zeroes the target (R35), stop-charge
acts on the charge controller, rail-off on the rail (R178). -/
def handReasons (s : State) : State :=
  let f := formHolds s
  let f := if f.hold.stopSuction && !s.hold.stopSuction then zeroTarget f else f
  powerJudge (railJudge (handStopCharge s.hold.stopCharge f))

/-- A local reason of the hold unit's own takes a value, and the outputs follow. -/
def onReasons (f : Reasons → Reasons) (s : State) : State :=
  handReasons (s.onHold fun h => { h with reasons := f h.reasons })

/-! ### The DRIVE_FAULT latch (R61, R62, R166) -/

/-- The drive leaves FAULT for STOPPED when its latch has been cleared (R62). -/
def leaveFault (s : State) : State := if s.drive.state = .fault then enterStopped s else s

/-- A test of the DRIVE_FAULT latch against the active request (R166). -/
def latchTest (s : State) : State :=
  if s.hold.reasons.driveFault && !s.table.triggerHeld then
    onReasons (fun r => { r with driveFault := false }) (leaveFault s)
  else s

/-- The drive enters FAULT (R61) and the hold unit latches it, pushes its entry and tests the active request in the same
event (R166): without a held trigger the latch is gone again and the drive passes to STOPPED (R62). -/
def driveFault (kind : FaultKind) (s : State) : State :=
  let s := raise .driveFault (quietDrive .fault (pushHistory kind s))
  if s.table.triggerHeld then onReasons (fun r => { r with driveFault := true }) s
  else onReasons (fun r => { r with driveFault := false }) (enterStopped s)

/-! ### What a change of the table sets off (R156) -/

/-- The station table has changed from `t0`: each block that is told at once acts (R156; the charge controller at the
changes that R93 lists, log 41). -/
def handTable (t0 : Table) (s : State) : State :=
  let s := if s.table.wish = t0.wish then s else latchTest s
  let s := if s.table.heardUnion s.cfg.holdStations = s.hold.heard then s else handReasons s
  if tellsDock t0.dockRecord s.table.dockRecord then handCharge s else powerJudge s

/-- The station table takes a value, and the change is handed on. -/
def setTable (t : Table) (s : State) : State := handTable s.table (s.onTable fun _ => t)

end Sys2Proof.Machine
end

