-- ==== Sys2Proof/Machine/Notices.lean ====
section
/-! DEFINITION. What the 6224 sends: the payloads of HOLD and STATE (R140, R171, R172, R190), the beginning of an
attempt (R122), and what an event tells the line at its end (R130, R131, log 8). -/

namespace Sys2Proof.Machine

/-! ### Codes (R189) -/

def CellClass.code : CellClass → Nat
  | .good => 0
  | .low => 1
  | .empty => 2
  | .high => 3
  | .openTap => 4

def ChargePhase.code : ChargePhase → Nat
  | .undocked => 0
  | .waiting => 1
  | .precharge => 2
  | .bulk => 3
  | .topoff => 4
  | .done => 5
  | .paused => 6
  | .fault => 7

def DriveState.code : DriveState → Nat
  | .stopped => 0
  | .align => 1
  | .ramp => 2
  | .run => 3
  | .coast => 4
  | .fault => 5

def Mode.code : Mode → Nat
  | .off => 0
  | .eco => 1
  | .mid => 2
  | .boost => 3
  | .auto => 4

def SupplyState.code : SupplyState → Nat
  | .idle => 0
  | .ready => 1
  | .output => 2
  | .fault => 3

def FaultKind.code : FaultKind → Nat
  | .overcurrent => 1
  | .startFail => 2
  | .desync => 3
  | .undervolt => 4
  | .headShort => 5
  | .overdraw => 6
  | .chargeTimeout => 7
  | .prechargeTimeout => 8
  | .cellHigh => 9
  | .dockFault => 10

/-- The class a transmit slot sends (R121). -/
def SlotId.cls : SlotId → Nat
  | .hold => 1
  | .ask => 4
  | .state => 7
  | .report => 9

/-- A number as a byte. -/
def byte (n : Nat) : Byte := BitVec.ofNat 8 n

/-! ### HOLD and STATE -/

/-- The hold summary, its marks in bits 0 to 4 (R171, R190). -/
def State.holdSummary (s : State) : Nat :=
  bitNat s.hold.reasons.localStop + 2 * bitNat (s.hold.heard ≠ 0) + 4 * bitNat s.hold.stopCharge +
  8 * bitNat s.hold.railOff + 16 * bitNat s.hold.reasons.master

/-- The reasons sent as STOP, HOT and FAULT (R172). -/
def Reasons.asStop (r : Reasons) : Bool := r.packEmpty || r.lowAllowance || r.docked || r.master
def Reasons.asHot (r : Reasons) : Bool := r.packHot || r.packCold
def Reasons.asFault (r : Reasons) : Bool :=
  r.driveFault || r.headShort || r.overdraw || r.sensor || r.cellHigh || r.lineStuck || r.stationConflict

/-- The payload of a HOLD formed now (R172, R190). -/
def holdPayload (r : Reasons) : List Byte := [byte (bitNat r.asStop + 4 * bitNat r.asHot + 16 * bitNat r.asFault)]

/-- The share in its line form (R26). -/
def State.shareLine (s : State) : Nat := s.allow.iShare / 100

/-- The payload of a STATE formed now (R140, R190). -/
def statePayload (s : State) : List Byte :=
  [ byte (s.pack.packState.code + 16 * s.charge.phase.code),
    byte s.pack.soc,
    byte (s.drive.state.code + 8 * s.allow.mode.code + 64 * bitNat s.drive.blocked + 128 * bitNat s.loader.defaultsMark),
    byte s.dirt.level ] ++
  toBytes 2 s.allow.pAllow ++
  [ byte s.shareLine, byte s.holdSummary ] ++
  toBytes 2 (flagBits s.report.flags) ++
  [ byte s.krpm ]

/-- What counts as STATE content (R130): every field but the change set, the defaults mark and the speed. -/
def State.content (s : State) : List Nat :=
  [ s.allow.pAllow, s.shareLine, s.allow.mode.code, s.pack.soc, s.pack.packState.code, s.charge.phase.code,
    s.drive.state.code, bitNat s.drive.blocked, s.dirt.level, s.holdSummary ]

/-! ### Attempts (R122) -/

/-- The PENDING slot of lowest class, with what waits in it (R122). -/
def Line.nextSlot (l : Line) : Option (SlotId × List Byte) :=
  match l.hold.slot.waiting with
  | some w => some (.hold, w)
  | none =>
    match l.ask.slot.waiting with
    | some w => some (.ask, w)
    | none =>
      match l.state_.slot.waiting with
      | some w => some (.state, w)
      | none => l.report.slot.waiting.map fun w => (.report, w)

/-- The payload of an attempt: formed now for HOLD and STATE, fixed for the others (R121, R122). -/
def payloadNow (id : SlotId) (waiting : List Byte) (s : State) : List Byte :=
  match id with
  | .hold => holdPayload s.hold.reasons
  | .state => statePayload s
  | .ask => waiting
  | .report => waiting

/-- The answer of the pending SHIP order leaves the slot for the line (R122, R147). -/
def ShipAnswer.launched : ShipAnswer → ShipAnswer
  | .waiting => .flying
  | a => a

/-- The answer of the pending SHIP order, in flight, waits in its slot again (R123, R124, R147). -/
def ShipAnswer.landed : ShipAnswer → ShipAnswer
  | .flying => .waiting
  | a => a

/-- Where the SHIP answer stands changes with an attempt of the REPORT slot (R147). -/
def onAnswer (id : SlotId) (g : ShipAnswer → ShipAnswer) (s : State) : State :=
  if id = .report then s.onReport fun r => { r with shipAnswer := g r.shipAnswer } else s

/-- An attempt begins from a slot (R122): STATE marks its flags (R142), and the notice goes out from its header on. -/
def startAttempt (id : SlotId) (waiting : List Byte) (s : State) : State :=
  let s := onAnswer id .launched (if id = .state then carryFlags s else s)
  let payload := payloadNow id waiting s
  s.onLine fun l =>
    { l.onSlot id (Slot.begin payload) with
      state := .busy
      dominantFrom := some s.now
      risesAt := none
      recessiveFrom := none
      reception := none
      attempt := some ⟨id, s.now, noticeChars id.cls s.cfg.station payload⟩ }

/-- The line is IDLE with no attempt in progress or unsettled (R122, R124). -/
def State.mayBegin (s : State) : Bool :=
  s.running && decide (s.line.state = .idle) && s.line.attempt.isNone && s.line.unsettled.isNone

/-- An attempt begins, where one may and a slot is PENDING (R122). -/
def beginAttempt (s : State) : State :=
  if s.mayBegin then
    match s.line.nextSlot with
    | some (id, w) => startAttempt id w s
    | none => s
  else s

/-! ### The end of an event (log 8) -/

/-- A change of STATE content since `s0` reaches the line (R130). -/
def tellState (s0 s : State) : State := if s.content = s0.content then s else contentChange s

/-- A change of the local reasons since `s0` reaches the line (R131, R172). -/
def tellHold (s0 s : State) : State := if s.hold.reasons = s0.hold.reasons then s else putHold s

/-- What has changed since `s0` is told to the line: STATE's content, then the local reasons. -/
def tell (s0 s : State) : State := tellHold s0 (tellState s0 s)

/-- The event has entered SLEEP or SHIP and been woken from it again (log 20): the wake has ordered a break. The changes
of the entry are put in no slot (R133), and those since it have been told at the wake. -/
def State.rewoken (s s0 : State) : Bool :=
  s0.running && s.line.ownBreak.isSome && decide (s.line.ownBreak ≠ s0.line.ownBreak)

/-- What an event that began in `s0` tells the line at its end, and the attempt that may then begin. -/
def publish (s0 s : State) : State := beginAttempt (if s.rewoken s0 then s else tell s0 s)

/-- An event's effect, followed by what it tells the line and the attempt that may then begin (R122, R130, R131). A
step is one event, but for SCAN_COMPLETION, an eviction before an entry, and a service action after one, whose events
follow one another (R155, R164, log 8). -/
def asEvent (f : State → State) (s : State) : State := publish s (f s)

/-- A step that is one event. -/
def finish (f : State → State) (s : State) : Out := .next (asEvent f s)

/-- A step's effect where its condition holds, with what it tells the line; else no effect (log 1). -/
def finishIf (cond : Bool) (f : State → State) (s : State) : Out := if cond then finish f s else .next s

/-- The expiry of a timer that ends at tick `t`: the time runs on to it, and its effect follows; a timer that does not
run has no expiry (log 1, log 3). -/
def onTimer (t : Option Nat) (f : State → State) (s : State) : Out :=
  match t with
  | some d => finish (fun s => f (runTo d s)) s
  | none => .next s

/-- The same, for an expiry that tells the line nothing. -/
def onTimerQuietly (t : Option Nat) (f : State → State) (s : State) : Out :=
  match t with
  | some d => .next (f (runTo d s))
  | none => .next s

end Sys2Proof.Machine
end

