-- ==== Sys2Proof/Machine/Reports.lean ====
section
/-! DEFINITION. The answers to QUERYs (R144 to R147, R191). -/

namespace Sys2Proof.Machine

/-- The status of an answer (R189). -/
inductive Status where
  | ok
  | empty
  | unknown
  | refused
  deriving DecidableEq, Repr

def Status.code : Status → Nat
  | .ok => 0
  | .empty => 1
  | .unknown => 2
  | .refused => 3

/-- An answer's payload: item, argument, status with its item marks, values (R190, R191). -/
def answer (item arg : Nat) (st : Status) (marks : Nat) (values : List Byte) : List Byte :=
  [byte item, byte arg, byte (st.code + 16 * marks)] ++ values

/-- An OK answer with values and no item marks. -/
def okAnswer (n : Notice) (values : List Byte) : List Byte := answer n.item n.argument .ok 0 values

/-- An answer without values. -/
def bareAnswer (n : Notice) (st : Status) : List Byte := answer n.item n.argument st 0 []

/-! ### Values (R145, R191) -/

def identValues (s : State) : List Byte :=
  [byte s.cfg.station, byte s.cfg.cells] ++ toBytes 2 s.cfg.capacity ++ [byte (bitNat s.loader.defaultsMark)]

def runsValues (s : State) : List Byte := toBytes 2 s.drive.runs ++ toBytes 4 s.drive.secTotal

def modeTimeValues (arg : Nat) (s : State) : List Byte :=
  if arg % 2 = 0 then toBytes 4 s.drive.secEco ++ toBytes 4 s.drive.secMid
  else toBytes 4 s.drive.secBoost ++ toBytes 4 s.drive.secAuto

def chargeCountsValues (s : State) : List Byte := toBytes 2 s.charge.completions ++ toBytes 4 s.charge.mah

/-- The reading of cell k + 1 as reported: 0 mV above N (R145). -/
def State.reportedCell (s : State) (k : Nat) : Nat := (s.activeCells.map (·.vMeas)).getD k 0

/-- Five 13-bit fields in nine bytes, the seven bits left over being 0 (R189, R191). -/
def cellsAValues (s : State) : List Byte :=
  toBytes 9 (packFields 13 ((List.range 5).map s.reportedCell) * 128)

def cellsBValues (s : State) : List Byte :=
  toBytes 2 (s.reportedCell 5) ++ toBytes 2 (s.reportedCell 6) ++
  [ signedByte s.pack.t1.temp, signedByte s.pack.t2.temp,
    byte (bitNat s.pack.t1.faulty + 2 * bitNat s.pack.t2.faulty) ] ++
  toBytes 2 (s.pack.iPack + 8000).toNat

/-- The values of a fault-history entry (R146, R191). -/
def faultValues (e : FaultEntry) : List Byte :=
  toBytes 2 e.run ++ [byte e.soc, signedByte e.tPack, byte e.speed] ++ toBytes 4 e.seconds

/-- The values of a sample record (R146, R191). -/
def sampleValues (e : Sample) : List Byte :=
  [byte (e.cls.getD 8), byte e.weight] ++ toBytes 2 e.window ++ [byte e.run]

/-- The local reasons as the sixteen bits of item HOLDS (R191). -/
def Reasons.bits (r : Reasons) : Nat :=
  bitNat r.packEmpty + 2 * bitNat r.packHot + 4 * bitNat r.packCold + 8 * bitNat r.cellHigh + 16 * bitNat r.sensor +
  32 * bitNat r.lowAllowance + 64 * bitNat r.docked + 128 * bitNat r.driveFault + 256 * bitNat r.headShort +
  512 * bitNat r.overdraw + 1024 * bitNat r.lineStuck + 2048 * bitNat r.stationConflict

def holdsValues (s : State) : List Byte :=
  toBytes 2 s.hold.reasons.bits ++ [byte (bitNat s.hold.reasons.master), s.hold.heard.setWidth 8]

/-- The roles of a record as bits (R191). -/
def Roles.bits (r : Roles) : Nat :=
  bitNat r.handle + 2 * bitNat r.dock + 4 * bitNat r.head + 8 * bitNat r.tool + 16 * bitNat r.other

/-- The parts a record holds, with bit 7 set when it is STALE (R191). -/
def Record.partBits (r : Record) : Nat :=
  bitNat r.request.isSome + 2 * bitNat r.supply.isSome + 4 * bitNat r.draw.isSome + 8 * bitNat r.headDirt.isSome +
  16 * bitNat r.heard.isSome + 128 * bitNat r.stale

/-- The time since a record was last heard, in ms, at most 1,000 (R146). -/
def Record.ageMs (r : Record) (now : Nat) : Nat := min 1000 ((now - r.heardAt) / ms 1)

/-- The trigger, mode and supply state of a record in one byte (R191). -/
def Record.wishBits (r : Record) : Nat :=
  (match r.request with
    | some q => 128 * bitNat q.held + 16 * q.mode.code
    | none => 0) +
  (match r.supply with
    | some p => p.state.code
    | none => 0)

/-- The values of a station record (R146, R191). -/
def recordValues (r : Record) (now : Nat) : List Byte :=
  [byte r.station, byte r.roles.bits, byte r.partBits] ++ toBytes 2 (r.ageMs now) ++
  [ byte r.wishBits, byte ((r.draw.map (·.wanted)).getD 0 / 100), byte ((r.draw.map (·.present)).getD 0 / 100),
    (r.heard.getD 0).setWidth 8 ]

/-! ### Items that index (R146) -/

/-- The answer to item FAULT (R146, R174): the fault kind stands in the item marks. -/
def faultAnswer (n : Notice) (s : State) : List Byte :=
  match s.hold.history[n.argument % 8]? with
  | some e => answer n.item n.argument .ok e.kind.code (faultValues e)
  | none => bareAnswer n .empty

/-- The answer to item SAMPLE, before the record is removed (R146). -/
def sampleAnswer (n : Notice) (s : State) : List Byte :=
  match s.dirt.samples with
  | e :: _ => okAnswer n (sampleValues e)
  | [] => bareAnswer n .empty

/-- The answer to item TABLE (R146). -/
def tableAnswer (n : Notice) (s : State) : List Byte :=
  match s.table.byStation[n.argument % 8]? with
  | some r => okAnswer n (recordValues r s.now)
  | none => bareAnswer n .empty

/-- The sender is in the service station set (R147). -/
def State.serves (s : State) (n : Notice) : Bool := s.cfg.serviceStations.getLsbD n.station

end Sys2Proof.Machine
end

