-- ==== Sys2Proof/Machine/PowerModes.lean ====
section
/-! DEFINITION. Head removal, the entries to DOZE, SLEEP and SHIP, the wake (chapter 10), and how an attempt ends with
what that means for the pending SHIP order (R123 to R127, R142, R147). -/

namespace Sys2Proof.Machine

/-! ### Head and dock, judged from their pins (R90, R176, R177) -/

/-- A removal of the head (R177): rail off, HEAD records removed (R154), head latches cleared (R167), flag raised. -/
def removal (s : State) : State :=
  let s := raise .headRemoved (s.onAttach fun a =>
    { a with head := .removed, rail := false, railTimer := none, excess := false, overdrawTimer := none })
  onReasons (fun r => { r with headShort := false, overdraw := false })
    (setTable (s.table.removeWhere (·.roles.head)) s)

/-- Both contacts are low (R176). -/
def State.contactsLow (s : State) : Bool := !s.pins.hd1High && !s.pins.hd2High

/-- The head-detect state enters SETTLING, its seat timer at 0 (R176). -/
def headSettles (s : State) : State := s.onAttach fun a => { a with head := .settling, seatTimer := some (s.now + ms 20) }

/-- The head-detect state set against the contacts, at the end of STARTING and at a wake (R176, R187). A removal at a
wake raises HEAD_REMOVED (R177, R187) although R148 has every flag CLEAR until the wake break: a DESIGN CHOICE
(log 48). -/
def judgeContacts (s : State) : State :=
  match s.attach.head with
  | .removed => if s.contactsLow then headSettles s else s
  | .seated => if s.contactsLow then s else removal s
  | .settling => s

/-- The dock-input voltage stands above 5,000 mV (R90). -/
def State.dockHigh (s : State) : Bool := decide (5000 < s.pins.dockMv)

/-- Dock detect enters SETTLING (R90). -/
def dockSettles (s : State) : State :=
  s.onAttach fun a => { a with dock := .settling, settleTimer := some (s.now + ms 50) }

/-- Dock detect judged from its level, at the end of STARTING and at a wake (R90). -/
def judgeDockPin (s : State) : State := if s.dockHigh then dockSettles s else s

/-! ### The end of an attempt (R123, R124, R127, R142) -/

/-- The attempt in progress carries the answer of the pending SHIP order (R147). -/
def State.sendsShip (s : State) (a : Attempt) : Bool := decide (a.slot = .report) && decide (s.report.shipAnswer = .flying)

/-- The answer of the pending SHIP order is in flight and a newer one waits behind it: a loss drops it (R123,
log 18). -/
def State.lossDropsShip (s : State) : Bool :=
  match s.line.attempt with
  | some a => s.sendsShip a && s.line.report.slot.replaced
  | none => false

/-- The outcome of a STATE attempt reaches the report unit (R125); the others' do not. -/
def outcome (id : SlotId) (g : FlagState → FlagState) (s : State) : State :=
  if id = .state then flagsOutcome g s else s

/-- An attempt in progress ends lost (R123): its slot is PENDING again. -/
def loseAttempt (s : State) : State :=
  match s.line.attempt with
  | some a =>
    onAnswer a.slot .landed
      (outcome a.slot .lost (s.onLine fun l => { l.onSlot a.slot Slot.lost with attempt := none }))
  | none => s

/-- An attempt whose bit error is not settled ends lost, its count unchanged (R124, R127, R129). -/
def loseUnsettled (s : State) : State :=
  match s.line.unsettled with
  | some u => outcome u.slot .lost (s.onLine fun l => { l with unsettled := none })
  | none => s

/-! ### SLEEP, SHIP and the wake (R22, R67, R89, R114, R133, R148, R163, R185 to R187) -/

/-- A cell record with its candidate cleared and its bleed open. -/
def Cell.quieted (c : Cell) : Cell := { c with cand := none, candCount := 0, bleed := false }

/-- A thermistor record with its candidate cleared. -/
def Thermistor.quieted (t : Thermistor) : Thermistor := { t with cand := none, candCount := 0 }

/-- The pack monitor stops (R22). -/
def Pack.quieted (p : Pack) : Pack :=
  { p with
    cells := p.cells.map Cell.quieted
    t1 := p.t1.quieted
    t2 := p.t2.quieted
    refFails := 0
    emptyRest := 0
    scan := .none
    startScan := false
    scanSwitchClosed := false
    scanTimer := none
    deliveryTimer := none
    carried := 0 }

/-- The attachment monitor's part (R114, R185): rail off, a SETTLING head back to REMOVED, dock detect UNDOCKED. -/
def Attach.quieted (a : Attach) : Attach :=
  { head := if a.head = .settling then .removed else a.head
    seatTimer := none
    rail := false
    railTimer := none
    excess := false
    overdrawTimer := none
    dock := .undocked
    settleTimer := none }

/-- The drive's part (R36, R67): the target is 0, and the drive is STOPPED from any state but FAULT. -/
def quietTarget (s : State) : State :=
  let s := (zeroTarget s).onAllow fun a => { a with mode := .off }
  if s.drive.state = .fault then s else quietDrive .stopped s

/-- The dominant interval that stands at the entry to SLEEP, on the time that passes there (R133, log 29): the receiver
watches on, so it is one interval with what follows the entry. One that has been released by then is over. -/
def State.heldPulse (s : State) : Option Pulse :=
  match s.line.dominantFrom, s.line.risesAt with
  | none, _ => none
  | some d, none => some ⟨s.time.steady - (s.now - d), none⟩
  | some d, some r => if r ≤ s.now then none else some ⟨s.time.steady - (s.now - d), some (s.time.steady + (r - s.now))⟩

/-- The line controller's part of an entry to SLEEP or SHIP (R133): in SHIP the receiver is off. -/
def quietLine (st : PowerState) (s : State) : Line :=
  { Line.reset with pulse := if st = .sleep then s.heldPulse else none }

/-- Every block quiets at the entry to SLEEP or SHIP (R185). The ship timer runs on in SLEEP (R186). -/
def quiet (st : PowerState) (s : State) : State :=
  let line := quietLine st s
  let s := quietTarget (s.onPack Pack.quieted)
  let s := undock false s
  let s := loseUnsettled (loseAttempt s)
  formHolds { s with
    line := line
    table := .reset
    report := .reset
    attach := s.attach.quieted
    power := ⟨st, none, if st = .sleep then s.power.shipTimer else none⟩ }

/-- The dominant interval of SLEEP that still holds the line, as its edge told: its edge and its release, in ticks
(R128, log 29). -/
def State.heldLine (s : State) : Option (Nat × Nat) :=
  match s.line.pulse with
  | some ⟨f, some r⟩ =>
    if s.time.steady < r then some (s.now - (s.time.steady - f), s.now + (r - s.time.steady)) else none
  | _ => none

/-- The power-state controller orders the 6224's break (R128). The dominant timer runs from the earlier falling edge of
a line that is still held, else from now, and the interval ends with the later of the two releases. -/
def orderBreak (s : State) : State :=
  s.onLine fun l =>
    { l with
      state := .busy
      ownBreak := some (s.now + us 300)
      breakOwed := true
      pulse := none
      dominantFrom := some ((s.heldLine.map (·.1)).getD s.now)
      risesAt := s.heldLine.map fun h => max h.2 (s.now + us 300)
      recessiveFrom := none
      reception := none }

/-- The start scan begins (R2, R183, R187). -/
def orderStartScan (s : State) : State :=
  s.onPack fun p => { p with scan := .cells, startScan := true, scanSwitchClosed := s.charge.switch }

/-- The timers that begin at an entry to DOZE from STARTING, SLEEP or SHIP (R14, R130). -/
def startDozeTimers (s : State) : State :=
  (s.onPack fun p => { p with deliveryTimer := some (s.now + ms 250), carried := 0 }).onLine fun l =>
    { l with stateCadence := some (s.now + ms 500) }

/-- A wake (R187): from SHIP it reconnects the cell taps (`State.tapsConnected`), which the start scan is the first to
read. -/
def wake (s : State) : State :=
  let s := s.onPower fun p => { p with state := .doze }
  let s := startDozeTimers (orderBreak (orderStartScan (s.onPack fun p => { p with direct := true })))
  powerJudge (railJudge (judgeContacts (judgeDockPin s)))

/-- A voltage above 5,000 mV wakes the unit at once (R187, log 20); what the wake changes is told to the line. -/
def wakeByLevel (s : State) : State := if s.dockHigh then tell s (wake s) else s

/-- The entry to SLEEP (R185). -/
def enterSleep (s : State) : State := wakeByLevel (quiet .sleep s)

/-- The entry to SHIP (R186): the cell taps are then disconnected (`State.tapsConnected`). -/
def enterShip (s : State) : State := wakeByLevel (quiet .ship s)

/-- The end of STARTING: the entry to DOZE (R183). -/
def endStarting (s : State) : State :=
  let s := startDozeTimers (s.onPower fun p => { p with state := .doze })
  let s := s.onPack fun p => { p with scanTimer := some (s.now + ms 100) }
  powerJudge (railJudge (judgeContacts (judgeDockPin s)))

/-! ### The SHIP order (R147) -/

/-- The pending SHIP order is given, or lapses while docked (R147). -/
def giveShipOrder (s : State) : State :=
  if s.report.shipPending.isNone then s
  else
    let s := s.onReport fun r => { r with shipPending := none, shipAnswer := .none }
    if s.attach.dock = .docked then s else enterShip s

/-- An effect, then the SHIP order where `given` says that its answer has left the slot. -/
def thenShip (given : Bool) (s : State) : State := if given then giveShipOrder s else s

/-- An answer is put in the REPORT slot (R144); where it replaces the waiting answer of the pending SHIP order, the
order is given (R147). -/
def putReport (p : List Byte) (s : State) : State :=
  thenShip (decide (s.report.shipAnswer = .waiting)) (putSlot .report p s)

/-! ### Station conflict (R126) -/

/-- Evidence that another station uses the 6224's own number (R126). -/
def conflictEvidence (s : State) : State :=
  handReasons (raise .stationConflict (s.onLine fun l => { l with conflict := some (s.now + sec 5) }))

end Sys2Proof.Machine
end

