-- ==== Sys2Proof/Machine/ChargeCommands.lean ====
section
/-! DEFINITION. The commands of the dock and of the charge controller (chapter 5). -/

namespace Sys2Proof.Machine

/-- The dock-input voltage has risen above 5,000 mV: SETTLING from UNDOCKED (R90), or a wake (R187). -/
def dockRise (mv : Nat) (s : State) : State :=
  let s := s.onPins fun p => { p with dockMv := mv }
  match s.power.state with
  | .awake => if s.attach.dock = .undocked then dockSettles s else s
  | .doze => if s.attach.dock = .undocked then dockSettles s else s
  | .sleep => wake s
  | .ship => wake s
  | .starting => s

/-- DOCK_INPUT_RISE (R90). -/
def execDockInputRise (mv : Nat) (s : State) : Out := finishIf (decide (5000 < mv)) (dockRise mv) s

/-- Dock detect leaves DOCKED (R90, R91). -/
def leaveDock (s : State) : State :=
  handReasons (undock true (raise .undocked (s.onAttach fun a => { a with dock := .undocked })))

/-- The dock-input voltage has fallen to 5,000 mV or below (R90). -/
def dockFall (mv : Nat) (s : State) : State :=
  let s := s.onPins fun p => { p with dockMv := mv }
  if s.running then
    match s.attach.dock with
    | .settling => s.onAttach fun a => { a with dock := .undocked, settleTimer := none }
    | .docked => if mv < 3000 then leaveDock s else s
    | .undocked => s
  else s

/-- DOCK_INPUT_FALL (R90). -/
def execDockInputFall (mv : Nat) (s : State) : Out := finishIf (decide (mv ≤ 5000)) (dockFall mv) s

/-- Dock detect becomes DOCKED (R90, R92): WAITING decides at its entry (R100), and DOCKED stands (R164). -/
def settleDock (s : State) : State :=
  handReasons (chargeSettle <| dockIn (raise .docked (s.onAttach fun a => { a with dock := .docked, settleTimer := none })))

/-- SETTLE_TIMER_EXPIRY (R90). -/
def execSettleTimerExpiry (s : State) : Out := onTimer s.attach.settleTimer settleDock s

/-- The ask in force is put in its slot again (R96). -/
def resendAsk (s : State) : State :=
  (putSlot .ask s.charge.ask.payload s).onCharge fun c => { c with resendTimer := some (s.now + ms 500) }

/-- RESEND_TIMER_EXPIRY (R96). -/
def execResendTimerExpiry (s : State) : Out := onTimer s.charge.resendTimer resendAsk s

/-- The dock has not answered for 3 s: DOCK_UNRESPONSIVE begins to stand (R98). -/
def unresponsive (s : State) : State :=
  handCharge (s.onCharge fun c => { c with causes := { c.causes with unresponsive := true }, echoTimer := none })

/-- ECHO_TIMER_EXPIRY (R98). -/
def execEchoTimerExpiry (s : State) : Out := onTimer s.charge.echoTimer unresponsive s

/-- v_ask is regulated, unless an echo is awaited (R103). -/
def stepAsk (s : State) : State :=
  match s.window with
  | some w => if s.charge.awaiting then s else changeAsk { s.charge.ask with v := s.regulatedV w } s
  | none => s

/-- A regulation expiry: the timer restarts, and v_ask is regulated (R103). -/
def regulateAsk (s : State) : State :=
  switchJudge (stepAsk (s.onCharge fun c => { c with regTimer := some (s.now + ms 500) }))

/-- REGULATION_EXPIRY (R103). -/
def execRegulationExpiry (s : State) : Out := onTimer s.charge.regTimer regulateAsk s

/-- TERMINATION_TIMER_EXPIRY (R104): 60 s of ending charge. -/
def execTerminationTimerExpiry (s : State) : Out :=
  onTimer (s.charge.termination.endsAt (sec 60)) (fun s => powerJudge (chargeDone s)) s

/-- PRECHARGE_TIMER_EXPIRY (R101): 30 min of PRECHARGE. -/
def execPrechargeTimerExpiry (s : State) : Out :=
  onTimer (s.charge.precharge.endsAt (sec 1800)) (fun s => powerJudge (chargeFault .prechargeTimeout s)) s

/-- TOTAL_TIMER_EXPIRY (R109): 240 min of charging. -/
def execTotalTimerExpiry (s : State) : Out :=
  onTimer (s.charge.total.endsAt (sec 14400)) (fun s => powerJudge (chargeFault .chargeTimeout s)) s

end Sys2Proof.Machine
end

