-- ==== Sys2Proof/Machine/DirtCommands.lean ====
section
/-! DEFINITION. The commands of dirt sensing (chapter 4). -/

namespace Sys2Proof.Machine

/-- One envelope sample, and the tick of the next: one every 10 µs from the entry to RUN (R68). -/
def takeSample (code : Byte) (s : State) : State :=
  s.onDirt fun d => { d.sample s.cfg code.toNat with sampleAt := again (us 10) d.sampleAt }

/-- ENVELOPE_SAMPLE (R68). -/
def execEnvelopeSample (code : Byte) (s : State) : Out := onTimerQuietly s.dirt.sampleAt (takeSample code) s

/-- SCORING_COMPLETION (R75): of the oldest record of the queue. -/
def execScoringCompletion (s : State) : Out := .next (s.onDirt (·.score s.cfg s.drive.runNumber))

/-- A window is closed and scored, with the head part where the table has one to use (R80 to R84). -/
def expireWindow (s : State) : State :=
  match s.table.usableHeadDirt with
  | some (st, p) =>
    (s.onTable (·.markUsed st)).onDirt (·.closeWindow s.cfg (headPart s.cfg.wHead p))
  | none => s.onDirt (·.closeWindow s.cfg 0)

/-- WINDOW_EXPIRY (R81). -/
def execWindowExpiry (s : State) : Out := onTimer s.dirt.windowTimer expireWindow s

end Sys2Proof.Machine
end

