-- ==== Sys2Proof/Machine/DriveCommands.lean ====
section
/-! DEFINITION. The commands of the drive controller (chapter 3). -/

namespace Sys2Proof.Machine

/-- The drive states in which the bus voltage is judged (R42). -/
def DriveState.watched (d : DriveState) : Bool := d.driven || decide (d = .coast)

/-- Since when the bus voltage has been below 14,000 mV, at a period start at tick `now` that finds it so: for the
ticks told, else since the period start from which the timer runs, else since now (R42, log 27). -/
def Drive.fellAt (d : Drive) (lowFor : Option Nat) (now : Nat) : Nat :=
  match lowFor with
  | some n => now - n
  | none => d.uvSince.getD now

/-- Since when the undervoltage timer runs (R42), at a period start that finds the bus voltage `busMv`: only where the
voltage is judged, and is below 14,000 mV (log 27). -/
def Drive.lowSince (d : Drive) (busMv : Nat) (lowFor : Option Nat) (now : Nat) : Option Nat :=
  if d.state.watched && decide (busMv < 14000) then some (max d.watchedFrom (d.fellAt lowFor now)) else none

/-- A PWM period begins at count `at_` of the PWM clock (R38 to R42, R54): the applied duty is taken up, the cutoff count
updated, the product sampled in RUN, the undervoltage timer judged (log 27). The count stays at 8 until OVERCURRENT is
taken (log 5). -/
def Drive.beginPeriod (d : Drive) (busMv busMa : Nat) (lowFor : Option Nat) (at_ now : Nat) : Drive :=
  { d with
    periodAt := at_
    appDuty := d.bufDuty
    gatesOn := d.state.driven
    cutEarly := false
    cutoffs := if d.cutEarly || decide (8 ≤ d.cutoffs) then min 8 (d.cutoffs + 1) else 0
    powerSum := if d.state = .run then d.powerSum + busMv * busMa else d.powerSum
    powerCount := if d.state = .run then d.powerCount + 1 else d.powerCount
    uvSince := d.lowSince busMv lowFor now }

/-- The first tick at or after the end of the running PWM period (R38). -/
def Drive.periodEnds (d : Drive) : Nat := (d.periodAt + d.period + 5) / 6

/-- The next PWM period begins (R38, R39): on the grid of the periods, its latest point by now. -/
def nextPeriod (busMv busMa : Nat) (lowFor : Option Nat) (s : State) : State :=
  s.onDrive (·.beginPeriod busMv busMa lowFor (s.counts - s.pwmCounter) s.now)

/-- PERIOD_START (R38, R39): while the PWM timer runs, from the end of the configuration load on; the time runs on to
the end of the running period (log 3, log 26). -/
def execPeriodStart (busMv busMa : Nat) (s : State) (lowFor : Option Nat := none) : Out :=
  .next (if s.drive.period ≠ 0 ∧ s.power.state.ticking then
    nextPeriod busMv busMa lowFor (runTo s.drive.periodEnds s) else s)

/-- BUS_CURRENT_TRIP (R41): the bus current exceeds I_trip in the on-pulse of the running period, which ends early. -/
def execBusCurrentTrip (busMa : Nat) (s : State) : Out :=
  .next (if s.drive.state.driven ∧ s.legsOn ∧ s.cfg.iTrip * 1000 < busMa then
    s.onDrive fun d => { d with cutEarly := true } else s)

/-- OVERCURRENT (R41): the cutoff count has reached 8. -/
def execOvercurrent (s : State) : Out :=
  finishIf (s.drive.state.driven && decide (8 ≤ s.drive.cutoffs)) (driveFault .overcurrent) s

/-- The tick at which the undervoltage timer reaches 10 ms, where it runs (R42). -/
def Drive.undervoltageEnds (d : Drive) : Option Nat :=
  if d.state.watched then d.uvSince.map (· + ms 10) else none

/-- UNDERVOLTAGE_TIMER_EXPIRY (R42). -/
def execUndervoltageTimerExpiry (s : State) : Out := onTimer s.drive.undervoltageEnds (driveFault .undervolt) s

/-- ALIGN_TIMER_EXPIRY (R50): RAMP begins. -/
def execAlignTimerExpiry (s : State) : Out := onTimer s.drive.alignTimer enterRamp s

/-- A forced commutation; a step that reaches it without a crossing sets the good-crossing count to 0 (R51, R52). -/
def nextForced (s : State) : State :=
  forceCommutation (s.onDrive fun d => { d with goodCrossings := if d.crossed then d.goodCrossings else 0 })

/-- The forced commutation falls within the ramp (R51, R53, log 25). -/
def Drive.forcedInRamp (d : Drive) : Bool :=
  match d.forcedTimer, d.rampTimer with
  | some f, some e => decide (f ≤ e)
  | _, _ => false

/-- FORCED_COMMUTATION (R51). -/
def execForcedCommutation (s : State) : Out :=
  if s.drive.forcedInRamp then onTimerQuietly s.drive.forcedTimer nextForced s else .next s

/-- The first of two ends, of which one or both may not come. -/
def sooner : Option Nat → Option Nat → Option Nat
  | some a, some b => some (min a b)
  | some a, none => some a
  | none, b => b

/-- The tick at which the step in force ends, if no crossing comes (R44, R47, R51); in RAMP the end of the ramp ends it
too (R53, log 25). -/
def Drive.stepEnds (d : Drive) : Option Nat :=
  match d.state with
  | .run => d.deadline
  | .ramp => sooner d.forcedTimer d.rampTimer
  | _ => none

/-- A capture `after` ticks from now falls within its step (R44, log 3). -/
def State.inStep (s : State) (after : Nat) : Bool :=
  match s.drive.stepEnds with
  | some e => decide (s.now + after ≤ e)
  | none => true

/-- The tick offset of now from the step's commutation (R44). -/
def State.stepOffset (s : State) : Nat := (s.counter - s.drive.tC).toNat

/-- A comparator edge at this tick (R44): the step's crossing, if it is accepted, is judged in RAMP (R52) or
RUN (R45, R46). -/
def captureEdge (phase : MotorPhase) (edge : Edge) (s : State) : State :=
  if s.drive.accepts phase edge s.stepOffset then
    match s.drive.state with
    | .run => crossingInRun s
    | .ramp => crossingInRamp s.stepOffset s
    | _ => s
  else s

/-- COMPARATOR_CAPTURE (R44). -/
def execComparatorCapture (after : Nat) (phase : MotorPhase) (edge : Edge) (s : State) : Out :=
  finishIf ((s.drive.state = .ramp || s.drive.state = .run) && s.inStep after)
    (fun s => captureEdge phase edge (runTo (s.now + after) s)) s

/-- The scheduled commutation, with the deadline of the new step (R46). -/
def commutateOnCompare (s : State) : State :=
  (commutate s).onDrive fun d => { d with compare := none, deadline := some (s.now + 2 * d.stepAvg) }

/-- COMMUTATION_COMPARE_EXPIRY (R46). -/
def execCommutationCompareExpiry (s : State) : Out := onTimerQuietly s.drive.compare commutateOnCompare s

/-- The commutation at the missed-crossing deadline, with its notional crossing (R47). -/
def missCrossing (s : State) : State :=
  (commutate s).onDrive fun d =>
    { d.badStep with
      deadline := some (s.now + 2 * d.stepAvg)
      tRef := s.counter - BitVec.ofNat 32 (commutationDelay d.stepAvg s.cfg.advance) }

/-- MISSED_CROSSING_DEADLINE (R47). -/
def execMissedCrossingDeadline (s : State) : Out := onTimerQuietly s.drive.deadline missCrossing s

/-- A desync (R48, R58). -/
def takeDesync (s : State) : State :=
  let s := s.onDrive fun d => { d with badSteps := 0, desyncs := min 6 (d.desyncs + 1) }
  if 6 ≤ s.drive.desyncs then driveFault .desync s else handDrive (enterCoast true s)

/-- DESYNC (R58): the bad-step count has reached 3 in RUN. -/
def execDesync (s : State) : Out :=
  finishIf (decide (s.drive.state = .run) && decide (3 ≤ s.drive.badSteps)) takeDesync s

/-- A failed start (R53). -/
def failRamp (s : State) : State :=
  let s := s.onDrive fun d => { d with rampFailures := min 3 (d.rampFailures + 1) }
  if 3 ≤ s.drive.rampFailures then driveFault .startFail s else handDrive (enterCoast true s)

/-- RAMP_TIMER_EXPIRY (R53). -/
def execRampTimerExpiry (s : State) : Out := onTimer s.drive.rampTimer failRamp s

/-- A control expiry (R54 to R57, R65): the mean power, the duty, the BLOCKED timers and the RUN-time fraction. A
period without a product takes a free value (log 11). The next expiry is 1 ms after this one's own tick (R54). -/
def controlStep (s : State) : State :=
  let p := meanPower s.drive.powerSum s.drive.powerCount s.free
  let t := (writeDuty (regulate s.cfg s.drive s.dutyMax p) s).onDrive fun d =>
    { d.judgeBlocked s.cfg s.now with
      powerSum := 0
      powerCount := 0
      runFraction := min 1000 (d.runFraction + 1)
      controlTimer := again (ms 1) d.controlTimer }
  { t with free := if s.drive.powerCount = 0 then s.free + 1 else s.free }

/-- CONTROL_EXPIRY (R55). -/
def execControlExpiry (s : State) : Out := onTimerQuietly s.drive.controlTimer controlStep s

/-- The tick at which the set timer reaches 1 s with the mark clear (R57). -/
def Drive.blockedSetEnds (d : Drive) : Option Nat := if d.blocked then none else d.blockedSetSince.map (· + sec 1)

/-- The tick at which the clear timer reaches 1 s with the mark set (R57). -/
def Drive.blockedClearEnds (d : Drive) : Option Nat :=
  if d.blocked then d.blockedClearSince.map (· + sec 1) else none

/-- BLOCKED_SET (R57). -/
def execBlockedSet (s : State) : Out :=
  onTimer s.drive.blockedSetEnds
    (fun s => raise .blocked (s.onDrive fun d => { d with blocked := true, blockedClearSince := none })) s

/-- BLOCKED_CLEAR (R57): it raises no flag. -/
def execBlockedClear (s : State) : Out :=
  onTimer s.drive.blockedClearEnds
    (fun s => s.onDrive fun d => { d with blocked := false, blockedClearSince := none }) s

/-- RUN_SECOND (R65): the RUN-time fraction has reached 1,000. -/
def execRunSecond (s : State) : Out :=
  .next (if 1000 ≤ s.drive.runFraction then s.onDrive (·.countSecond s.allow.mode) else s)

/-- The end of a coast (R59): the same run goes on, or ends in STOPPED. -/
def endCoast (s : State) : State :=
  handDrive (if s.drive.restart ∧ s.drive.target ≠ 0 then enterAlign s else enterStopped s)

/-- COAST_TIMER_EXPIRY (R59). -/
def execCoastTimerExpiry (s : State) : Out := onTimer s.drive.coastTimer endCoast s

end Sys2Proof.Machine
end

