-- ==== Sys2Proof/Machine/NoticeCommands.lean ====
section
/-! DEFINITION. The commands that are notices: NOTICE_RECEIVED, and the completion of the handling of the oldest queued
notice, class by class (R119, R120, R134 to R138). -/

namespace Sys2Proof.Machine

/-! ### Reception (R119, R120) -/

/-- The notice that some characters spell: header, length, payload, check (R116). -/
def parseNotice : List Byte → Option Notice
  | h :: _ :: rest => some ⟨h.toNat / 16, h.toNat % 16, rest.dropLast⟩
  | _ => none

/-- The check of a complete notice matches (R118, R119). -/
def checkMatches (chars : List Byte) : Bool := crc8 chars.dropLast = chars.getLastD 0

/-- A complete notice passes the tests of R119: its check, a station from 1 to 14, a class other than 0. -/
def passes (chars : List Byte) (n : Notice) : Bool :=
  checkMatches chars && decide (1 ≤ n.station) && decide (n.station ≤ 14) && decide (1 ≤ n.cls)

/-- A notice is offered to the receive queue, and lost with RX_OVERRUN when it holds 4 (R120). -/
def offerNotice (n : Notice) (s : State) : State :=
  if s.line.rx.length < 4 then s.onLine fun l => { l with rx := l.rx ++ [n] } else raise .rxOverrun s

/-- A complete notice is judged (R119, R126). -/
def judgeNotice (chars : List Byte) (s : State) : State :=
  match parseNotice chars with
  | some n =>
    if passes chars n then
      if n.station = s.cfg.station then conflictEvidence s else offerNotice n s
    else s
  | none => s

/-- The reception in progress ends with its check character (R119). -/
def receiveNotice (chars : List Byte) (s : State) : State :=
  judgeNotice chars (s.onLine fun l =>
    { l with reception := none, recessiveFrom := some s.now, dominantFrom := none, risesAt := none })

/-- A reception is in progress on the line (R119). -/
def State.receiving (s : State) : Bool := s.running && decide (s.line.state = .busy) && s.line.reception.isSome

/-- NOTICE_RECEIVED (R119): the complete notice of the reception in progress (log 16). -/
def execNoticeReceived (chars : List Byte) (s : State) : Out :=
  finishIf (s.receiving && noticeShape chars) (receiveNotice chars) s

/-! ### Handling (R120, R134) -/

/-- The oldest queued notice, in AWAKE and DOZE, if it is of the kind asked for. -/
def State.handling (s : State) (kind : Notice → Bool) : Option Notice :=
  if s.running then s.line.rx.head?.filter kind else none

/-- The notice handled leaves the queue (R120). -/
def dropOldest (s : State) : State := s.onLine fun l => { l with rx := l.rx.drop 1 }

/-- The record that the notice evicts leaves first (R151), and its leaving is handed on at that moment, before the
entry (R155, log 45). -/
def evict (n : Notice) (s : State) : State :=
  match s.table.evicts n with
  | some old => asEvent (setTable (s.table.remove old.station)) s
  | none => s

/-- The station table takes the notice, after an eviction where it needs one, and the events `act` of its entry and its
contents follow; or it is refused with TABLE_FULL (R134, R151). -/
def enterNotice (n : Notice) (act : Table → State → State) (s : State) : State :=
  match s.table.enter n s.now with
  | some t => act t (evict n s)
  | none => asEvent (raise .tableFull) s

/-- The completion of the handling of the oldest notice, of a kind (R120), with the events that its entry and contents
are; none such, no effect (log 1). -/
def handledBy (kind : Notice → Bool) (act : Notice → Table → State → State) (s : State) : Out :=
  match s.handling kind with
  | some n => .next (enterNotice n (act n) (dropOldest s))
  | none => .next s

/-- The same, where the entry and what the contents do are one event (log 8). -/
def handled (kind : Notice → Bool) (act : Notice → Table → State → State) (s : State) : Out :=
  handledBy kind (fun n t => asEvent (act n t)) s

/-- The entry alone (R134): what the derived values set off follows from the table (R156). -/
def actEntry (_ : Notice) (t : Table) (s : State) : State := setTable t s

/-- A REQUEST's entry, and its seen set (R135, R143). -/
def actRequest (n : Notice) (t : Table) (s : State) : State := seenActs n.seenSet (setTable t s)

/-- A SUPPLY's entry: the charge controller tests the echo and FAULT, and settles (R93, R136). -/
def actSupply (n : Notice) (t : Table) (s : State) : State :=
  handCharge (handTable s.table (supplyEvent n.supplyPart (s.onTable fun _ => t)))

/-- A notice of a class. -/
def Notice.isClass (k : Nat) (n : Notice) : Bool := n.cls = k

/-- HOLD (R138). -/
def execHold (s : State) : Out := handled (Notice.isClass 1) actEntry s

/-- REQUEST (R135). -/
def execRequest (s : State) : Out := handled (Notice.isClass 2) actRequest s

/-- SUPPLY (R136). -/
def execSupply (s : State) : Out := handled (Notice.isClass 3) actSupply s

/-- DRAW (R137). -/
def execDraw (s : State) : Out := handled (Notice.isClass 5) actEntry s

/-- HEAD_DIRT (R137). -/
def execHeadDirt (s : State) : Out := handled (Notice.isClass 6) actEntry s

/-- OTHER_CLASS_NOTICE (R138): classes 4, 7, 9 and 10 to 15. -/
def execOtherClassNotice (s : State) : Out := handled (fun n => otherClass n.cls) actEntry s

end Sys2Proof.Machine
end

