-- ==== Sys2Proof/Machine/LineCommands.lean ====
section
/-! DEFINITION. The commands of the line controller, its cadences and the age of the station records (chapters 6
and 8). -/

namespace Sys2Proof.Machine

/-! ### The settlement of a bit error (R124) -/

/-- The notice that was in flight at the error leaves its slot; a newer one stays (R124). -/
def Slot.dropSent (replaced : Bool) (sl : Slot) : Slot := if replaced then sl else .empty

/-- The notice dropped is the answer of the pending SHIP order (R147). -/
def State.dropsShip (s : State) (u : Unsettled) : Bool :=
  decide (u.slot = .report) && !u.replaced && decide (s.report.shipAnswer = .waiting)

/-- The third consecutive bit error of a slot: its notice is dropped and the conflict raised (R124, R126). -/
def dropNotice (u : Unsettled) (s : State) : State :=
  thenShip (s.dropsShip u) (conflictEvidence (s.onLine fun l =>
    l.setSlot u.slot ⟨(l.slot u.slot).slot.dropSent u.replaced, 0⟩))

/-- A bit error is counted (R124); the outcome of a STATE attempt is "errored" (R125, R142). -/
def countError (u : Unsettled) (s : State) : State :=
  let s := outcome u.slot .lost (s.onLine fun l => { l with unsettled := none })
  if (s.line.slot u.slot).errors + 1 < 3 then
    s.onLine fun l => l.setSlot u.slot { l.slot u.slot with errors := (l.slot u.slot).errors + 1 }
  else dropNotice u s

/-- The settlement at IDLE, before the next attempt begins (R124). -/
def settle (s : State) : State :=
  match s.line.unsettled with
  | some u => countError u s
  | none => s

/-- The line becomes IDLE (R117): a truncated reception is discarded (R119), and an errored attempt settled. -/
def becomeIdle (s : State) : State :=
  settle (s.onLine fun l => { l with state := .idle, reception := none, dominantFrom := none, risesAt := none })

/-- The tick of 110 µs recessive, where the rising edge is known, else now (R117, log 15). -/
def State.idleAt (s : State) : Nat :=
  match s.line.recessiveFrom with
  | some t => t + us 110
  | none => s.now

/-- The line can become IDLE: BUSY, with neither a notice nor a break of the 6224's on it (R117). -/
def State.mayIdle (s : State) : Bool :=
  s.running && decide (s.line.state = .busy) && s.line.attempt.isNone && s.line.ownBreak.isNone

/-- LINE_IDLE (R117). -/
def execLineIdle (s : State) : Out := finishIf s.mayIdle (fun s => becomeIdle (runTo s.idleAt s)) s

/-! ### Attempts (R123 to R125) -/

/-- The header of the attempt in progress is on the wire (R123). -/
def State.inHeader (s : State) : Bool :=
  match s.line.attempt with
  | some a => decide (s.now < a.start + us 100)
  | none => false

/-- The header is lost (R123): the 6224 listens on as the receiver of the winner's notice. -/
def loseHeader (s : State) : State :=
  thenShip s.lossDropsShip ((loseAttempt s).onLine fun l => { l with reception := some [] })

/-- HEADER_LOSS (R123). -/
def execHeaderLoss (s : State) : Out := finishIf s.inHeader loseHeader s

/-- A bit error ends the attempt (R124): its slot is PENDING, and its outcome waits for the next IDLE. -/
def endErrored (a : Attempt) (s : State) : State :=
  thenShip s.lossDropsShip (onAnswer a.slot .landed (s.onLine fun l =>
    { l.onSlot a.slot Slot.lost with
      attempt := none
      reception := none
      unsettled := some ⟨a.slot, (l.slot a.slot).slot.replaced⟩ }))

/-- BIT_ERROR (R124). -/
def execBitError (s : State) : Out :=
  match s.line.attempt with
  | some a => finish (endErrored a) s
  | none => .next s

/-- An attempt completes (R125, R142, R147). -/
def completeAttempt (a : Attempt) (s : State) : State :=
  thenShip (s.sendsShip a) (outcome a.slot .completed (s.onLine fun l =>
    { l.setSlot a.slot ⟨(l.slot a.slot).slot.completed, 0⟩ with
      attempt := none
      dominantFrom := none
      risesAt := none
      recessiveFrom := some s.now }))

/-- The tick at which an attempt completes: the end of its check character, whole characters of 100 µs from its start,
as the worked sequence "losing to a floor head and retrying" counts them, and not the middle of the stop bit, at which
the receiver reads it (R115, R125, log 46). -/
def Attempt.endsAt (a : Attempt) : Nat := a.start + us 100 * a.chars.length

/-- ATTEMPT_COMPLETION (R125). -/
def execAttemptCompletion (s : State) : Out :=
  match s.line.attempt with
  | some a => finish (fun s => completeAttempt a (runTo a.endsAt s)) s
  | none => .next s

/-- SHIP_ORDER_TIMEOUT (R147): 100 ms after the acceptance. -/
def execShipOrderTimeout (s : State) : Out := onTimer (s.report.shipPending.map (· + ms 100)) giveShipOrder s

/-! ### Breaks and the stuck line (R117, R127 to R129) -/

/-- The dominant interval does not end before tick `t`, as far as its edge told (R117, log 15). -/
def Line.heldTo (l : Line) (t : Nat) : Bool :=
  match l.risesAt with
  | some r => decide (t ≤ r)
  | none => true

/-- The tick at which the dominant timer reaches a limit, unless the line is told to be released before (R117). -/
def Line.dominantEnds (l : Line) (limit : Nat) : Option Nat := (l.dominantFrom.map (· + limit)).filter l.heldTo

/-- BREAK_IN_PROGRESS (R117): 130 µs dominant in BUSY. -/
def execBreakInProgress (s : State) : Out :=
  if s.line.state = .busy then
    onTimerQuietly (s.line.dominantEnds (us 130)) (·.onLine fun l => { l with state := .inBreak }) s
  else .next s

/-- At the taking of the 6224's own break HOLD is put in its slot, and its cadence restarted, where local reasons
stand (R132, R133, R175, log 30). -/
def holdAtBreak (s : State) : State := if s.line.breakOwed && s.hold.reasons.any then putHold s else s

/-- The 6224's own break is no longer owed: it has been taken, or the line is stuck. -/
def breakSettled (s : State) : State := s.onLine fun l => { l with breakOwed := false }

/-- The tick at which the dominant interval is released: where its edge told it, else now (R127, log 15). -/
def State.releasedAt (s : State) : Nat := s.line.risesAt.getD s.now

/-- A break is taken at its release (R127). -/
def takeBreak (s : State) : State :=
  let s' := loseUnsettled (loseAttempt s)
  let s' := s'.onLine fun l =>
    { l with
      state := .busy
      reception := none
      rx := []
      dominantFrom := none
      risesAt := none
      recessiveFrom := some s.releasedAt }
  let s' := setTable .reset s'
  thenShip s.lossDropsShip (breakSettled (holdAtBreak (putState (raise .lineReset s'))))

/-- The line is dominant for at least 130 µs and less than 2 ms at its release (R127). -/
def State.breakLong (s : State) : Bool :=
  match s.line.dominantFrom with
  | some d => decide (d + us 130 ≤ s.releasedAt) && decide (s.releasedAt < d + ms 2)
  | none => false

/-- The line is in BREAK, less than 2 ms, and the 6224 does not drive it (R127, R128). -/
def State.mayTakeBreak (s : State) : Bool :=
  s.running && decide (s.line.state = .inBreak) && s.line.ownBreak.isNone && s.breakLong

/-- BREAK_TAKEN (R127): at the release. -/
def execBreakTaken (s : State) : Out := finishIf s.mayTakeBreak (fun s => takeBreak (runTo s.releasedAt s)) s

/-- The 6224 releases its own break (R128); in STARTING the power state becomes DOZE (R183). The line has by then been
dominant for more than 130 µs (R117). -/
def releaseBreak (s : State) : State :=
  let s := s.onLine fun l =>
    { l with ownBreak := none, state := if l.state = .busy then .inBreak else l.state }
  if s.power.state = .starting then endStarting s else s

/-- OWN_BREAK_RELEASE (R128). -/
def execOwnBreakRelease (s : State) : Out := onTimer s.line.ownBreak releaseBreak s

/-- The line is stuck (R129): its recessive timer begins at the release, where the edge told it. -/
def stickLine (s : State) : State :=
  let s' := loseUnsettled (loseAttempt s)
  thenShip s.lossDropsShip (handReasons (s'.onLine fun l =>
    { l with state := .stuck, stuck := true, reception := none, recessiveFrom := l.risesAt, breakOwed := false }))

/-- LINE_STUCK (R129): 2 ms dominant in BREAK. -/
def execLineStuck (s : State) : Out :=
  if s.line.state = .inBreak then onTimer (s.line.dominantEnds (ms 2)) stickLine s else .next s

/-- The stuck line has been recessive for 1 ms (R129). -/
def recoverLine (s : State) : State :=
  handReasons (s.onLine fun l =>
    { l with state := .idle, stuck := false, dominantFrom := none, risesAt := none, recessiveFrom := some s.now })

/-- The tick at which the recessive timer of a stuck line reaches 1 ms, where its rising edge is known (R129). -/
def State.recoversAt (s : State) : Option Nat := s.line.recessiveFrom.map (· + ms 1)

/-- The line is STUCK and the 6224 does not drive it (R129). -/
def State.mayRecover (s : State) : Bool := decide (s.line.state = .stuck) && s.line.ownBreak.isNone

/-- STUCK_RECOVERY (R129): the time runs on to 1 ms after the rising edge, where that is known, else it is taken at
its word (log 15). -/
def execStuckRecovery (s : State) : Out :=
  finishIf s.mayRecover (fun s => recoverLine (runTo (s.recoversAt.getD s.now) s)) s

/-- CONFLICT_TIMER_EXPIRY (R126). -/
def execConflictTimerExpiry (s : State) : Out :=
  onTimer s.line.conflict (fun s => handReasons (s.onLine fun l => { l with conflict := none })) s

/-! ### Cadences (R130, R131) -/

/-- STATE_CADENCE_EXPIRY (R130). -/
def execStateCadenceExpiry (s : State) : Out := onTimer s.line.stateCadence putState s

/-- The tick at which a held-off change may go (R130). -/
def Line.holdoffEnds (l : Line) : Option Nat := if l.holdoff then l.lastStatePut.map (· + ms 10) else none

/-- HOLDOFF_EXPIRY (R130). -/
def execHoldoffExpiry (s : State) : Out := onTimer s.line.holdoffEnds putState s

/-- HOLD_CADENCE_EXPIRY (R131). -/
def execHoldCadenceExpiry (s : State) : Out := onTimer s.line.holdCadence putHold s

/-! ### Edges and discards (R117, R119) -/

/-- The start bit reads dominant 5 µs after its edge; else the edge is a glitch, which begins no character (R115). -/
def startBit (low : Option Nat) : Bool :=
  match low with
  | some n => decide (us 5 < n)
  | none => true

/-- A falling edge with the receiver on, the line dominant for `low` ticks from it where that is told (R115, R117): the
dominant timer restarts, IDLE becomes BUSY, and unless the edge is a glitch a header begins there (R119). The line is
recessive after a glitch, and in STUCK after every release that is told (R129, log 15). -/
def Line.fall (l : Line) (now : Nat) (low : Option Nat) : Line :=
  { l with
    state := if l.state = .idle then .busy else l.state
    dominantFrom := if startBit low then some now else none
    risesAt := if startBit low then low.map (now + ·) else none
    recessiveFrom := if startBit low && decide (l.state ≠ .stuck) then none else low.map (now + ·)
    reception := if l.state = .idle then (if startBit low then some [] else none) else l.reception }

/-- A falling edge in SLEEP, where the receiver watches for a break alone (R133): the dominant timer restarts, on the
time that passes in SLEEP (log 29). -/
def Line.watch (l : Line) (steady : Nat) (low : Option Nat) : Line :=
  { l with pulse := some ⟨steady, low.map (steady + ·)⟩ }

/-- A falling edge reaches the receiver, unless the 6224's own break holds the line (R115, R128). -/
def fallingEdge (low : Option Nat) (s : State) : State :=
  match s.power.state with
  | .awake => if s.line.ownBreak.isNone then s.onLine (·.fall s.now low) else s
  | .doze => if s.line.ownBreak.isNone then s.onLine (·.fall s.now low) else s
  | .sleep => s.onLine (·.watch s.time.steady low)
  | .starting => s
  | .ship => s

/-- LINE_FALLING_EDGE (R117). -/
def execLineFallingEdge (s : State) (low : Option Nat := none) : Out := .next (fallingEdge low s)

/-- The reception in progress is discarded, and no header is taken until IDLE (R119). -/
def discard (s : State) : State := s.onLine fun l => { l with reception := none }

/-- FRAMING_ERROR (R119). -/
def execFramingError (s : State) : Out := .next (if s.receiving then discard s else s)

/-- LENGTH_TOO_GREAT (R119): a length character above 12. -/
def execLengthTooGreat (length : Byte) (s : State) : Out :=
  .next (if s.receiving ∧ 12 < length.toNat then discard s else s)

/-! ### The age of the records (R152, R153) -/

/-- The tick at which a FRESH record of a station becomes STALE (R152). -/
def Table.staleAt (t : Table) (st : Nat) : Option Nat :=
  match t.find st with
  | some r => if r.stale then none else some (r.heardAt + ms 300)
  | none => none

/-- The tick at which the record of a station is removed (R153). -/
def Table.removedAt (t : Table) (st : Nat) : Option Nat := (t.find st).map (·.heardAt + ms 1000)

/-- RECORD_STALE (R152). -/
def execRecordStale (st : Nat) (s : State) : Out :=
  onTimer (s.table.staleAt st) (fun s => setTable (s.table.update st fun r => { r with stale := true }) s) s

/-- RECORD_AGE_REMOVAL (R153). -/
def execRecordAgeRemoval (st : Nat) (s : State) : Out :=
  onTimer (s.table.removedAt st) (fun s => setTable (s.table.remove st) (raise .stationLost s)) s

end Sys2Proof.Machine
end

