-- ==== Sys2Proof/Machine/Loader.lean ====
section
/-! DEFINITION. The configuration loader (R181, R182, R192): decoding the 128-byte block and judging its fields. -/

namespace Sys2Proof.Machine

/-! ### Reading fields (R192) -/

/-- The byte at an offset of the block. -/
def blockByte (bs : List Byte) (k : Nat) : Nat := (bs.getD k 0).toNat

/-- `count` bytes from an offset, as one number, most significant byte first (R189). -/
def blockWord (bs : List Byte) (off count : Nat) : Nat := beNat ((bs.drop off).take count)

/-- The packed run of `count` fields of `width` bits in `bytes` bytes from an offset (R189). -/
def blockFields (bs : List Byte) (off bytes width count : Nat) : List Nat :=
  (List.range count).map (packedField (8 * bytes) width (blockWord bs off bytes))

/-- The bits `hi` to `lo` of a number. -/
def bitsOf (hi lo n : Nat) : Nat := n / 2 ^ lo % 2 ^ (hi + 1 - lo)

/-- A bit of a number. -/
def bitOf (k n : Nat) : Bool := n.testBit k

/-- An entry of the impact class table, four bytes (R192). -/
def decodeClass (bs : List Byte) (k : Nat) : ClassEntry :=
  let b := fun i => blockByte bs (0x47 + 4 * k + i)
  { enabled := bitOf 7 (b 0)
    peaks := BitVec.ofNat 3 (bitsOf 6 4 (b 0))
    durMin := b 1
    durMax := b 2
    ringMin := bitsOf 7 4 (b 3)
    ringMax := bitsOf 3 0 (b 3)
    weight := bitsOf 3 0 (b 0) }

/-- A charge window, 24 bits (R192), its cell voltage held to its range (R94, log 23). -/
def decodeWindow (bs : List Byte) (k : Nat) : ChargeWindow :=
  let w := blockWord bs (0x68 + 3 * k) 3
  { enabled := bitOf k (blockByte bs 0x67)
    tLo := (bitsOf 23 18 w : Int) - 10
    tHi := (bitsOf 17 12 w : Int) - 10
    iChg := bitsOf 11 6 w * 100
    vCell := clampNat 3900 4250 (3900 + bitsOf 5 0 w * 10) }

/-- A coded TRIG wake edge; a value that names none takes the default (R182). -/
def wakeEdgeOf : Nat → WakeEdge
  | 1 => .rising
  | 2 => .both
  | _ => .falling

/-- A station set; marks for stations 0 and 15 are ignored (R182). -/
def stationSet (n : Nat) : StationSet := BitVec.ofNat 16 n &&& 0x7FFE

/-- Decoding and clamping: the first pass (R182, R192). -/
def decodeBlock (bs : List Byte) : Settings :=
  let b := blockByte bs
  let t := blockWord bs 0x1E 2
  { station := clampNat 1 14 (bitsOf 3 0 (b 0))
    cells := clampNat 5 7 (bitsOf 6 4 (b 0))
    reportMode := if bitOf 7 (b 0) then .untilClear else .carryOnce
    capacity := clampNat 1000 6000 (b 1 * 25)
    rCell := clampNat 0 80 (b 2)
    vOver := clampNat 4150 4400 (b 3 + 4150)
    vLow := clampNat 3100 3600 (b 4 * 2 + 3100)
    vEmpty := clampNat 2600 3200 (b 5 * 4 + 2600)
    ocv := (blockFields bs 0x06 10 7 11).map fun v => clampNat 3000 4270 (v * 10 + 3000)
    therm := (blockFields bs 0x10 13 11 9).map fun v => clampNat 0 4094 (v * 2)
    iMax := clampNat 5000 40000 (b 0x1D * 200)
    tDerate := clampInt 40 65 (bitsOf 15 11 t + 40)
    tCut := clampInt 50 80 (bitsOf 10 6 t + 50)
    tDisLow := clampInt (-30) 0 (-(bitsOf 5 1 t : Int))
    vLowC := clampNat 3200 3700 (b 0x20 * 2 + 3200)
    vFloor := clampNat 2800 3300 (b 0x21 * 2 + 2800)
    iHk := clampNat 0 500 (b 0x22 * 2)
    iAccCap := clampNat 0 6000 (b 0x23 * 25)
    pMotorMax := clampNat 100 800 (b 0x24 * 5)
    pRunMin := clampNat 30 120 (b 0x25)
    pEco := clampNat 60 800 (b 0x26 * 5)
    pMid := clampNat 60 800 (b 0x27 * 5)
    pBoost := clampNat 60 800 (b 0x28 * 5)
    pAutoBase := clampNat 60 800 (b 0x29 * 5)
    pAutoStep := clampNat 0 60 (b 0x2A)
    fPwm := clampNat 20 60 (b 0x2B)
    minOff := clampNat 12 120 (b 0x2C)
    dutyAlign := clampNat 24 240 (b 0x2D)
    advance := clampNat 0 25 (b 0x2E)
    gain := clampNat 1 16 (bitsOf 4 0 (b 0x2F))
    wakeEdge := wakeEdgeOf (bitsOf 6 5 (b 0x2F))
    iTrip := clampNat 10 60 (b 0x30)
    overspeed := clampNat 20 250 (b 0x31)
    blockedSpeed := clampNat 20 250 (b 0x32)
    thLow := clampNat 1 255 (b 0x33)
    thMid := clampNat 1 255 (b 0x34)
    thHigh := clampNat 1 255 (b 0x35)
    wOver := bitsOf 7 4 (b 0x36)
    wHead := bitsOf 3 0 (b 0x36)
    prescale := b 0x37
    dirt := (blockFields bs 0x38 15 12 10).map (clampNat 1 4000)
    classes := (List.range 8).map (decodeClass bs)
    windows := (List.range 5).map (decodeWindow bs)
    vContact := clampNat 0 800 (b 0x77 * 4)
    iPre := clampNat 100 500 (b 0x78 * 2)
    iChgMax := clampNat 500 4000 (b 0x79 * 20)
    iTerm := clampNat 50 400 (b 0x7A * 2)
    holdStations := stationSet (blockWord bs 0x7B 2)
    serviceStations := stationSet (blockWord bs 0x7D 2) }

/-! ### Ordered groups and mode powers (R182) -/

/-- The numbers ascend strictly. -/
def ascending : List Nat → Bool
  | a :: b :: rest => decide (a < b) && ascending (b :: rest)
  | _ => true

/-- The numbers descend strictly. -/
def descending : List Nat → Bool
  | a :: b :: rest => decide (b < a) && descending (b :: rest)
  | _ => true

def judgeCells (c : Settings) : Settings :=
  if c.vEmpty < c.vLow ∧ c.vLow < c.vOver then c
  else { c with
    vEmpty := defaultSettings.vEmpty
    vLow := defaultSettings.vLow
    vOver := defaultSettings.vOver }

/-- The three temperature limits share their two bytes and form one group (R182, R192, log 21). -/
def judgeTemps (c : Settings) : Settings :=
  if c.tDerate < c.tCut then c
  else { c with
    tDerate := defaultSettings.tDerate
    tCut := defaultSettings.tCut
    tDisLow := defaultSettings.tDisLow }

def judgeVolts (c : Settings) : Settings :=
  if c.vFloor < c.vLowC then c
  else { c with vFloor := defaultSettings.vFloor, vLowC := defaultSettings.vLowC }

def judgeDirt (c : Settings) : Settings := if ascending c.dirt then c else { c with dirt := defaultDirt }

/-- The charge window table, its enabled marks included (R182, log 22). -/
def judgeWindows (c : Settings) : Settings :=
  if c.windows.all fun w => decide (w.tLo ≤ w.tHi) then c else { c with windows := defaultWindows }

def judgeOcv (c : Settings) : Settings := if ascending c.ocv then c else { c with ocv := defaultOcv }

def judgeTherm (c : Settings) : Settings := if descending c.therm then c else { c with therm := defaultTherm }

/-- The second pass: a group that breaks its order takes its default (R182). -/
def judgeGroups (c : Settings) : Settings :=
  judgeTherm (judgeOcv (judgeWindows (judgeDirt (judgeVolts (judgeTemps (judgeCells c))))))

/-- The third pass: the mode powers are raised to P_run_min (R182). -/
def raisePowers (c : Settings) : Settings :=
  { c with
    pEco := max c.pRunMin c.pEco
    pMid := max c.pRunMin c.pMid
    pBoost := max c.pRunMin c.pBoost
    pAutoBase := max c.pRunMin c.pAutoBase }

/-- The judgement of a block whose check agrees (R182). -/
def judgeBlock (bs : List Byte) : Settings := raisePowers (judgeGroups (decodeBlock bs))

/-- The 128 bytes carry their own check (R118, R181). -/
def checkAgrees (bs : List Byte) : Bool := bs.length = 128 && crc8 (bs.take 127) = bs.getD 127 0

/-- The configuration that a load gives, and its defaults mark (R181); a read that does not end with 128 bytes is no
answer (log 32). -/
def loadResult : Option (List Byte) → Settings × Bool
  | some bs => if checkAgrees bs then (judgeBlock bs, false) else (defaultSettings, true)
  | none => (defaultSettings, true)

/-- The end of the configuration load (R181, R183): the configuration is fixed, the PWM period is set and its timer
counts from now (R38, R66), and the start scan is ordered. -/
def loadEnd (block : Option (List Byte)) (s : State) : State :=
  let r := loadResult block
  orderStartScan ((s.onLoader fun _ => ⟨r.1, false, r.2⟩).onDrive fun d =>
    { d with period := 48000 / r.1.fPwm, periodAt := s.counts })

end Sys2Proof.Machine
end

