-- ==== Sys2Proof/Machine/PackMonitor.lean ====
section
/-! DEFINITION. The pack monitor's operations (chapter 1): what an accepted scan does to the records, and the charge
count. -/

namespace Sys2Proof.Machine

/-! ### The three-scan filter (R9, R12) -/

/-- A filtered standing: the present one, its candidate, its count. -/
structure Filtered (α : Type) where
  present : α
  cand    : Option α
  count   : Nat
  deriving DecidableEq, Repr

/-- One accepted scan that indicates `ind`: direct while the direct-setting mark stands, else filtered (R9). -/
def filterStep {α : Type} [DecidableEq α] (direct : Bool) (ind : α) (f : Filtered α) : Filtered α :=
  if direct then ⟨ind, none, 0⟩
  else if ind = f.present then ⟨f.present, none, 0⟩
  else if f.cand = some ind then
    if f.count + 1 < 3 then ⟨f.present, some ind, f.count + 1⟩ else ⟨ind, none, 0⟩
  else ⟨f.present, some ind, 1⟩

/-! ### Cells (R7, R8, R10) -/

/-- The compensated voltage: the correction is rounded down (R7). -/
def compensated (vMeas : Nat) (iPack : Int) (rCell : Nat) : Int := vMeas + (iPack * rCell).fdiv 1000

/-- The indicated class of a cell of class `now` (R8). -/
def indicated (c : Settings) (now : CellClass) (vMeas : Nat) (vc : Int) : CellClass :=
  if vMeas < 500 ∨ 4800 < vMeas then .openTap
  else if c.vOver ≤ vMeas ∨ (now = .high ∧ c.vOver < vMeas + 50) then .high
  else if vc ≤ c.vEmpty ∨ (now = .empty ∧ vc < c.vEmpty + 100) then .empty
  else if vc ≤ c.vLow ∨ ((now = .low ∨ now = .empty) ∧ vc < c.vLow + 100) then .low
  else .good

/-- A cell record after an accepted scan (R1, R7 to R9). -/
def scanCell (c : Settings) (direct : Bool) (iPack : Int) (reading : Int) (cell : Cell) : Cell :=
  let v := cellMv reading
  let vc := compensated v iPack c.rCell
  let f := filterStep direct (indicated c cell.cls v vc) ⟨cell.cls, cell.cand, cell.candCount⟩
  { cell with vMeas := v, vc := vc, cls := f.present, cand := f.cand, candCount := f.count }

/-- The records of cells 1 to N take their readings; those above N keep their values (R1). -/
def scanCells (c : Settings) (direct : Bool) (iPack : Int) (readings : List Int) (cells : List Cell) : List Cell :=
  (cells.take c.cells).mapIdx (fun k cell => scanCell c direct iPack (readings.getD k 0) cell) ++ cells.drop c.cells

/-- How bad a class is (R10). -/
def CellClass.badness : CellClass → Nat
  | .good => 0
  | .low => 1
  | .empty => 2
  | .high => 3
  | .openTap => 4

/-- The worse of two classes (R10). -/
def worse (a b : CellClass) : CellClass := if a.badness < b.badness then b else a

/-- The worst class of some cells (R10). -/
def worstClass (cells : List Cell) : CellClass := (cells.map (·.cls)).foldl worse .good

/-- The change flag that a change of the pack state raises (R10). -/
def packFlag (before after : CellClass) : Option Flag :=
  match after with
  | .low => if before = .low ∨ before = .empty then none else some .packLow
  | .empty => if before = .empty then none else some .packEmpty
  | _ => none

/-! ### Thermistors (R11, R12) -/

/-- The temperature of a code on one segment of the table, in °C (R11). -/
def onSegment (base : Int) (hi lo code : Nat) : Int :=
  alongSegment base 15 ((hi : Int) - code) ((hi : Int) - lo)

/-- The interpolation from the point at `base` °C on (R11); the last segment also serves the codes below it. -/
def interpolate (code : Nat) : (base : Int) → List Nat → Int
  | base, hi :: lo :: rest =>
    if rest.isEmpty || decide (lo < code) then onSegment base hi lo code
    else interpolate code (base + 15) (lo :: rest)
  | base, _ => base

/-- The temperature of a code from 50 to 4,000, clamped (R11). -/
def thermTemp (table : List Nat) (code : Nat) : Int := clampInt (-40) 125 (interpolate code (-20) table)

/-- A code indicates a fault (R11). -/
def codeFaulty (code : Nat) : Bool := decide (code < 50) || decide (4000 < code)

/-- A thermistor record after an accepted scan: its standing is settled, then a good sensor with a code in range takes
its temperature (R12, log 24). -/
def scanTherm (table : List Nat) (direct : Bool) (code : Nat) (t : Thermistor) : Thermistor :=
  let f := filterStep direct (codeFaulty code) ⟨t.faulty, t.cand, t.candCount⟩
  { code := code
    temp := if f.present || codeFaulty code then t.temp else thermTemp table code
    faulty := f.present
    cand := f.cand
    candCount := f.count }

/-- T_pack (R12). -/
def packTemp (t1 t2 : Thermistor) (held : Int) : Int :=
  if t1.faulty then (if t2.faulty then held else t2.temp)
  else if t2.faulty then t1.temp else max t1.temp t2.temp

/-! ### The SENSOR condition (R13) -/

/-- SENSOR is re-formed at every scan completion (R13). -/
def sensorJudge (s : State) : State :=
  s.onPack fun p =>
    { p with sensor := (p.cells.take s.cfg.cells).any (·.cls = .openTap) || p.t1.faulty || p.t2.faulty ||
        decide (2 ≤ p.refFails) }

/-! ### The charge count (R14 to R18) -/

/-- The per cent of a mean cell voltage on the open-circuit table, from the point at `base` per cent on (R16). -/
def ocvPercent (mean : Nat) : (base : Nat) → List Nat → Nat
  | base, lo :: hi :: rest =>
    if mean < lo then base
    else if mean < hi then base + 10 * (mean - lo) / (hi - lo)
    else ocvPercent mean (base + 10) (hi :: rest)
  | base, _ => base

/-- The start value of Q while the OCV-pending mark stands (R16). -/
def startValue (s : State) : State :=
  if s.pack.ocvPending then
    setQ (ocvPercent (s.pack.vPack / s.cfg.cells) 0 s.cfg.ocv * s.qFull / 100)
      (s.onPack fun p => { p with ocvPending := false })
  else s

/-- The empty-rest condition of an accepted scan (R18). -/
def emptyRest (s : State) : State :=
  if s.pack.packState = .empty ∧ s.pack.iPack.natAbs < 200 then
    if s.pack.emptyRest + 1 < 3 then s.onPack fun p => { p with emptyRest := p.emptyRest + 1 }
    else setQ 0 (s.onPack fun p => { p with emptyRest := 0 })
  else s.onPack fun p => { p with emptyRest := 0 }

/-- Q after a delivery of whole mAs, discharge positive, within 0 to Q_full (R14). -/
def deliveredQ (q qFull : Nat) (mAs : Int) : Nat := (clampInt 0 qFull ((q : Int) - mAs)).toNat

/-! ### Balancing (R19, R20) -/

/-- The bleed set's mark for a cell against the lowest reading (R19). -/
def bleedFor (lowest : Nat) (c : Cell) : Bool :=
  if lowest + 30 ≤ c.vMeas ∧ 3900 ≤ c.vMeas then true
  else if c.vMeas ≤ lowest + 10 then false
  else c.bleed

/-- A condition of R20 stands at the scan: too hot, or an OPEN cell. -/
def State.bleedsBarred (s : State) : Bool :=
  decide (50 < s.pack.tPack) || s.activeCells.any fun c => c.cls = .openTap

/-- The balancing decision of an accepted scan (R19, R20). -/
def balance (s : State) : State :=
  if s.bleedsBarred then openBleeds s
  else if s.charge.phase = .topoff ∨ s.charge.phase = .done then
    s.onPack fun p =>
      { p with cells := (p.cells.take s.cfg.cells).map (fun c => { c with bleed := bleedFor s.lowestCell c }) ++
          p.cells.drop s.cfg.cells }
  else s

/-! ### An accepted scan (R3) -/

/-- The records take the scan's results together (R3, R6 to R12). -/
def takeReadings (c : Settings) (r : ScanReading) (p : Pack) : Pack :=
  let i := ScanReading.meanMa r
  let cells := scanCells c p.direct i r.cells p.cells
  let t1 := scanTherm c.therm p.direct r.code1 p.t1
  let t2 := scanTherm c.therm p.direct r.code2 p.t2
  { p with
    cells := cells
    iPack := i
    vPack := ((cells.take c.cells).map (·.vMeas)).sum
    t1 := t1
    t2 := t2
    tPack := packTemp t1 t2 p.tPack
    dockReading := ScanReading.dockMv r
    iRail := ScanReading.railMa r
    refFails := 0
    direct := false
    packState := worstClass (cells.take c.cells) }

/-- PACK_HOT and PACK_COLD, judged by the hold unit at an accepted scan (R165). -/
def packReasons (s : State) : State :=
  let t := s.pack.tPack
  let c := s.cfg
  s.onHold fun h =>
    { h with reasons := { h.reasons with
        packHot := decide (c.tCut ≤ t) || (h.reasons.packHot && !decide (t ≤ c.tCut - 5))
        packCold := decide (t < c.tDisLow) || (h.reasons.packCold && !decide (c.tDisLow + 5 ≤ t)) } }

/-- A flag is raised, if there is one. -/
def raiseSome (f : Option Flag) (s : State) : State :=
  match f with
  | some f => raise f s
  | none => s

/-- The pack monitor's part of an accepted scan (R3). -/
def acceptScan (r : ScanReading) (s : State) : State :=
  let before := s.pack.packState
  let s := s.onPack (takeReadings s.cfg r)
  let s := raiseSome (packFlag before s.pack.packState) s
  balance (emptyRest (startValue (sensorJudge s)))

/-- The pack monitor's part of a rejected scan (R5, R13). -/
def rejectScan (s : State) : State :=
  sensorJudge (s.onPack fun p => { p with refFails := satSucc 255 p.refFails })

/-- A cell from 1 to N whose class was not HIGH has become HIGH (R110). -/
def becameHigh (before after : List Cell) : Bool :=
  (before.zip after).any fun p => decide (p.1.cls ≠ .high) && decide (p.2.cls = .high)

/-- The timer of a power state (R2). -/
def PowerState.scanPeriod : PowerState → Nat
  | .awake => ms 10
  | _ => ms 100

end Sys2Proof.Machine
end

