-- ==== Sys2Proof/Machine/PackCommands.lean ====
section
/-! DEFINITION. The commands of the start and of the pack monitor: POWER_ON, CONFIG_LOAD_END, SCAN_TIMER_EXPIRY,
CELL_CONVERSIONS_END, SCAN_COMPLETION, CHARGE_DELIVERY. -/

namespace Sys2Proof.Machine

/-- POWER_ON (R188): every block takes its power-on value; the levels of the pins are the world's (log 14). -/
def execPowerOn (s : State) : Out :=
  .next { State.reset with pins := s.pins, free := s.free, pending := s.pending }

/-- CONFIG_LOAD_END (R181 to R183). -/
def execConfigLoadEnd (block : Option (List Byte)) (s : State) : Out :=
  .next (if s.loader.loading then loadEnd block s else s)

/-- A timed scan begins, unless one is in progress (R2). -/
def startTimedScan (s : State) : State :=
  s.onPack fun p =>
    { p with
      scanTimer := some (s.now + s.power.state.scanPeriod)
      scan := if p.scan = .none then .cells else p.scan
      scanSwitchClosed := if p.scan = .none then s.charge.switch else p.scanSwitchClosed }

/-- SCAN_TIMER_EXPIRY (R2). -/
def execScanTimerExpiry (s : State) : Out := onTimerQuietly s.pack.scanTimer startTimedScan s

/-- CELL_CONVERSIONS_END (R4): the physical bleed switches follow the bleed set again. -/
def execCellConversionsEnd (s : State) : Out :=
  .next (s.onPack fun p => { p with scan := if p.scan = .cells then .rest else p.scan })

/-- The allowance computation, with the excess judgement and the arrival of the target at the drive (R23, R60, R180). -/
def allowanceComputation (s : State) : State :=
  let s := excessJudge (s.onAllow fun _ => s.computed)
  handDrive (driveTarget s.allow.target s)

/-- The end of a start scan: in STARTING the break is ordered (R183); after a wake the scan timer begins (R2, R187). -/
def endStartScan (s : State) : State :=
  if s.power.state = .starting then orderBreak s
  else s.onPack fun p => { p with scanTimer := some (s.now + s.power.state.scanPeriod) }

/-- The scan in progress is over. -/
def clearScan (s : State) : State :=
  s.onPack fun p => { p with scan := .none, startScan := false, scanSwitchClosed := false }

/-- The pack monitor's part of a scan completion, and its live reasons, taken together (R3, R5, R13, R164). -/
def scanPack (r : ScanReading) (s : State) : State :=
  handReasons (if ScanReading.accepted r then acceptScan r (clearScan s) else rejectScan (clearScan s))

/-- The hold unit's own part: PACK_HOT and PACK_COLD at an accepted scan (R165). -/
def scanTemps (r : ScanReading) (s : State) : State :=
  if ScanReading.accepted r then handReasons (packReasons s) else s

/-- The charge controller's part: an accepted scan only. `s0` is the state in which the scan completed. As in every
other event, the power-state controller judges the change of phase (R111, R184) before the line is told of it: a DESIGN
CHOICE (log 47). -/
def scanCharge (r : ScanReading) (s0 s : State) : State :=
  if ScanReading.accepted r then
    powerJudge (chargeScan (becameHigh s0.activeCells s.activeCells) s0.pack.scanSwitchClosed s)
  else s

/-- The allowance unit's part: the computation, and LOW_ALLOWANCE handed to the hold unit at its end (R23, R164). -/
def scanAllowance (s : State) : State := handReasons (allowanceComputation s)

/-- The completion of a scan reaches the pack monitor, the hold unit, the charge controller and the allowance unit, one
event each, and for the start scan the power-state controller (R3, R164, log 7, log 8). The line is told at the end of
each event, after the power-state controller has judged what it changed (log 47). -/
def completeScan (r : ScanReading) (s : State) : State :=
  let t := asEvent (scanTemps r) (asEvent (scanPack r) s)
  let t := asEvent scanAllowance (asEvent (scanCharge r s) t)
  if s.pack.startScan then endStartScan t else t

/-- SCAN_COMPLETION (R3): of the scan in progress, whether or not its CELL_CONVERSIONS_END has been sent (log 34). -/
def execScanCompletion (r : ScanReading) (s : State) : Out :=
  .next (if s.pack.scan = .none then s else completeScan r s)

/-- The charge part of a delivery is counted in whole mAh (R112). -/
def countCharge (mAs : Nat) (c : Charge) : Charge :=
  { c with mah := min max32 (c.mah + (c.masRem + mAs) / 3600), masRem := (c.masRem + mAs) % 3600 }

/-- A delivery of the integrating converter (R14, R112). -/
def deliver (microAs : Int) (s : State) : State :=
  let total := s.pack.carried + microAs
  let mAs := total.tdiv 1000
  let s := s.onPack fun p => { p with carried := total - mAs * 1000, deliveryTimer := again (ms 250) p.deliveryTimer }
  (setQ (deliveredQ s.pack.q s.qFull mAs) s).onCharge (countCharge (-mAs).toNat)

/-- CHARGE_DELIVERY (R14). -/
def execChargeDelivery (microAs : Int) (s : State) : Out := onTimer s.pack.deliveryTimer (deliver microAs) s

end Sys2Proof.Machine
end

