-- ==== Sys2Proof/Machine/PowerCommands.lean ====
section
/-! DEFINITION. The commands of the attachment monitor and of the power-state controller (chapter 10). -/

namespace Sys2Proof.Machine

/-! ### Head contacts (R176, R177) -/

/-- The pins take the levels of the two contacts. -/
def setContacts (hd1High hd2High : Bool) (s : State) : State :=
  s.onPins fun p => { p with hd1High := hd1High, hd2High := hd2High }

/-- The levels of the contacts in SLEEP: a change of either wakes the unit (R187); levels that stand already are no
change, and leave it asleep (log 1). -/
def contactsAsleep (hd1High hd2High : Bool) (s : State) : State :=
  if s.pins.hd1High = hd1High ∧ s.pins.hd2High = hd2High then s else wake (setContacts hd1High hd2High s)

/-- Both contacts are low with the unit awake (R176). -/
def headFits (s : State) : State := if s.attach.head = .removed then headSettles s else s

/-- Both contacts are low (R176): SETTLING from REMOVED, or a wake from SLEEP (R187). -/
def contactsFall (s : State) : State :=
  match s.power.state with
  | .awake => headFits (setContacts false false s)
  | .doze => headFits (setContacts false false s)
  | .sleep => contactsAsleep false false s
  | .ship => setContacts false false s
  | .starting => setContacts false false s

/-- HEAD_CONTACTS_LOW (R176). -/
def execHeadContactsLow (s : State) : Out := finish contactsFall s

/-- A contact has gone high with the unit awake (R176). -/
def headLets (s : State) : State :=
  match s.attach.head with
  | .removed => s
  | .settling => s.onAttach fun a => { a with head := .removed, seatTimer := none }
  | .seated => removal s

/-- A contact has gone high (R176), or its change of level wakes the unit from SLEEP (R187). -/
def contactRises (hd1High hd2High : Bool) (s : State) : State :=
  match s.power.state with
  | .awake => headLets (setContacts hd1High hd2High s)
  | .doze => headLets (setContacts hd1High hd2High s)
  | .sleep => contactsAsleep hd1High hd2High s
  | .ship => setContacts hd1High hd2High s
  | .starting => setContacts hd1High hd2High s

/-- HEAD_CONTACT_HIGH (R176). -/
def execHeadContactHigh (hd1High hd2High : Bool) (s : State) : Out :=
  finishIf (hd1High || hd2High) (contactRises hd1High hd2High) s

/-- The head is SEATED (R176), and the rail judged (R178). -/
def seatHead (s : State) : State :=
  railJudge (raise .headAttached (s.onAttach fun a => { a with head := .seated, seatTimer := none }))

/-- SEAT_TIMER_EXPIRY (R176). -/
def execSeatTimerExpiry (s : State) : Out := onTimer s.attach.seatTimer seatHead s

/-! ### The head rail (R178 to R180) -/

/-- The rail turns on while it is permitted (R178). -/
def railOn (s : State) : State := s.onAttach fun a => { a with rail := s.railPermitted, railTimer := none }

/-- RAIL_ON_TIMER_EXPIRY (R178). -/
def execRailOnTimerExpiry (s : State) : Out := onTimerQuietly s.attach.railTimer railOn s

/-- The head-rail short is latched (R167, R179). -/
def latchShort (s : State) : State := onReasons (fun r => { r with headShort := true }) (pushHistory .headShort s)

/-- HEAD_RAIL_SHORT (R179): the comparator is watched while the rail is on. -/
def execHeadRailShort (railMa : Nat) (s : State) : Out :=
  finishIf (s.attach.rail && decide (4000 < railMa) && !s.hold.reasons.headShort) latchShort s

/-- The overdraw is reported (R180), and latched unless its latch already stands (R167). -/
def latchOverdraw (s : State) : State :=
  let s := raise .overdraw (s.onAttach fun a => { a with excess := false, overdrawTimer := none })
  if s.hold.reasons.overdraw then s
  else onReasons (fun r => { r with overdraw := true }) (pushHistory .overdraw s)

/-- OVERDRAW_TIMER_EXPIRY (R180). -/
def execOverdrawTimerExpiry (s : State) : Out := onTimer s.attach.overdrawTimer latchOverdraw s

/-! ### Sleep, ship and wake (R185 to R187) -/

/-- DOZE_TIMER_EXPIRY (R185). -/
def execDozeTimerExpiry (s : State) : Out := onTimer s.power.dozeTimer enterSleep s

/-- SHIP_TIMER_EXPIRY (R186): on the seconds counter. -/
def execShipTimerExpiry (s : State) : Out :=
  match s.power.shipTimer with
  | some d => finish (fun s => enterShip (runToSecond d s)) s
  | none => .next s

/-- An edge of the TRIG pin is of the configured kind (R187). -/
def wakesOn (w : WakeEdge) (e : Edge) : Bool :=
  match w, e with
  | .both, _ => true
  | .falling, .falling => true
  | .rising, .rising => true
  | .falling, .rising => false
  | .rising, .falling => false

/-- TRIG_EDGE (R187): watched in SLEEP only. -/
def execTrigEdge (e : Edge) (s : State) : Out :=
  finishIf (decide (s.power.state = .sleep) && wakesOn s.cfg.wakeEdge e) wake s

/-- A dominant interval that is released at `e` is at least 130 µs and less than 2 ms long (R127, R133). -/
def Pulse.isBreak (p : Pulse) (e : Nat) : Bool := decide (p.fellAt + us 130 ≤ e) && decide (e < p.fellAt + ms 2)

/-- The release of the break that the receiver sees in SLEEP (R133): where its edge told it, else now (log 15). -/
def State.sleepBreak (s : State) : Option Nat :=
  match s.line.pulse with
  | some p =>
    let e := p.roseAt.getD s.time.steady
    if s.power.state = .sleep ∧ p.isBreak e then some e else none
  | none => none

/-- The edge of the dominant interval of SLEEP told its release, which has come. -/
def State.pulseOver (s : State) : Bool :=
  match s.line.pulse.bind (·.roseAt) with
  | some r => decide (r ≤ s.time.steady)
  | none => false

/-- SLEEP_BREAK (R133, R187): a break is taken at its release as a wake, without the effects of a break. -/
def execSleepBreak (s : State) : Out :=
  match s.sleepBreak with
  | some e => finish (fun s => wake (runToSteady e s)) s
  | none => .next s

end Sys2Proof.Machine
end

