-- ==== Sys2Proof/Machine/QueryCommands.lean ====
section
/-! DEFINITION. The commands that are QUERYs, item by item: the completion of the handling of the oldest queued
notice, a QUERY of that item (R144 to R147). -/

namespace Sys2Proof.Machine

/-- A QUERY of an item (R144). -/
def Notice.asks (item : Nat) (n : Notice) : Bool := n.cls = 8 && n.item = item

/-- A QUERY's entry, then an answer that changes nothing else (R145). -/
def actAnswer (form : Notice → State → List Byte) (n : Notice) (t : Table) (s : State) : State :=
  let s := setTable t s
  putReport (form n s) s

/-- A reading item: OK with its values (R145). -/
def actReading (values : State → List Byte) : Notice → Table → State → State :=
  actAnswer fun n s => okAnswer n (values s)

/-- An action: accepted from a station of the service set, else refused with nothing done (R147). -/
def answerAction (act : State → State) (n : Notice) (s : State) : State :=
  if s.serves n then putReport (bareAnswer n .ok) (act s) else putReport (bareAnswer n .refused) s

/-- An action's entry, an event of the station table's own, and then the action, an event of the hold unit's (R134, R164,
log 8). Each tells the line what it has changed itself. -/
def actAction (act : State → State) (n : Notice) (t : Table) (s : State) : State :=
  asEvent (answerAction act n) (asEvent (setTable t) s)

/-- IDENT (R145). -/
def execIdent (s : State) : Out := handled (Notice.asks 0) (actReading identValues) s

/-- RUNS (R145). -/
def execRuns (s : State) : Out := handled (Notice.asks 1) (actReading runsValues) s

/-- MODE_TIME (R145). -/
def execModeTime (s : State) : Out :=
  handled (Notice.asks 2) (actAnswer fun n s => okAnswer n (modeTimeValues n.argument s)) s

/-- CHARGE_COUNTS (R145). -/
def execChargeCounts (s : State) : Out := handled (Notice.asks 3) (actReading chargeCountsValues) s

/-- CELLS_A (R145). -/
def execCellsA (s : State) : Out := handled (Notice.asks 4) (actReading cellsAValues) s

/-- CELLS_B (R145). -/
def execCellsB (s : State) : Out := handled (Notice.asks 5) (actReading cellsBValues) s

/-- FAULT (R146). -/
def execFault (s : State) : Out := handled (Notice.asks 6) (actAnswer faultAnswer) s

/-- A SAMPLE's entry: the oldest sample is answered and removed (R79, R146). -/
def actSample (n : Notice) (t : Table) (s : State) : State :=
  let s := setTable t s
  putReport (sampleAnswer n s) (s.onDirt fun d => { d with samples := d.samples.drop 1 })

/-- SAMPLE (R146). -/
def execSample (s : State) : Out := handled (Notice.asks 7) actSample s

/-- HOLDS (R145). -/
def execHolds (s : State) : Out := handled (Notice.asks 8) (actReading holdsValues) s

/-- TABLE (R146). -/
def execTable (s : State) : Out := handled (Notice.asks 9) (actAnswer tableAnswer) s

/-- MASTER_ON (R147, R168). -/
def execMasterOn (s : State) : Out :=
  handledBy (Notice.asks 16) (actAction (onReasons fun r => { r with master := true })) s

/-- MASTER_OFF (R147, R168). -/
def execMasterOff (s : State) : Out :=
  handledBy (Notice.asks 17) (actAction (onReasons fun r => { r with master := false })) s

/-- CLEAR_HISTORY (R147, R174). -/
def execClearHistory (s : State) : Out :=
  handledBy (Notice.asks 18) (actAction (·.onHold fun h => { h with history := [] })) s

/-- An accepted SHIP is answered (R147): the order is pending from now, and its answer waits; where an order is pending
already, its own acceptance stands (log 19), and its waiting answer is replaced. -/
def acceptShip (n : Notice) (s : State) : State :=
  let t := putReport (bareAnswer n .ok) s
  if s.report.shipPending.isSome then t
  else t.onReport fun r => { r with shipPending := some s.now, shipAnswer := .waiting }

/-- A SHIP's entry (R147): refused while docked. -/
def actShip (n : Notice) (t : Table) (s : State) : State :=
  let s := setTable t s
  if s.serves n && decide (s.attach.dock ≠ .docked) then acceptShip n s else putReport (bareAnswer n .refused) s

/-- SHIP (R147). -/
def execShip (s : State) : Out := handled (Notice.asks 19) actShip s

/-- UNKNOWN_ITEM (R144): answered UNKNOWN with no values, whoever asks. -/
def execUnknownItem (s : State) : Out :=
  handled (fun n => n.cls = 8 && !namedItem n.item) (actAnswer fun n _ => bareAnswer n .unknown) s

end Sys2Proof.Machine
end

