-- ==== Sys2Proof/Machine/Dispatch.lean ====
section
/-! DEFINITION. One arm for each command: a direct call of its meaning. -/

namespace Sys2Proof.Machine

def exec (i : Instr) (s : State) : Host.Outcome State Fault Refusal :=
  match i with
  | .powerOn => Sys2Proof.Machine.execPowerOn s
  | .configLoadEnd block => Sys2Proof.Machine.execConfigLoadEnd block s
  | .scanTimerExpiry => Sys2Proof.Machine.execScanTimerExpiry s
  | .cellConversionsEnd => Sys2Proof.Machine.execCellConversionsEnd s
  | .scanCompletion r => Sys2Proof.Machine.execScanCompletion r s
  | .chargeDelivery microAs => Sys2Proof.Machine.execChargeDelivery microAs s
  | .periodStart busMv busMa lowFor => Sys2Proof.Machine.execPeriodStart busMv busMa s lowFor
  | .busCurrentTrip busMa => Sys2Proof.Machine.execBusCurrentTrip busMa s
  | .overcurrent => Sys2Proof.Machine.execOvercurrent s
  | .undervoltageTimerExpiry => Sys2Proof.Machine.execUndervoltageTimerExpiry s
  | .alignTimerExpiry => Sys2Proof.Machine.execAlignTimerExpiry s
  | .forcedCommutation => Sys2Proof.Machine.execForcedCommutation s
  | .comparatorCapture after phase edge => Sys2Proof.Machine.execComparatorCapture after phase edge s
  | .commutationCompareExpiry => Sys2Proof.Machine.execCommutationCompareExpiry s
  | .missedCrossingDeadline => Sys2Proof.Machine.execMissedCrossingDeadline s
  | .desync => Sys2Proof.Machine.execDesync s
  | .rampTimerExpiry => Sys2Proof.Machine.execRampTimerExpiry s
  | .controlExpiry => Sys2Proof.Machine.execControlExpiry s
  | .blockedSet => Sys2Proof.Machine.execBlockedSet s
  | .blockedClear => Sys2Proof.Machine.execBlockedClear s
  | .runSecond => Sys2Proof.Machine.execRunSecond s
  | .coastTimerExpiry => Sys2Proof.Machine.execCoastTimerExpiry s
  | .envelopeSample code => Sys2Proof.Machine.execEnvelopeSample code s
  | .scoringCompletion => Sys2Proof.Machine.execScoringCompletion s
  | .windowExpiry => Sys2Proof.Machine.execWindowExpiry s
  | .dockInputRise mv => Sys2Proof.Machine.execDockInputRise mv s
  | .dockInputFall mv => Sys2Proof.Machine.execDockInputFall mv s
  | .settleTimerExpiry => Sys2Proof.Machine.execSettleTimerExpiry s
  | .resendTimerExpiry => Sys2Proof.Machine.execResendTimerExpiry s
  | .echoTimerExpiry => Sys2Proof.Machine.execEchoTimerExpiry s
  | .regulationExpiry => Sys2Proof.Machine.execRegulationExpiry s
  | .terminationTimerExpiry => Sys2Proof.Machine.execTerminationTimerExpiry s
  | .prechargeTimerExpiry => Sys2Proof.Machine.execPrechargeTimerExpiry s
  | .totalTimerExpiry => Sys2Proof.Machine.execTotalTimerExpiry s
  | .noticeReceived chars => Sys2Proof.Machine.execNoticeReceived chars s
  | .hold => Sys2Proof.Machine.execHold s
  | .request => Sys2Proof.Machine.execRequest s
  | .supply => Sys2Proof.Machine.execSupply s
  | .draw => Sys2Proof.Machine.execDraw s
  | .headDirt => Sys2Proof.Machine.execHeadDirt s
  | .otherClassNotice => Sys2Proof.Machine.execOtherClassNotice s
  | .ident => Sys2Proof.Machine.execIdent s
  | .runs => Sys2Proof.Machine.execRuns s
  | .modeTime => Sys2Proof.Machine.execModeTime s
  | .chargeCounts => Sys2Proof.Machine.execChargeCounts s
  | .cellsA => Sys2Proof.Machine.execCellsA s
  | .cellsB => Sys2Proof.Machine.execCellsB s
  | .fault => Sys2Proof.Machine.execFault s
  | .sample => Sys2Proof.Machine.execSample s
  | .holds => Sys2Proof.Machine.execHolds s
  | .table => Sys2Proof.Machine.execTable s
  | .masterOn => Sys2Proof.Machine.execMasterOn s
  | .masterOff => Sys2Proof.Machine.execMasterOff s
  | .clearHistory => Sys2Proof.Machine.execClearHistory s
  | .ship => Sys2Proof.Machine.execShip s
  | .unknownItem => Sys2Proof.Machine.execUnknownItem s
  | .lineIdle => Sys2Proof.Machine.execLineIdle s
  | .headerLoss => Sys2Proof.Machine.execHeaderLoss s
  | .bitError => Sys2Proof.Machine.execBitError s
  | .attemptCompletion => Sys2Proof.Machine.execAttemptCompletion s
  | .shipOrderTimeout => Sys2Proof.Machine.execShipOrderTimeout s
  | .breakInProgress => Sys2Proof.Machine.execBreakInProgress s
  | .breakTaken => Sys2Proof.Machine.execBreakTaken s
  | .ownBreakRelease => Sys2Proof.Machine.execOwnBreakRelease s
  | .lineStuck => Sys2Proof.Machine.execLineStuck s
  | .stuckRecovery => Sys2Proof.Machine.execStuckRecovery s
  | .conflictTimerExpiry => Sys2Proof.Machine.execConflictTimerExpiry s
  | .stateCadenceExpiry => Sys2Proof.Machine.execStateCadenceExpiry s
  | .holdoffExpiry => Sys2Proof.Machine.execHoldoffExpiry s
  | .holdCadenceExpiry => Sys2Proof.Machine.execHoldCadenceExpiry s
  | .recordStale station => Sys2Proof.Machine.execRecordStale station s
  | .recordAgeRemoval station => Sys2Proof.Machine.execRecordAgeRemoval station s
  | .headContactsLow => Sys2Proof.Machine.execHeadContactsLow s
  | .headContactHigh hd1High hd2High => Sys2Proof.Machine.execHeadContactHigh hd1High hd2High s
  | .seatTimerExpiry => Sys2Proof.Machine.execSeatTimerExpiry s
  | .railOnTimerExpiry => Sys2Proof.Machine.execRailOnTimerExpiry s
  | .headRailShort railMa => Sys2Proof.Machine.execHeadRailShort railMa s
  | .overdrawTimerExpiry => Sys2Proof.Machine.execOverdrawTimerExpiry s
  | .dozeTimerExpiry => Sys2Proof.Machine.execDozeTimerExpiry s
  | .shipTimerExpiry => Sys2Proof.Machine.execShipTimerExpiry s
  | .trigEdge edge => Sys2Proof.Machine.execTrigEdge edge s
  | .sleepBreak => Sys2Proof.Machine.execSleepBreak s
  | .lineFallingEdge low => Sys2Proof.Machine.execLineFallingEdge s low
  | .framingError => Sys2Proof.Machine.execFramingError s
  | .lengthTooGreat length => Sys2Proof.Machine.execLengthTooGreat length s

end Sys2Proof.Machine
end

