-- ==== Sys2Proof/Machine/Timebase.lean ====
section
/-! DEFINITION. Which command of the unit's own is due (log 2, log 6): a timer that has ended, or a count at its
threshold. -/

namespace Sys2Proof.Machine

/-- A command, where its condition holds. -/
def dueIf (cond : Bool) (c : Instr) : Option Instr := if cond then some c else none

/-- The first command of a list of conditions that is due. -/
def firstDue (cs : List (Option Instr)) : Option Instr := cs.findSome? id

/-- The drive's own commands. -/
def State.driveDue (s : State) : List (Option Instr) :=
  let d := s.drive
  [ dueIf (d.state.driven && decide (8 ≤ d.cutoffs)) .overcurrent,
    dueIf (decide (d.state = .run) && decide (3 ≤ d.badSteps)) .desync,
    dueIf (decide (1000 ≤ d.runFraction)) .runSecond,
    dueIf (s.ended d.undervoltageEnds) .undervoltageTimerExpiry,
    dueIf (s.ended d.rampTimer) .rampTimerExpiry,
    dueIf (s.ended d.forcedTimer && d.forcedInRamp) .forcedCommutation,
    dueIf (s.ended d.compare) .commutationCompareExpiry,
    dueIf (s.ended d.deadline) .missedCrossingDeadline,
    dueIf (s.ended d.alignTimer) .alignTimerExpiry,
    dueIf (s.ended d.coastTimer) .coastTimerExpiry,
    dueIf (s.ended d.controlTimer) .controlExpiry,
    dueIf (s.ended d.blockedSetEnds) .blockedSet,
    dueIf (s.ended d.blockedClearEnds) .blockedClear,
    dueIf (s.ended s.dirt.windowTimer) .windowExpiry ]

/-- The pack monitor's and the charge controller's own commands. -/
def State.packDue (s : State) : List (Option Instr) :=
  let c := s.charge
  [ dueIf (s.ended s.pack.scanTimer) .scanTimerExpiry,
    dueIf (s.ended s.attach.settleTimer) .settleTimerExpiry,
    dueIf (s.ended c.echoTimer) .echoTimerExpiry,
    dueIf (s.ended (c.termination.endsAt (sec 60))) .terminationTimerExpiry,
    dueIf (s.ended (c.precharge.endsAt (sec 1800))) .prechargeTimerExpiry,
    dueIf (s.ended (c.total.endsAt (sec 14400))) .totalTimerExpiry,
    dueIf (s.ended c.regTimer) .regulationExpiry,
    dueIf (s.ended c.resendTimer) .resendTimerExpiry ]

/-- The line is known to have been dominant for 130 µs: the 6224's own break holds it, or the falling edge told its
release (R117, R128, log 15). -/
def State.breakSeen (s : State) : Bool :=
  decide (s.line.state = .busy) && (s.line.ownBreak.isSome || s.line.risesAt.isSome) &&
  s.ended (s.line.dominantEnds (us 130))

/-- The line is known to have been recessive for 110 µs (R117, log 15). -/
def State.idleSeen (s : State) : Bool := s.mayIdle && s.ended (s.line.recessiveFrom.map (· + us 110))

/-- The line is released for all that is known: the falling edge told its release, which has come; or it was the 6224's
own break that held the line, and no other holder has been told, so that the line returns recessive at the 6224's release
(R128): a DESIGN CHOICE (log 49). -/
def State.releaseSeen (s : State) : Bool :=
  s.ended s.line.risesAt || (s.line.breakOwed && s.line.risesAt.isNone)

/-- The commands of one record's age (R152, R153). -/
def State.recordDue (s : State) (r : Record) : List (Option Instr) :=
  [ dueIf (s.ended (s.table.removedAt r.station)) (.recordAgeRemoval r.station),
    dueIf (s.ended (s.table.staleAt r.station)) (.recordStale r.station) ]

/-- The line controller's, the station table's and the report unit's own commands. A break is taken of its own where
`State.releaseSeen` has the line released, and the line is stuck of its own where it is held to 2 ms (log 15, log 49). -/
def State.lineDue (s : State) : List (Option Instr) :=
  let l := s.line
  [ dueIf s.breakSeen .breakInProgress,
    dueIf (s.ended l.ownBreak) .ownBreakRelease,
    dueIf (s.mayTakeBreak && s.releaseSeen) .breakTaken,
    dueIf (decide (l.state = .inBreak) && s.ended (l.dominantEnds (ms 2))) .lineStuck,
    dueIf (s.mayRecover && s.ended s.recoversAt) .stuckRecovery,
    dueIf s.idleSeen .lineIdle,
    dueIf (s.ended l.conflict) .conflictTimerExpiry,
    dueIf (s.ended l.stateCadence) .stateCadenceExpiry,
    dueIf (s.ended l.holdoffEnds) .holdoffExpiry,
    dueIf (s.ended l.holdCadence) .holdCadenceExpiry,
    dueIf (s.ended (s.report.shipPending.map (· + ms 100))) .shipOrderTimeout ] ++
  s.table.records.flatMap s.recordDue

/-- The attachment monitor's and the power-state controller's own commands. -/
def State.powerDue (s : State) : List (Option Instr) :=
  [ dueIf (s.ended s.attach.seatTimer) .seatTimerExpiry,
    dueIf (s.ended s.attach.railTimer) .railOnTimerExpiry,
    dueIf (s.ended s.attach.overdrawTimer) .overdrawTimerExpiry,
    dueIf (s.ended s.power.dozeTimer) .dozeTimerExpiry,
    dueIf (match s.power.shipTimer with
      | some d => decide (d ≤ s.time.seconds)
      | none => false) .shipTimerExpiry,
    dueIf (s.pulseOver && s.sleepBreak.isSome) .sleepBreak ]

/-- The command of the unit's own that is due, if any; of several, the first in this order (log 6). -/
def State.due (s : State) : Option Instr := firstDue (s.driveDue ++ s.packDue ++ s.lineDue ++ s.powerDue)

/-- What a step does when no command waits (log 2): the due command is put in the queue, or one tick passes. -/
def idle (s : State) : State :=
  match s.due with
  | some c => { s with pending := [c] }
  | none => elapse 1 s

end Sys2Proof.Machine
end

