-- ==== Sys2Proof/Safety.lean ====
section
/-! DEFINITION. The laws of the device (00_scope.md to 11: "It is a law of the device that ...") and the conditions on
the rest of the state that make each of them hold from step to step. -/

namespace Sys2Proof.Safety

open Sys2Proof.Machine

/-! ### Conditions that the laws rest on -/

/-- While the configuration is being loaded every block stands at its power-on value; only the time, the levels of the
pins, the free index and the queue may differ (R183, R188). -/
abbrev lawLoading (s : State) : Prop :=
  s.loader.loading = true →
    s = { State.reset with time := s.time, pins := s.pins, free := s.free, pending := s.pending }

/-- Every timer of the drive runs only in the state it belongs to (R43, R50 to R54, R59). -/
abbrev driveTimers (d : Drive) : Prop :=
  (d.alignTimer.isSome → d.state = .align) ∧ (d.rampTimer.isSome → d.state = .ramp) ∧
  (d.forcedTimer.isSome → d.state = .ramp) ∧ (d.controlTimer.isSome → d.state = .run) ∧
  (d.compare.isSome → d.state = .run) ∧ (d.deadline.isSome → d.state = .run) ∧ (d.coastTimer.isSome → d.state = .coast)

/-- The impact detector and the windows run only in RUN (R68, R80, R87). -/
abbrev dirtTimers (s : State) : Prop :=
  s.drive.state ≠ .run → s.dirt.sampleAt = none ∧ s.dirt.windowTimer = none

/-- A configuration has ten dirt thresholds at most (R83, R192). -/
abbrev dirtTable (s : State) : Prop := s.cfg.dirt.length ≤ 10

/-- A configuration has eleven points of the OCV table at most (R16, R192). -/
abbrev ocvTable (s : State) : Prop := s.cfg.ocv.length ≤ 11

/-- The mode powers lie at or above P_run_min (R182). -/
abbrev powersRaised (s : State) : Prop :=
  s.cfg.pRunMin ≤ s.cfg.pEco ∧ s.cfg.pRunMin ≤ s.cfg.pMid ∧ s.cfg.pRunMin ≤ s.cfg.pBoost ∧
  s.cfg.pRunMin ≤ s.cfg.pAutoBase

/-- The regulation timer runs only in TOPOFF (R103, R106). -/
abbrev regulationTimer (s : State) : Prop := s.charge.regTimer.isSome → s.charge.phase = .topoff

/-- Outside AWAKE and DOZE dock detect is UNDOCKED and does not settle (R90, R113, R114). -/
abbrev undockedAsleep (s : State) : Prop :=
  s.running = false → s.attach.dock = .undocked ∧ s.attach.settleTimer = none

/-! ### The laws -/

/-- R26: the accessory share never exceeds I_acc_cap, nor I_pack_lim − I_hk floored at 0. -/
abbrev lawShare (s : State) : Prop := s.allow.iShare ≤ s.cfg.iAccCap ∧ s.allow.iShare ≤ s.packLimit - s.cfg.iHk

/-- R28: P_allow never exceeds P_motor_max, and is 0 whenever the charge switch is closed. -/
abbrev lawAllowance (s : State) : Prop :=
  s.allow.pAllow ≤ s.cfg.pMotorMax ∧ (s.charge.switch = true → s.allow.pAllow = 0)

/-- R33: the suction target is 0 whenever stop-suction stands, and otherwise 0 or from P_run_min to P_motor_max. -/
abbrev lawTarget (s : State) : Prop :=
  (s.hold.stopSuction = true → s.allow.target = 0) ∧
  (s.allow.target = 0 ∨ s.cfg.pRunMin ≤ s.allow.target ∧ s.allow.target ≤ s.cfg.pMotorMax)

/-- R40: the applied duty lies within 0 to period − min_off, and is 0 in STOPPED, COAST and FAULT; so does the
buffered duty, which it is taken from (R39). -/
abbrev lawDuty (s : State) : Prop :=
  s.drive.bufDuty ≤ s.dutyMax ∧ s.drive.appDuty ≤ s.dutyMax ∧
  (s.drive.state.quiet = true → s.drive.bufDuty = 0 ∧ s.drive.appDuty = 0)

/-- R73: the impact queue holds at most 32 records, and none while the drive is not in RUN. -/
abbrev lawImpacts (s : State) : Prop :=
  s.dirt.queue.length ≤ 32 ∧ (s.drive.state ≠ .run → s.dirt.queue = [])

/-- R84: the dirt level lies within 0 to 10 and is 0 whenever the drive is not in RUN. -/
abbrev lawLevel (s : State) : Prop := s.dirt.level ≤ 10 ∧ (s.drive.state ≠ .run → s.dirt.level = 0)

/-- R95: the ask is disabled outside the charging phases, and its current never exceeds the selected window's i_chg,
i_chg_max, or the maximum current in the dock's latest SUPPLY. -/
abbrev lawAsk (s : State) : Prop :=
  (s.charge.phase.charging = false → s.charge.ask = .disabled) ∧
  s.charge.ask.i ≤ (s.window.map (·.iChg)).getD 0 ∧ s.charge.ask.i ≤ s.cfg.iChgMax ∧ s.charge.ask.i ≤ s.table.dockMaxI

/-- R99: the charge switch is closed only in a charging phase with the drive in STOPPED, COAST or FAULT. -/
abbrev lawSwitch (s : State) : Prop :=
  s.charge.switch = true → s.charge.phase.charging = true ∧ s.drive.state.quiet = true

/-- R120: the receive queue holds at most 4 notices, each of a class and a station that pass the line's tests (R119). -/
abbrev lawReceive (s : State) : Prop :=
  s.line.rx.length ≤ 4 ∧ ∀ n ∈ s.line.rx, 1 ≤ n.station ∧ n.station ≤ 14 ∧ n.station ≠ s.cfg.station

/-- R151: the station table holds at most 6 records, at most one per station, none for station 0, 15 or its own. -/
abbrev lawTable (s : State) : Prop :=
  s.table.records.length ≤ 6 ∧ (s.table.records.map (·.station)).Nodup ∧
  ∀ r ∈ s.table.records, 1 ≤ r.station ∧ r.station ≤ 14 ∧ r.station ≠ s.cfg.station

/-- R122: no slot is PENDING on an IDLE line with no attempt in progress or unsettled. -/
abbrev lawIdle (s : State) : Prop := s.mayBegin = true → s.line.nextSlot = none

/-- R20: a bleed is set only while the charge phase is TOPOFF or DONE. -/
abbrev lawBleeds (s : State) : Prop :=
  s.charge.phase ≠ .topoff → s.charge.phase ≠ .done → s.pack.cells.all (!·.bleed) = true

/-- R178: the head rail is on only while the head is seated, rail-off does not stand, and the unit is AWAKE or in DOZE. -/
abbrev lawRail (s : State) : Prop := s.attach.rail = true → s.railPermitted = true

/-- R170: the three outputs are those that the reasons and the heard union give. -/
abbrev lawOutputs (s : State) : Prop :=
  s.hold.stopSuction = stopsSuction s.hold.reasons s.hold.heard ∧
  s.hold.stopCharge = s.hold.reasons.stopsCharge ∧ s.hold.railOff = s.hold.reasons.stopsRail

/-- R14, R15: Q lies within 0 to Q_full, and SoC is its per cent. -/
abbrev lawCharge (s : State) : Prop := s.pack.q ≤ s.qFull ∧ s.pack.soc = s.pack.q * 100 / s.qFull

/-- R166, R62: while the drive is in FAULT its latch stands. -/
abbrev lawLatch (s : State) : Prop := s.drive.state = .fault → s.hold.reasons.driveFault = true

/-- R173: the fault history holds at most 8 entries. -/
abbrev lawHistory (s : State) : Prop := s.hold.history.length ≤ 8

/-- R78: the sample queue holds at most 16 records. -/
abbrev lawSamples (s : State) : Prop := s.dirt.samples.length ≤ 16

/-- R164, R169: the live reasons and the heard union are those that their owners' conditions and the table give. -/
abbrev lawLive (s : State) : Prop :=
  s.liveReasons = s.hold.reasons ∧ s.table.heardUnion s.cfg.holdStations = s.hold.heard

/-- R184: AWAKE exactly while one of the three conditions stands, in AWAKE and DOZE. -/
abbrev lawAwake (s : State) : Prop := s.running = true → (s.power.state = .awake ↔ s.keptAwake = true)

/-- R183, R188: in STARTING the station table is empty, the head is REMOVED with no seat timer running, the DRIVE_FAULT
latch is clear and the drive is STOPPED. -/
abbrev lawStarting (s : State) : Prop :=
  s.power.state = .starting →
    s.table = .reset ∧ s.attach.head = .removed ∧ s.attach.seatTimer = none ∧ s.hold.reasons.driveFault = false ∧
      s.drive.state = .stopped

/-! ### How statements speak of a command -/

/-- A command answers a next state with a property. -/
def Answers (o : Out) (P : State → Prop) : Prop := ∃ t, o = .next t ∧ P t

/-- The blocks of the state. -/
inductive Block where
  | time
  | pins
  | loader
  | pack
  | allow
  | drive
  | dirt
  | charge
  | line
  | table
  | report
  | hold
  | attach
  | power
  | free
  deriving DecidableEq, Repr

/-- Nothing changes from `s` to `t` but in the blocks listed: every other block, and the queue of commands, is the
same. -/
abbrev OnlyIn (bs : List Block) (s t : State) : Prop :=
  (.time ∈ bs ∨ t.time = s.time) ∧ (.pins ∈ bs ∨ t.pins = s.pins) ∧ (.loader ∈ bs ∨ t.loader = s.loader) ∧
  (.pack ∈ bs ∨ t.pack = s.pack) ∧ (.allow ∈ bs ∨ t.allow = s.allow) ∧ (.drive ∈ bs ∨ t.drive = s.drive) ∧
  (.dirt ∈ bs ∨ t.dirt = s.dirt) ∧ (.charge ∈ bs ∨ t.charge = s.charge) ∧ (.line ∈ bs ∨ t.line = s.line) ∧
  (.table ∈ bs ∨ t.table = s.table) ∧ (.report ∈ bs ∨ t.report = s.report) ∧ (.hold ∈ bs ∨ t.hold = s.hold) ∧
  (.attach ∈ bs ∨ t.attach = s.attach) ∧ (.power ∈ bs ∨ t.power = s.power) ∧ (.free ∈ bs ∨ t.free = s.free) ∧
  t.pending = s.pending

/-- The newest notice that a transmit slot holds: the one that waits, or else the one in flight (R121). -/
def newest : Slot → Option (List Byte)
  | .empty => none
  | .pending w => some w
  | .inFlight f => some f
  | .inFlightReplaced _ w => some w

/-- A newer notice of the slot waits or is in flight (R121, R122). -/
def occupied (sl : Slot) : Bool := (newest sl).isSome

/-- A cell record without its bleed mark. -/
def unbled (c : Cell) : Cell := { c with bleed := false }

/-- Of the pack monitor only the bleed marks, the scan timer and the mark "switch closed throughout" may differ. -/
abbrev ReadingsKept (p q : Pack) : Prop :=
  q = { p with cells := q.cells, scanTimer := q.scanTimer, scanSwitchClosed := q.scanSwitchClosed } ∧
  q.cells.map unbled = p.cells.map unbled

/-- What a command tells the line at its end (R130, R131) leaves as they are the receive queue, the stuck and conflict
conditions, the own break, the bit-error counts, the notices of the REPORT and CHARGE_ASK slots, the pending SHIP order, and
the change flags but for the marking of an attempt that begins (R142). -/
abbrev LineTold (s t : State) : Prop :=
  t.line.rx = s.line.rx ∧ t.line.stuck = s.line.stuck ∧ t.line.conflict = s.line.conflict ∧
  t.line.ownBreak = s.line.ownBreak ∧ t.line.hold.errors = s.line.hold.errors ∧
  t.line.ask.errors = s.line.ask.errors ∧ t.line.state_.errors = s.line.state_.errors ∧
  t.line.report.errors = s.line.report.errors ∧ newest t.line.report.slot = newest s.line.report.slot ∧
  newest t.line.ask.slot = newest s.line.ask.slot ∧ t.report.shipPending = s.report.shipPending ∧
  (t.report.flags = s.report.flags ∨ t.report.flags = s.report.flags.map .carry)

/-- The reasons that the hold unit keeps of its own (R164 to R168) are the same. -/
abbrev OwnReasonsKept (r q : Reasons) : Prop :=
  q.packHot = r.packHot ∧ q.packCold = r.packCold ∧ q.driveFault = r.driveFault ∧ q.headShort = r.headShort ∧
  q.overdraw = r.overdraw ∧ q.master = r.master

/-- The counters that are kept across runs, charges and sleep are the same (R64, R65, R112). -/
abbrev CountersKept (s t : State) : Prop :=
  t.drive.runs = s.drive.runs ∧ t.drive.runNumber = s.drive.runNumber ∧ t.drive.secEco = s.drive.secEco ∧
  t.drive.secMid = s.drive.secMid ∧ t.drive.secBoost = s.drive.secBoost ∧ t.drive.secAuto = s.drive.secAuto ∧
  t.drive.secTotal = s.drive.secTotal ∧ t.drive.runFraction = s.drive.runFraction ∧
  t.drive.period = s.drive.period ∧ t.charge.completions = s.charge.completions ∧ t.charge.mah = s.charge.mah ∧
  t.charge.masRem = s.charge.masRem

/-- What a change of a reason, of the station table or of the dock may set off (R156, R170): a target of 0 at the drive
(R35), the charge controller's phase, ask and switch (R99, R106), the rail (R178), AWAKE or DOZE (R184). All else stays. -/
abbrev Consequences (s t : State) : Prop :=
  ReadingsKept s.pack t.pack ∧ CountersKept s t ∧
  t.allow.iShare = s.allow.iShare ∧ t.allow.low = s.allow.low ∧ t.allow.mode = s.allow.mode ∧
  (t.allow.target = s.allow.target ∨ t.allow.target = 0) ∧ (t.allow.pAllow = s.allow.pAllow ∨ t.allow.pAllow = 0) ∧
  ((t.drive = s.drive ∧ t.dirt = s.dirt) ∨
    (t.drive = (driveTarget 0 { s with time := t.time }).drive ∧
      t.dirt = (driveTarget 0 { s with time := t.time }).dirt)) ∧
  t.hold.history = s.hold.history ∧ t.attach.head = s.attach.head ∧ t.attach.dock = s.attach.dock ∧
  t.attach.seatTimer = s.attach.seatTimer ∧ t.attach.settleTimer = s.attach.settleTimer ∧
  (s.running = true → t.running = true) ∧ (s.running = false → t.power = s.power)

/-- The blocks that a command with consequences may change beside those it names. -/
abbrev consequent : List Block := [.pack, .allow, .drive, .dirt, .charge, .line, .report, .hold, .attach, .power]

/-- The oldest queued notice is `n`, of class `k`, in AWAKE or DOZE, and the station table takes it as `tb` (R120, R150). -/
abbrev Handles (s : State) (n : Notice) (rest : List Notice) (tb : Table) (k : Nat) : Prop :=
  s.running = true ∧ s.line.rx = n :: rest ∧ n.cls = k ∧ s.table.enter n s.now = some tb

/-- The notice has left the queue and stands in the table; the blocks outside the table and its readers are as they were. -/
abbrev Entered (s t : State) (tb : Table) (rest : List Notice) : Prop :=
  t.table = tb ∧ t.line.rx = rest ∧ t.hold.heard = tb.heardUnion s.cfg.holdStations ∧
  OnlyIn (.table :: consequent) s t

/-- Of a fault, the entry that is pushed on the history (R173). -/
abbrev Logged (kind : FaultKind) (s t : State) : Prop :=
  t.hold.history =
    (⟨kind, s.drive.runNumber, s.pack.soc, s.pack.tPack, s.krpm, t.time.seconds⟩ :: s.hold.history).take 8

/-- A change flag stands after a raising (R141), where the report unit has its sixteen flags. -/
abbrev Raised (f : Flag) (t : State) : Prop := t.report.flags.length = 16 → t.flag f ≠ .clear

/-- The three-scan filter (R9, R12): an accepted scan that indicates `ind` takes the standing, its candidate and its count
from `now` to `next`. -/
abbrev FilteredBy {α : Type} [DecidableEq α] (direct : Bool) (ind : α) (now next : α × Option α × Nat) : Prop :=
  next =
    if direct = true then (ind, none, 0)
    else if ind = now.1 then (now.1, none, 0)
    else if now.2.1 = some ind then
      if now.2.2 < 2 then (now.1, some ind, now.2.2 + 1) else (ind, none, 0)
    else (now.1, some ind, 1)

/-- The pack monitor after the entry to SLEEP or SHIP (R20, R22): no scan, no timer, every bleed open, every candidate
cleared; the classes, the readings and the charge count are kept. -/
abbrev PackQuieted (p q : Pack) : Prop :=
  q = { p with
    cells := p.cells.map fun c => { c with cand := none, candCount := 0, bleed := false }
    t1 := { p.t1 with cand := none, candCount := 0 }
    t2 := { p.t2 with cand := none, candCount := 0 }
    refFails := 0
    emptyRest := 0
    scan := .none
    startScan := false
    scanSwitchClosed := false
    scanTimer := none
    deliveryTimer := none
    carried := 0 }

/-- Dirt sensing after the leaving of RUN (R87, R89): the detector is OFF, the queue, the tally and the window are
empty, the level is 0; the sample queue, count and run are kept. -/
abbrev DirtClosed (d e : Dirt) : Prop :=
  e = { d with
    det := .off
    peak := 0
    duration := 0
    ring := 0
    midSeen := false
    midAbove := false
    below := 0
    dead := 0
    sampleAt := none
    queue := []
    tally := 0
    windowSum := 0
    windowTimer := none
    level := 0
    fall := 0 }

/-- The line after the entry to SLEEP or SHIP (R133): as at power-on, but that in SLEEP the dominant interval that then
stands, if any, is watched on (log 29). -/
abbrev LineQuieted (st : PowerState) (s t : State) : Prop :=
  t.line = { Line.reset with pulse := t.line.pulse } ∧
  (st = .ship ∨ s.line.dominantFrom = none → t.line.pulse = none) ∧
  (st = .sleep → ∀ d ∈ s.line.dominantFrom, t.line.pulse =
    match s.line.risesAt with
    | none => some ⟨t.time.steady - (t.now - d), none⟩
    | some r => if r ≤ t.now then none else some ⟨t.time.steady - (t.now - d), some (t.time.steady + (r - t.now))⟩)

/-- The state after the entry to SLEEP or SHIP (R185, R186), by block. -/
abbrev Asleep (st : PowerState) (s t : State) : Prop :=
  t.power.state = st ∧ t.power.dozeTimer = none ∧ LineQuieted st s t ∧ t.table = .reset ∧ t.report = .reset ∧
  t.drive.state = (if s.drive.state = .fault then .fault else .stopped) ∧
  (s.drive.state ≠ .fault → t.drive.appDuty = 0 ∧ t.drive.bufDuty = 0 ∧ t.drive.gatesOn = false) ∧
  t.allow = { s.allow with target := 0, mode := .off } ∧
  (s.drive.state = .run → DirtClosed s.dirt t.dirt) ∧ (s.drive.state ≠ .run → t.dirt = s.dirt) ∧
  t.charge.phase = .undocked ∧ t.charge.ask = .disabled ∧ t.charge.switch = false ∧ t.charge.window = none ∧
  t.attach =
    ⟨if s.attach.head = .settling then .removed else s.attach.head, none, false, none, false, none, .undocked, none⟩ ∧
  PackQuieted s.pack t.pack ∧
  t.hold.history = s.hold.history ∧ OwnReasonsKept s.hold.reasons t.hold.reasons ∧ CountersKept s t ∧
  t.tapsConnected = decide (st ≠ .ship) ∧
  OnlyIn [.time, .pack, .allow, .drive, .dirt, .charge, .line, .table, .report, .hold, .attach, .power] s t

/-- The state after a wake (R187): the start scan and the 6224's break are in progress, the direct-setting mark is set,
the cell taps are connected. -/
abbrev Woken (t : State) : Prop :=
  t.running = true ∧ t.pack.direct = true ∧ t.pack.scan = .cells ∧ t.pack.startScan = true ∧
  t.pack.deliveryTimer = some (t.now + 2000000) ∧ t.line.ownBreak = some (t.now + 2400) ∧ t.line.breakOwed = true ∧
  t.tapsConnected = true ∧
  (5000 < t.pins.dockMv → t.attach.dock = .settling ∧ t.attach.settleTimer = some (t.now + 400000)) ∧
  (t.attach.rail = true → t.railPermitted = true)

end Sys2Proof.Safety
end

