-- ==== Sys2Proof/Certificates/Slice0/Obligations.lean ====
section
/-! DEFINITION. The statements for the provers. Each says of a command that it answers a next state and what that state
holds; a law is stated from every state that meets it. -/

open Sys2Proof Sys2Proof.Machine Sys2Proof.Safety

/-- A step runs the command at the front of the queue on the state with the rest of the queue (00_scope.md,
Block overview, 95_what_each_step_holds.md). -/
def Obligations.StepRunsFrontCommand : Prop :=
  ∀ (s : State) (c : Instr) (rest : List Instr),
  (s.pending = c :: rest →
    step s = exec c { s with pending := rest })

/-- With no command waiting a step queues the due command, or lets one tick pass (the model's choice, log 2)
(R37, notes/assumptions/2.md). -/
def Obligations.IdleStep : Prop :=
  ∀ (s : State) (c : Instr),
  (s.pending = [] → s.due = some c →
    Answers (step s) fun t => t.pending = [c] ∧ t = { s with pending := [c] }) ∧
  (s.pending = [] → s.due = none →
    Answers (step s) fun t =>
      t.time.ticks = s.time.ticks + (if s.power.state = .sleep ∨ s.power.state = .ship then 0 else 1) ∧
      t.time.seconds = min 4294967295 (s.time.seconds + (s.time.secFraction + 1) / 8000000) ∧
      t.time.steady = s.time.steady + 1 ∧ OnlyIn [.time] s t)

/-- No step of any state stops: every command, whatever its data, answers a next state (00_scope.md, What this
manual covers, 95_what_each_step_holds.md). That a command without its condition answers a next state is the
model's choice (notes/assumptions/1.md), as is what malformed characters and reads do
(notes/assumptions/16.md, notes/assumptions/32.md). -/
def Obligations.NoCommandStops : Prop :=
  ∀ (s : State),
  (Answers (step s) fun _ => True)

/-- Right after a power-on every piece of state has the value of the power-on tables (R21, R36, R66, R88,
R113, R132, R148, R163, R175, R188). Where the power-on tables give no value (the PWM period before the load
ends, the figures of a step and a control period), 0 is the model's choice (notes/assumptions/44.md). -/
def Obligations.ResetValues : Prop :=
  (let s := State.reset;
    s.power.state = .starting ∧ s.loader.loading = true ∧ s.loader.defaultsMark = false ∧ s.cfg = defaultSettings ∧
    s.power.dozeTimer = none ∧ s.power.shipTimer = none ∧ s.time.ticks = 0 ∧ s.time.seconds = 0 ∧
    s.time.steady = 0 ∧
    s.pack.cells = List.replicate 7 ⟨0, 0, .openTap, none, 0, false⟩ ∧ s.pack.packState = .openTap ∧
    s.pack.t1 = ⟨0, 25, false, none, 0⟩ ∧ s.pack.t2 = ⟨0, 25, false, none, 0⟩ ∧ s.pack.tPack = 25 ∧
    s.pack.iPack = 0 ∧ s.pack.vPack = 0 ∧ s.pack.dockReading = 0 ∧ s.pack.iRail = 0 ∧ s.pack.refFails = 0 ∧
    s.pack.direct = true ∧ s.pack.sensor = true ∧ s.pack.q = 0 ∧ s.pack.soc = 0 ∧ s.pack.ocvPending = true ∧
    s.pack.scan = .none ∧ s.pack.startScan = false ∧ s.pack.scanSwitchClosed = false ∧
    s.pack.emptyRest = 0 ∧ s.pack.scanTimer = none ∧ s.pack.deliveryTimer = none ∧ s.pack.carried = 0 ∧
    s.allow = ⟨0, 0, 0, true, .off⟩ ∧
    s.drive.state = .stopped ∧ s.drive.gatesOn = false ∧ s.drive.bufDuty = 0 ∧ s.drive.appDuty = 0 ∧
    s.drive.step = 1 ∧ s.drive.tC = 0 ∧ s.drive.tRef = 0 ∧ s.drive.ring = List.replicate 6 0 ∧ s.drive.stepAvg = 0 ∧
    s.drive.speed = 0 ∧ s.drive.runNumber = 0 ∧ s.drive.runs = 0 ∧ s.drive.secTotal = 0 ∧ s.drive.runFraction = 0 ∧
    s.drive.target = 0 ∧ s.drive.blocked = false ∧ s.drive.cutoffs = 0 ∧ s.drive.restart = false ∧
    s.drive.badSteps = 0 ∧ s.drive.goodCrossings = 0 ∧ s.drive.rampFailures = 0 ∧ s.drive.desyncs = 0 ∧
    s.drive.cutEarly = false ∧ s.drive.uvSince = none ∧ s.drive.blockedSetSince = none ∧
    s.drive.blockedClearSince = none ∧ s.drive.secEco = 0 ∧ s.drive.secMid = 0 ∧ s.drive.secBoost = 0 ∧
    s.drive.secAuto = 0 ∧ s.drive.alignTimer = none ∧ s.drive.rampTimer = none ∧ s.drive.forcedTimer = none ∧
    s.drive.controlTimer = none ∧ s.drive.coastTimer = none ∧ s.drive.compare = none ∧ s.drive.deadline = none ∧
    s.drive.armed = false ∧ s.drive.crossed = false ∧ s.drive.powerSum = 0 ∧ s.drive.powerCount = 0 ∧
    s.drive.forced = 0 ∧ s.drive.rampEntry = 0 ∧ s.drive.watchedFrom = 0 ∧ s.drive.period = 0 ∧ s.drive.periodAt = 0 ∧
    s.dirt.det = .off ∧ s.dirt.queue = [] ∧ s.dirt.tally = 0 ∧ s.dirt.level = 0 ∧ s.dirt.samples = [] ∧
    s.dirt.sampleCount = 0 ∧ s.dirt.sampleRun = none ∧ s.dirt.peak = 0 ∧ s.dirt.duration = 0 ∧ s.dirt.ring = 0 ∧
    s.dirt.midSeen = false ∧ s.dirt.midAbove = false ∧ s.dirt.below = 0 ∧ s.dirt.dead = 0 ∧ s.dirt.sampleAt = none ∧
    s.dirt.window = 0 ∧ s.dirt.windowSum = 0 ∧ s.dirt.windowTimer = none ∧ s.dirt.fall = 0 ∧
    s.attach.dock = .undocked ∧ s.attach.settleTimer = none ∧ s.charge.phase = .undocked ∧
    s.charge.causes = ⟨false, false, false, false, false⟩ ∧ s.charge.window = none ∧ s.charge.ask = ⟨false, 0, 0⟩ ∧
    s.charge.awaiting = false ∧ s.charge.supplyLost = false ∧ s.charge.echoTimer = none ∧
    s.charge.resendTimer = none ∧ s.charge.regTimer = none ∧ s.charge.termination = ⟨0, none⟩ ∧
    s.charge.precharge = ⟨0, none⟩ ∧ s.charge.total = ⟨0, none⟩ ∧ s.charge.switch = false ∧
    s.charge.completions = 0 ∧ s.charge.mah = 0 ∧ s.charge.masRem = 0 ∧
    s.line.state = .off ∧ s.line.reception = none ∧ s.line.rx = [] ∧ s.line.hold = ⟨.empty, 0⟩ ∧
    s.line.ask = ⟨.empty, 0⟩ ∧ s.line.state_ = ⟨.empty, 0⟩ ∧ s.line.report = ⟨.empty, 0⟩ ∧ s.line.attempt = none ∧
    s.line.ownBreak = none ∧ s.line.stuck = false ∧ s.line.conflict = none ∧ s.line.stateCadence = none ∧
    s.line.holdCadence = none ∧ s.line.holdoff = false ∧ s.line.dominantFrom = none ∧ s.line.risesAt = none ∧
      s.line.recessiveFrom = none ∧
    s.line.unsettled = none ∧ s.line.breakOwed = false ∧ s.line.pulse = none ∧ s.line.lastStatePut = none ∧
    s.report.flags = List.replicate 16 .clear ∧ s.report.shipPending = none ∧
    s.report.shipAnswer = .none ∧ s.table = ⟨[], [], [], []⟩ ∧
    s.hold.stopSuction = true ∧ s.hold.stopCharge = true ∧ s.hold.railOff = false ∧ s.hold.history = [] ∧
    s.hold.heard = 0 ∧ s.hold.reasons.sensor = true ∧ s.hold.reasons.lowAllowance = true ∧
    s.hold.reasons.packEmpty = false ∧ s.hold.reasons.packHot = false ∧ s.hold.reasons.packCold = false ∧
    s.hold.reasons.cellHigh = false ∧ s.hold.reasons.docked = false ∧ s.hold.reasons.driveFault = false ∧
    s.hold.reasons.headShort = false ∧ s.hold.reasons.overdraw = false ∧ s.hold.reasons.lineStuck = false ∧
    s.hold.reasons.stationConflict = false ∧ s.hold.reasons.master = false ∧
    s.attach.head = .removed ∧ s.attach.seatTimer = none ∧ s.attach.rail = false ∧ s.attach.railTimer = none ∧
    s.attach.excess = false ∧ s.attach.overdrawTimer = none ∧ s.pending = [])

/-- POWER_ON in any state puts every block to its power-on value and begins the configuration load (R188, R21,
notes/assumptions/14.md). -/
def Obligations.PowerOnResets : Prop :=
  ∀ (s : State),
  (Answers (exec .powerOn s) fun t =>
    OnlyIn [.pins, .free] { State.reset with pending := s.pending } t ∧ t.pins = s.pins ∧ t.free = s.free)

/-- Every step keeps the reasons, the heard union and the three hold outputs in agreement with their owners
(R170, R164, R169, R188). -/
def Obligations.OutputsFollowReasons : Prop :=
  ∀ (s t : State),
  ((lawLoading s ∧ undockedAsleep s ∧ lawLive s ∧ lawOutputs s) → step s = .next t →
    (lawLoading t ∧ undockedAsleep t ∧ lawLive t ∧ lawOutputs t))

/-- Every step keeps the accessory share within its two bounds and P_allow within P_motor_max and 0 under a
closed switch (R26, R28, R29). -/
def Obligations.ShareAndAllowanceLaws : Prop :=
  ∀ (s t : State),
  ((lawLoading s ∧ lawShare s ∧ lawAllowance s) → step s = .next t →
    (lawLoading t ∧ lawShare t ∧ lawAllowance t))

/-- Every step keeps the suction target 0 under stop-suction and otherwise 0 or from P_run_min to P_motor_max
(R33, R35, R182). -/
def Obligations.TargetLaw : Prop :=
  ∀ (s t : State),
  ((lawLoading s ∧ powersRaised s ∧ lawTarget s) → step s = .next t →
    (lawLoading t ∧ powersRaised t ∧ lawTarget t))

/-- Every step keeps the applied and buffered duty within 0 to period - min_off, and 0 in STOPPED, COAST and
FAULT (R39, R40). -/
def Obligations.DutyLaw : Prop :=
  ∀ (s t : State),
  ((lawLoading s ∧ driveTimers s.drive ∧ lawDuty s) → step s = .next t →
    (lawLoading t ∧ driveTimers t.drive ∧ lawDuty t))

/-- Every step keeps the impact queue within 32 records and the dirt level within 10, and both empty outside
RUN (R73, R84, R87). -/
def Obligations.ImpactAndLevelLaws : Prop :=
  ∀ (s t : State),
  ((lawLoading s ∧ driveTimers s.drive ∧ dirtTimers s ∧ dirtTable s ∧ lawImpacts s ∧ lawLevel s) → step s = .next t →
    (lawLoading t ∧ driveTimers t.drive ∧ dirtTimers t ∧ dirtTable t ∧ lawImpacts t ∧ lawLevel t))

/-- Every step keeps the charge-current ask within the window, i_chg_max and the dock's maximum, and disabled
otherwise (R95, R96). -/
def Obligations.AskLaw : Prop :=
  ∀ (s t : State),
  ((lawLoading s ∧ regulationTimer s ∧ lawAsk s) → step s = .next t →
    (lawLoading t ∧ regulationTimer t ∧ lawAsk t))

/-- Every step keeps the charge switch open outside a charge with a quiet drive, the rail off unless
permitted, bleeds set only in TOPOFF and DONE (R99, R178, R170, R20). -/
def Obligations.SwitchAndRailLaws : Prop :=
  ∀ (s t : State),
  ((driveTimers s.drive ∧ lawSwitch s ∧ lawRail s ∧ lawBleeds s) → step s = .next t →
    (driveTimers t.drive ∧ lawSwitch t ∧ lawRail t ∧ lawBleeds t))

/-- Every step keeps at most 6 records, one per station, none for station 0, 15 or its own, at most 4 queued
notices, and no slot waiting on IDLE (R120, R151, R122). -/
def Obligations.StationLaws : Prop :=
  ∀ (s t : State),
  ((lawLoading s ∧ lawReceive s ∧ lawTable s ∧ lawIdle s) → step s = .next t →
    (lawLoading t ∧ lawReceive t ∧ lawTable t ∧ lawIdle t))

/-- Every step keeps Q within 0 to Q_full with its SoC, the latch standing in drive FAULT, and the history and
samples bounded (R14, R15, R62, R166, R173, R78). -/
def Obligations.ChargeLatchAndQueueLaws : Prop :=
  ∀ (s t : State),
  ((lawLoading s ∧ ocvTable s ∧ lawCharge s ∧ lawLatch s ∧ lawHistory s ∧ lawSamples s) → step s = .next t →
    (lawLoading t ∧ ocvTable t ∧ lawCharge t ∧ lawLatch t ∧ lawHistory t ∧ lawSamples t))

/-- Every step keeps the unit AWAKE, and not in DOZE, exactly while it must be, and STARTING with no record,
head, latch or run (R184, R183, R188). -/
def Obligations.AwakeLaw : Prop :=
  ∀ (s t : State),
  ((driveTimers s.drive ∧ lawAwake s ∧ lawStarting s) → step s = .next t →
    (driveTimers t.drive ∧ lawAwake t ∧ lawStarting t))

/-- The state after a power-on meets every law and every condition that the laws rest on (R188, R26, R28, R33,
R40, R73, R95, R99, R151, R178). -/
def Obligations.ResetMeetsTheLaws : Prop :=
  (let s := State.reset;
    lawLoading s ∧ undockedAsleep s ∧ lawLive s ∧ lawOutputs s ∧ lawShare s ∧ lawAllowance s ∧ powersRaised s ∧
      lawTarget s ∧
    driveTimers s.drive ∧ lawDuty s ∧ dirtTimers s ∧ dirtTable s ∧ lawImpacts s ∧ lawLevel s ∧ regulationTimer s ∧
    lawAsk s ∧ lawSwitch s ∧ lawReceive s ∧ lawTable s ∧ lawIdle s ∧ lawRail s ∧ lawBleeds s ∧ ocvTable s ∧
      lawCharge s ∧ lawLatch s ∧
    lawHistory s ∧ lawSamples s ∧ lawAwake s ∧ lawStarting s)

/-- The current limits I_T of the pack temperature and I_V of the lowest compensated voltage, band by band
(R24, R25). -/
def Obligations.TemperatureAndVoltageLimits : Prop :=
  ∀ (bs : List Byte) (t v : Int) (s : State),
  (s.activeCells ≠ [] →
    s.packLimit = min (tempLimit s.cfg s.pack.tPack) (voltLimit s.cfg s.vMinC) ∧
    s.vMinC ∈ s.activeCells.map (·.vc) ∧ ∀ x ∈ s.activeCells, s.vMinC ≤ x.vc) ∧
  (let c := judgeBlock bs;
    let band := c.iMax * (c.tCut - t) / (c.tCut - c.tDerate);
    let vBand := c.iMax * (v - c.vFloor) / (c.vLowC - c.vFloor);
    c.tDerate < c.tCut ∧ c.tDisLow ≤ 0 ∧ 40 ≤ c.tDerate ∧ tempLimit c t ≤ c.iMax ∧
    (c.tCut ≤ t → tempLimit c t = 0) ∧ (t < c.tDisLow → tempLimit c t = 0) ∧
    (c.tDisLow ≤ t → t ≤ c.tDerate → tempLimit c t = c.iMax) ∧
    (c.tDerate < t → t < c.tCut →
      (tempLimit c t : Int) ≤ band ∧ band < tempLimit c t + 100 ∧ tempLimit c t % 100 = 0) ∧
    tempLimit { defaultSettings with iMax := 28000 } 60 = 18600 ∧
    c.vFloor < c.vLowC ∧ voltLimit c v ≤ c.iMax ∧ ((c.vLowC : Int) ≤ v → voltLimit c v = c.iMax) ∧
    (v ≤ (c.vFloor : Int) → voltLimit c v = 0) ∧ (v < 0 → voltLimit c v = 0) ∧
    ((c.vFloor : Int) < v → v < (c.vLowC : Int) →
      (voltLimit c v : Int) ≤ vBand ∧ vBand < voltLimit c v + 100 ∧ voltLimit c v % 100 = 0) ∧
    voltLimit defaultSettings 3250 = 18700)

/-- The slew of the target: P_run_min from 0, a fall at once, a rise of at most 50 W, within P_run_min to the
raw target (R34). -/
def Obligations.SlewedTarget : Prop :=
  ∀ (s : State) (prev raw : Nat),
  (s.cfg.pRunMin ≤ raw → (prev = 0 ∨ s.cfg.pRunMin ≤ prev) →
    (prev = 0 → slew s.cfg.pRunMin prev raw = s.cfg.pRunMin) ∧
    (prev ≠ 0 → raw ≤ prev → slew s.cfg.pRunMin prev raw = raw) ∧
    (prev ≠ 0 → prev < raw → slew s.cfg.pRunMin prev raw = min raw (prev + 50)) ∧
    s.cfg.pRunMin ≤ slew s.cfg.pRunMin prev raw ∧ slew s.cfg.pRunMin prev raw ≤ raw ∧
    slew s.cfg.pRunMin prev raw ≤ max s.cfg.pRunMin (prev + 50)) ∧
  (s.computed.target = 0 ∨ s.computed.target = slew s.cfg.pRunMin s.allow.target
      (min (wantedPower s.cfg s.computed.mode s.dirt.level s.pack.soc s.drive.blocked) s.computed.pAllow))

/-- The raw level is the number of the dirt thresholds that the score reaches, and the position of the highest
(R83). -/
def Obligations.RawDirtLevel : Prop :=
  ∀ (bs : List Byte) (th : List Nat) (score k : Nat),
  (th.length = 10 → ascending th = true →
    rawLevel th score ≤ 10 ∧ rawLevel th score = th.countP (· ≤ score) ∧
    (k < 10 → (th.getD k 0 ≤ score ↔ k < rawLevel th score))) ∧
  (judgeBlock bs).dirt.length = 10 ∧ ascending (judgeBlock bs).dirt = true ∧
    rawLevel defaultSettings.dirt 3 = 0 ∧ rawLevel defaultSettings.dirt 55 = 5 ∧
    (260 ≤ score → rawLevel defaultSettings.dirt score = 10)

/-- CONFIG_LOAD_END fixes the configuration or the defaults, sets the PWM period and begins the start scan
(R181, R183, R38, R66, R2). That the command has no effect after the load (notes/assumptions/1.md), that a
read of other than 128 bytes is no answer (notes/assumptions/32.md) and that the PWM counter runs from this
tick on (notes/assumptions/26.md) is the model's choice. -/
def Obligations.ConfigLoadEndFixesConfiguration : Prop :=
  ∀ (s : State) (bs : List Byte),
  (s.loader.loading = true →
    Answers (exec (.configLoadEnd (some bs)) s) fun t =>
      t.cfg = (if checkAgrees bs then judgeBlock bs else defaultSettings) ∧
      t.loader.defaultsMark = (!checkAgrees bs) ∧ t.loader.loading = false ∧
      t.drive = { s.drive with period := 48000 / t.cfg.fPwm, periodAt := 6 * s.now } ∧
      t.pack = { s.pack with scan := .cells, startScan := true, scanSwitchClosed := s.charge.switch } ∧
      OnlyIn [.loader, .drive, .pack] s t) ∧
  (s.loader.loading = true →
    Answers (exec (.configLoadEnd none) s) fun t =>
      t.loader = ⟨defaultSettings, false, true⟩ ∧ t.drive = { s.drive with period := 1200, periodAt := 6 * s.now } ∧
      t.pack = { s.pack with scan := .cells, startScan := true, scanSwitchClosed := s.charge.switch } ∧
      OnlyIn [.loader, .drive, .pack] s t) ∧
  (s.loader.loading = false →
    Answers (exec (.configLoadEnd (some bs)) s) fun t =>
      t = s ∧
    Answers (exec (.configLoadEnd none) s) fun t =>
      t = s)

/-- Whatever 128 bytes are loaded, the judged configuration keeps the order of every group and the range of
every field (R182, R192, R31, R24, R25, R94). The temperature limits as one group of three, the whole window
table and the range of a window's cell voltage are inferred (notes/assumptions/21.md, notes/assumptions/22.md,
notes/assumptions/23.md). -/
def Obligations.JudgedBlockIsInOrder : Prop :=
  ∀ (bs : List Byte),
  (let c := judgeBlock bs;
    (c.vEmpty < c.vLow ∧ c.vLow < c.vOver ∧ c.tDerate < c.tCut ∧ c.vFloor < c.vLowC ∧
    c.dirt.length = 10 ∧ ascending c.dirt = true ∧ c.ocv.length = 11 ∧ ascending c.ocv = true ∧
    c.therm.length = 9 ∧ descending c.therm = true ∧ c.windows.length = 5 ∧ (∀ x ∈ c.windows, x.tLo ≤ x.tHi)) ∧
    (c.pRunMin ≤ c.pEco ∧ c.pRunMin ≤ c.pMid ∧ c.pRunMin ≤ c.pBoost ∧ c.pRunMin ≤ c.pAutoBase ∧
    60 ≤ c.pEco ∧ c.pEco ≤ 800 ∧ 60 ≤ c.pMid ∧ c.pMid ≤ 800 ∧ 60 ≤ c.pBoost ∧ c.pBoost ≤ 800 ∧
    60 ≤ c.pAutoBase ∧ c.pAutoBase ≤ 800 ∧ c.pAutoStep ≤ 60 ∧ 30 ≤ c.pRunMin ∧ c.pRunMin ≤ 120 ∧
    100 ≤ c.pMotorMax ∧ c.pMotorMax ≤ 800 ∧ c.iHk ≤ 500 ∧ c.iAccCap ≤ 6000 ∧ 5000 ≤ c.iMax ∧ c.iMax ≤ 40000) ∧
    (1 ≤ c.station ∧ c.station ≤ 14 ∧ 5 ≤ c.cells ∧ c.cells ≤ 7 ∧ 1000 ≤ c.capacity ∧ c.capacity ≤ 6000 ∧
      c.rCell ≤ 80 ∧
    4150 ≤ c.vOver ∧ c.vOver ≤ 4400 ∧ 3100 ≤ c.vLow ∧ c.vLow ≤ 3600 ∧ 2600 ≤ c.vEmpty ∧ c.vEmpty ≤ 3200 ∧
    40 ≤ c.tDerate ∧ c.tDerate ≤ 65 ∧ 50 ≤ c.tCut ∧ c.tCut ≤ 80 ∧ -30 ≤ c.tDisLow ∧ c.tDisLow ≤ 0 ∧
    3200 ≤ c.vLowC ∧ c.vLowC ≤ 3700 ∧ 2800 ≤ c.vFloor ∧ c.vFloor ≤ 3300 ∧
    (∀ x ∈ c.ocv, 3000 ≤ x ∧ x ≤ 4270) ∧ ∀ x ∈ c.therm, x ≤ 4094) ∧
    (20 ≤ c.fPwm ∧ c.fPwm ≤ 60 ∧ 12 ≤ c.minOff ∧ c.minOff ≤ 120 ∧ 24 ≤ c.dutyAlign ∧ c.dutyAlign ≤ 240 ∧
      c.advance ≤ 25 ∧
    c.dutyAlign < 48000 / c.fPwm - c.minOff ∧ 48000 / c.fPwm / 10 + 60 < 48000 / c.fPwm - c.minOff ∧
    1 ≤ c.gain ∧ c.gain ≤ 16 ∧ 10 ≤ c.iTrip ∧ c.iTrip ≤ 60 ∧ 20 ≤ c.overspeed ∧ c.overspeed ≤ 250 ∧
    20 ≤ c.blockedSpeed ∧ c.blockedSpeed ≤ 250) ∧
    (1 ≤ c.thLow ∧ c.thLow ≤ 255 ∧ 1 ≤ c.thMid ∧ c.thMid ≤ 255 ∧ 1 ≤ c.thHigh ∧ c.thHigh ≤ 255 ∧ c.wOver ≤ 15 ∧
    c.wHead ≤ 15 ∧ c.prescale ≤ 255 ∧ (∀ x ∈ c.dirt, 1 ≤ x ∧ x ≤ 4000) ∧ c.classes.length = 8 ∧
    ∀ x ∈ c.classes, x.durMin ≤ 255 ∧ x.durMax ≤ 255 ∧ x.ringMin ≤ 15 ∧ x.ringMax ≤ 15 ∧ x.weight ≤ 15) ∧
    (c.vContact ≤ 800 ∧ 100 ≤ c.iPre ∧ c.iPre ≤ 500 ∧ 500 ≤ c.iChgMax ∧ c.iChgMax ≤ 4000 ∧ 50 ≤ c.iTerm ∧
      c.iTerm ≤ 400 ∧
    (∀ x ∈ c.windows, -10 ≤ x.tLo ∧ x.tHi ≤ 53 ∧ x.iChg ≤ 6300 ∧ 3900 ≤ x.vCell ∧ x.vCell ≤ 4250) ∧
    c.holdStations.getLsbD 0 = false ∧ c.holdStations.getLsbD 15 = false ∧
    c.serviceStations.getLsbD 0 = false ∧ c.serviceStations.getLsbD 15 = false))

/-- SCAN_TIMER_EXPIRY begins a scan, CELL_CONVERSIONS_END frees the bleeds, CHARGE_DELIVERY moves Q by whole
mAs (R2, R4, R37, R14, R15, R112). The clause in which CELL_CONVERSIONS_END changes nothing is the model's
choice (notes/assumptions/1.md), and so is the taking of an expiry at its word, with the grid of the next one
(notes/assumptions/3.md) and the µAs of the operand (notes/assumptions/10.md). -/
def Obligations.ScanTimerConversionsAndDelivery : Prop :=
  ∀ (s : State) (d : Nat) (q : Int),
  (s.pack.scanTimer = some d →
    Answers (exec .scanTimerExpiry s) fun t =>
      t.time = (runTo d s).time ∧ (s.power.state.ticking = true → t.now = max d s.now) ∧
      t.pack = { s.pack with
        scanTimer := some (t.now + if s.power.state = .awake then 80000 else 800000)
        scan := if s.pack.scan = .none then .cells else s.pack.scan
        scanSwitchClosed := if s.pack.scan = .none then s.charge.switch else s.pack.scanSwitchClosed } ∧
      OnlyIn [.time, .pack] s t) ∧
  (s.pack.scan = .cells →
    Answers (exec .cellConversionsEnd s) fun t =>
      t.pack = { s.pack with scan := .rest } ∧ OnlyIn [.pack] s t ∧
      ∀ c ∈ s.pack.cells, s.bleedClosed c = false ∧ t.bleedClosed c = c.bleed) ∧
  (s.pack.scan ≠ .cells →
    Answers (exec .cellConversionsEnd s) fun t =>
      t = s) ∧
  (s.pack.deliveryTimer = some d →
    Answers (exec (.chargeDelivery q) s) fun t =>
      (let m := (s.pack.carried + q).tdiv 1000;
      t.time = (runTo d s).time ∧
      (t.pack.q : Int) = max 0 (min ((s.cfg.capacity * 3600 : Nat) : Int) (s.pack.q - m)) ∧
      t.pack = { s.pack with
        q := t.pack.q, soc := t.pack.q * 100 / (s.cfg.capacity * 3600), carried := s.pack.carried + q - 1000 * m,
        deliveryTimer := some (d + 2000000) } ∧
      t.charge = { s.charge with
        mah := min 4294967295 (s.charge.mah + (s.charge.masRem + (-m).toNat) / 3600)
        masRem := (s.charge.masRem + (-m).toNat) % 3600 } ∧
      (0 ≤ m → s.charge.masRem < 3600 → t.charge.masRem = s.charge.masRem) ∧
      LineTold s t ∧ OnlyIn [.time, .pack, .charge, .line, .report] s t))

/-- A rejected scan keeps every reading, class, count and candidate, counts the failure and re-forms SENSOR
(R5, R13, R3). The clause in which a completion without a scan changes nothing (notes/assumptions/1.md,
notes/assumptions/34.md), and a completion taken while the cell conversions run (notes/assumptions/34.md), are
the model's choice. -/
def Obligations.RejectedScanKeepsReadings : Prop :=
  ∀ (s : State) (r : ScanReading),
  (s.pack.scan ≠ .none → (r.reference < 9800 ∨ 10200 < r.reference) →
    Answers (exec (.scanCompletion r) s) fun t =>
      t.pack.refFails = min 255 (s.pack.refFails + 1) ∧
      t.pack.sensor = (s.activeCells.any (fun c => c.cls = .openTap) || s.pack.t1.faulty || s.pack.t2.faulty ||
        decide (2 ≤ t.pack.refFails)) ∧
      t.hold.reasons.sensor = t.pack.sensor ∧
      t.pack = { s.pack with
        cells := t.pack.cells, refFails := t.pack.refFails, sensor := t.pack.sensor, scan := .none,
        startScan := false,
        scanSwitchClosed := false, scanTimer := t.pack.scanTimer } ∧
      t.pack.cells.map unbled = s.pack.cells.map unbled ∧
      t.hold.history = s.hold.history ∧ OwnReasonsKept s.hold.reasons t.hold.reasons ∧
      t.dirt.samples = s.dirt.samples ∧ t.attach.head = s.attach.head ∧ t.attach.dock = s.attach.dock ∧
      OnlyIn consequent s t) ∧
  (s.pack.scan = .none →
    Answers (exec (.scanCompletion r) s) fun t =>
      t = s)

/-- An accepted scan replaces the readings together, filters classes and thermistors, forms T_pack, the pack
state, Q's start and the bleeds (R7, R8, R9, R10, R11, R12, R13, R165, R16, R18, R19, R20). The order in which
one completion reaches the blocks, and a thermistor's standing settled before its temperature, are read from
the manual by inference (notes/assumptions/7.md, notes/assumptions/24.md); a completion taken while the cell
conversions run is the model's choice (notes/assumptions/34.md). -/
def Obligations.AcceptedScanTakesReadings : Prop :=
  ∀ (s : State) (r : ScanReading) (th : List Nat) (k mean code : Nat),
  (s.pack.scan ≠ .none → (9800 ≤ r.reference ∧ r.reference ≤ 10200) → s.pack.cells.length = 7 → r.cells.length = 7 →
    s.cfg.cells ≤ 7 →
    Answers (exec (.scanCompletion r) s) fun t =>
      t.activeCells.map (·.vMeas) = (r.cells.take s.cfg.cells).map cellMv ∧
      t.activeCells.map (·.vc) =
        (r.cells.take s.cfg.cells).map (fun q => (cellMv q : Int) + (ScanReading.meanMa r * s.cfg.rCell).fdiv 1000) ∧
      (∀ p ∈ s.activeCells.zip t.activeCells,
        (let v := p.2.vMeas;
        let i : CellClass :=
          if v < 500 ∨ 4800 < v then .openTap
          else if s.cfg.vOver ≤ v ∨ p.1.cls = .high ∧ s.cfg.vOver < v + 50 then .high
          else if p.2.vc ≤ s.cfg.vEmpty ∨ p.1.cls = .empty ∧ p.2.vc < s.cfg.vEmpty + 100 then .empty
          else if p.2.vc ≤ s.cfg.vLow ∨ (p.1.cls = .low ∨ p.1.cls = .empty) ∧ p.2.vc < s.cfg.vLow + 100 then .low
          else .good
        FilteredBy s.pack.direct i (p.1.cls, p.1.cand, p.1.candCount) (p.2.cls, p.2.cand, p.2.candCount))) ∧
      (t.pack.cells.drop s.cfg.cells).map unbled = (s.pack.cells.drop s.cfg.cells).map unbled ∧
      t.pack.vPack = (t.activeCells.map (·.vMeas)).sum ∧ t.pack.iPack = ScanReading.meanMa r ∧
        t.pack.dockReading = ScanReading.dockMv r ∧
      t.pack.iRail = ScanReading.railMa r ∧ t.pack.refFails = 0 ∧ t.pack.direct = false ∧ t.pack.scan = .none ∧
      (∀ p ∈ [(s.pack.t1, t.pack.t1, r.code1), (s.pack.t2, t.pack.t2, r.code2)],
        (let bad := decide (p.2.2 < 50) || decide (4000 < p.2.2);
        p.2.1.code = p.2.2 ∧
        FilteredBy s.pack.direct bad (p.1.faulty, p.1.cand, p.1.candCount)
          (p.2.1.faulty, p.2.1.cand, p.2.1.candCount) ∧
        p.2.1.temp = if p.2.1.faulty = true ∨ bad = true then p.1.temp else thermTemp s.cfg.therm p.2.2)) ∧
      t.pack.tPack = (if t.pack.t1.faulty = true ∧ t.pack.t2.faulty = true then s.pack.tPack
        else if t.pack.t1.faulty = true then t.pack.t2.temp else if t.pack.t2.faulty = true then t.pack.t1.temp
        else max t.pack.t1.temp t.pack.t2.temp) ∧
      t.pack.packState = (if t.activeCells.any (fun c => c.cls = .openTap) = true then .openTap
        else if t.activeCells.any (fun c => c.cls = .high) = true then .high
        else if t.activeCells.any (fun c => c.cls = .empty) = true then .empty
        else if t.activeCells.any (fun c => c.cls = .low) = true then .low else .good) ∧
      t.pack.sensor = (t.activeCells.any (fun c => c.cls = .openTap) || t.pack.t1.faulty || t.pack.t2.faulty) ∧
      t.hold.reasons.packHot = (decide (s.cfg.tCut ≤ t.pack.tPack) ||
        (s.hold.reasons.packHot && decide (s.cfg.tCut - 5 < t.pack.tPack))) ∧
      t.hold.reasons.packCold = (decide (t.pack.tPack < s.cfg.tDisLow) ||
        (s.hold.reasons.packCold && decide (t.pack.tPack < s.cfg.tDisLow + 5))) ∧
      t.pack.scanSwitchClosed = false ∧ t.pack.deliveryTimer = s.pack.deliveryTimer ∧
        t.pack.carried = s.pack.carried ∧
      t.dirt.samples = s.dirt.samples ∧ t.attach.head = s.attach.head ∧ t.attach.dock = s.attach.dock ∧
      OnlyIn consequent s t) ∧
  (s.pack.scan ≠ .none → (9800 ≤ r.reference ∧ r.reference ≤ 10200) →
    Answers (exec (.scanCompletion r) s) fun t =>
      (let full := s.cfg.capacity * 3600;
      let start := if s.pack.ocvPending = true
        then ocvPercent (t.pack.vPack / s.cfg.cells) 0 s.cfg.ocv * full / 100 else s.pack.q
      let rest := t.pack.packState = .empty ∧ t.pack.iPack.natAbs < 200;
      let third := rest ∧ 2 ≤ s.pack.emptyRest;
      t.pack.ocvPending = false ∧ t.pack.q = (if third then 0 else start) ∧
      t.pack.soc = (if s.pack.ocvPending = true ∨ third then t.pack.q * 100 / full else s.pack.soc) ∧
      t.pack.emptyRest = if rest ∧ s.pack.emptyRest < 2 then s.pack.emptyRest + 1 else 0)) ∧
  (s.pack.scan ≠ .none → (9800 ≤ r.reference ∧ r.reference ≤ 10200) → lawBleeds s →
    Answers (exec (.scanCompletion r) s) fun t =>
      (let barred := 50 < t.pack.tPack ∨ t.activeCells.any (fun c => c.cls = .openTap) = true;
      let held := t.charge.phase = .topoff ∨ t.charge.phase = .done;
      (barred ∨ ¬ held → t.pack.cells.all (!·.bleed) = true) ∧
      (¬ barred → (s.charge.phase = .topoff ∨ s.charge.phase = .done) → held →
        ∀ p ∈ s.activeCells.zip t.activeCells, p.2.bleed =
          if t.lowestCell + 30 ≤ p.2.vMeas ∧ 3900 ≤ p.2.vMeas then true
          else if p.2.vMeas ≤ t.lowestCell + 10 then false else p.1.bleed) ∧
      (s.charge.phase ≠ .topoff → s.charge.phase ≠ .done → t.pack.cells.all (!·.bleed) = true))) ∧
  (th.length = 11 → ascending th = true →
    (mean < th.getD 0 0 → ocvPercent mean 0 th = 0) ∧ (th.getD 10 0 ≤ mean → ocvPercent mean 0 th = 100) ∧
    (k < 10 → th.getD k 0 ≤ mean → mean < th.getD (k + 1) 0 →
      ocvPercent mean 0 th = 10 * k + 10 * (mean - th.getD k 0) / (th.getD (k + 1) 0 - th.getD k 0))) ∧
  (th.length = 9 → descending th = true → k < 8 → (k = 0 ∨ code ≤ th.getD k 0) → (k = 7 ∨ th.getD (k + 1) 0 < code) →
    thermTemp th code = max (-40) (min 125 (-20 + 15 * (k : Int) +
      (15 * ((th.getD k 0 : Int) - code)).tdiv ((th.getD k 0 : Int) - th.getD (k + 1) 0))))

/-- At every scan completion the nine stages form the share, P_allow, LOW_ALLOWANCE, the mode and the target,
which starts or coasts the drive (R23, R24, R25, R26, R27, R28, R30, R32, R33, R49, R60, R180). The order in
which one completion reaches the blocks is read from the manual by inference (notes/assumptions/7.md). -/
def Obligations.AllowanceAtScan : Prop :=
  ∀ (s : State) (r : ScanReading),
  (s.pack.scan ≠ .none → lawOutputs s → s.charge.phase = .undocked → s.charge.switch = false →
    Answers (exec (.scanCompletion r) s) fun t =>
      (let c := s.cfg;
      let lim := min (tempLimit c t.pack.tPack) (voltLimit c t.vMinC);
      let share := min c.iAccCap (lim - c.iHk);
      let res := min share (max t.pack.iRail t.table.wantedDraw);
      let p := min c.pMotorMax ((lim - res - c.iHk) * t.pack.vPack / 1000000);
      let mode := modeInForce t.table.activeRequest;
      let wanted := wantedPower c mode s.dirt.level t.pack.soc s.drive.blocked;
      t.allow.iShare = share ∧ t.allow.pAllow = p ∧ t.allow.mode = mode ∧
      t.allow.low = (if p < c.pRunMin then true else if c.pRunMin + 20 ≤ p then false else s.allow.low) ∧
      t.hold.reasons.lowAllowance = t.allow.low ∧
      (s.hold.stopSuction = false → t.hold.stopSuction = true → t.allow.target = 0) ∧
      (s.hold.stopSuction = false → s.allow.low = false → t.hold.stopSuction = false →
        t.allow.target = if wanted = 0 then 0 else slew c.pRunMin s.allow.target (min wanted p)))) ∧
  (s.pack.scan ≠ .none →
    Answers (exec (.scanCompletion r) s) fun t =>
      (let c := s.cfg;
      let lim := min (tempLimit c t.pack.tPack) (voltLimit c t.vMinC);
      let share := min c.iAccCap (lim - c.iHk);
      let res := min share (max t.pack.iRail t.table.wantedDraw);
      let p := min c.pMotorMax ((lim - res - c.iHk) * t.pack.vPack / 1000000);
      t.allow.iShare = share ∧ t.allow.mode = modeInForce t.table.activeRequest ∧
      (t.charge.switch = true → t.allow.pAllow = 0) ∧ (t.allow.pAllow = p ∨ t.allow.pAllow = 0) ∧
      t.hold.reasons.lowAllowance = t.allow.low ∧ (p < c.pRunMin → t.allow.low = true) ∧
      (s.hold.stopSuction = false → t.hold.stopSuction = true → t.allow.target = 0))) ∧
  (s.pack.scan ≠ .none →
    Answers (exec (.scanCompletion r) s) fun t =>
      (t.attach.excess = true ↔ t.attach.rail = true ∧ 110 * t.allow.iShare < t.pack.iRail * 100) ∧
      t.attach.overdrawTimer =
        if t.attach.excess = true then some (s.attach.overdrawTimer.getD (s.now + 4000000)) else none) ∧
  (s.pack.scan ≠ .none → s.drive.state = .stopped →
    Answers (exec (.scanCompletion r) s) fun t =>
      (t.allow.target = 0 → t.drive.state = .stopped ∧ t.drive.runs = s.drive.runs ∧
        t.drive.runNumber = s.drive.runNumber) ∧
      (t.allow.target ≠ 0 → t.drive.state = .align ∧ t.drive.step = 1 ∧ t.drive.alignTimer = some (s.now + 1200000) ∧
        t.drive.bufDuty = min s.cfg.dutyAlign (s.drive.period - s.cfg.minOff) ∧ t.drive.gatesOn = false ∧
        t.drive.target = t.allow.target ∧ t.drive.runNumber = (s.drive.runNumber + 1) % 65536 ∧
        t.drive.runs = min 65535 (s.drive.runs + 1) ∧ t.drive.rampFailures = 0 ∧ t.drive.desyncs = 0 ∧
        t.drive.restart = false ∧ t.charge.switch = false)) ∧
  (s.pack.scan ≠ .none → lawOutputs s → s.drive.state.driven = true →
    Answers (exec (.scanCompletion r) s) fun t =>
      (t.allow.target = 0 → t.drive.state = .coast ∧ t.drive.restart = false ∧ t.drive.target = 0 ∧
        t.drive.gatesOn = false ∧
        t.drive.appDuty = 0 ∧ t.drive.bufDuty = 0 ∧ t.drive.coastTimer = some (s.now + 12000000) ∧
          t.drive.speed = 0) ∧
      (t.allow.target ≠ 0 → t.drive = { s.drive with target := t.allow.target }) ∧ CountersKept s t) ∧
  (s.pack.scan ≠ .none → lawOutputs s → lawAsk s → (s.drive.state = .coast ∨ s.drive.state = .fault) →
    Answers (exec (.scanCompletion r) s) fun t =>
      t.drive = { s.drive with
        target := t.allow.target, restart := t.drive.restart } ∧
      (s.drive.state = .fault ∨ s.charge.phase.charging = false ∨ s.charge.switch = true → t.drive.restart =
        if s.drive.state = .coast ∧ t.allow.target = 0 then false else s.drive.restart) ∧
      (t.drive.restart = s.drive.restart ∨ t.drive.restart = false) ∧ CountersKept s t)

/-- PERIOD_START takes up the buffered duty and judges cutoffs and bus voltage; BUS_CURRENT_TRIP ends the
on-pulse (R38, R39, R41, R42, R54). The model's choice are the undervoltage timer judged at a period start by
the operand lowFor (notes/assumptions/27.md), the grid of a period start (notes/assumptions/26.md) and the
clauses of no effect, with the PWM timer not running or the trip outside an on-pulse (notes/assumptions/1.md);
the count standing at 8 is inferred (notes/assumptions/5.md). -/
def Obligations.PwmPeriodAndTrip : Prop :=
  ∀ (s : State) (mv ma : Nat) (low : Option Nat),
  (s.drive.period ≠ 0 → s.power.state.ticking = true →
    Answers (exec (.periodStart mv ma low) s) fun t =>
      t.time = (runTo ((s.drive.periodAt + s.drive.period + 5) / 6) s).time ∧
      6 * t.now < t.drive.periodAt + s.drive.period ∧
      (s.drive.periodAt ≤ 6 * s.now → t.drive.periodAt ≤ 6 * t.now ∧
        s.drive.periodAt + s.drive.period ≤ t.drive.periodAt ∧
        (t.drive.periodAt - s.drive.periodAt) % s.drive.period = 0 ∧
        (s.now ≤ (s.drive.periodAt + s.drive.period + 5) / 6 → 6 ≤ s.drive.period →
          t.drive.periodAt = s.drive.periodAt + s.drive.period)) ∧
      t.drive = { s.drive with
        periodAt := t.drive.periodAt, appDuty := s.drive.bufDuty, gatesOn := s.drive.state.driven, cutEarly := false,
        cutoffs := t.drive.cutoffs, uvSince := t.drive.uvSince,
        powerSum := s.drive.powerSum + (if s.drive.state = .run then mv * ma else 0)
        powerCount := s.drive.powerCount + (if s.drive.state = .run then 1 else 0) } ∧
      (s.drive.cutEarly = true → t.drive.cutoffs = min 8 (s.drive.cutoffs + 1)) ∧
      (s.drive.cutEarly = false → s.drive.cutoffs < 8 → t.drive.cutoffs = 0) ∧
      (14000 ≤ mv → t.drive.uvSince = none) ∧
      (mv < 14000 → (s.drive.state.driven = true ∨ s.drive.state = .coast) →
        t.drive.uvSince = some (max s.drive.watchedFrom (match low with
          | some n => t.now - n
          | none => s.drive.uvSince.getD t.now))) ∧
      (s.drive.state = .stopped ∨ s.drive.state = .fault → t.drive.uvSince = none) ∧ OnlyIn [.time, .drive] s t) ∧
  ((s.drive.period = 0 ∨ s.power.state.ticking = false) →
    Answers (exec (.periodStart mv ma low) s) fun t =>
      t = s) ∧
  (s.drive.state.driven = true → s.legsOn = true → s.cfg.iTrip * 1000 < ma →
    Answers (exec (.busCurrentTrip ma) s) fun t =>
      t.drive = { s.drive with cutEarly := true } ∧ t.legsOn = false ∧ OnlyIn [.drive] s t) ∧
  ((s.drive.state.driven = false ∨ s.legsOn = false ∨ ma ≤ s.cfg.iTrip * 1000) →
    Answers (exec (.busCurrentTrip ma) s) fun t =>
      t = s)

/-- OVERCURRENT and UNDERVOLT put the drive in FAULT with its latch, entry and flag, or pass through it with
no held trigger (R41, R42, R61, R62, R166, R173). The undervoltage timer as the period starts leave it
(notes/assumptions/27.md) and the clauses of no effect (notes/assumptions/1.md) are the model's choice; the
count standing at 8 until OVERCURRENT is inferred (notes/assumptions/5.md). -/
def Obligations.OvercurrentAndUndervoltEnterFault : Prop :=
  ∀ (s : State) (u : Nat),
  (s.drive.state.driven = true → 8 ≤ s.drive.cutoffs → s.table.triggerHeld = true →
    Answers (exec .overcurrent s) fun t =>
      t.time = s.time ∧ t.drive.gatesOn = false ∧ t.drive.state = .fault ∧ t.hold.reasons.driveFault = true ∧
        t.hold.stopSuction = true ∧ t.drive.appDuty = 0 ∧
      t.drive.bufDuty = 0 ∧
      Logged .overcurrent s t ∧ Raised .driveFault t ∧
        t.dirt.level = (if s.drive.state = .run then 0 else s.dirt.level) ∧
      t.pack.q = s.pack.q ∧ t.drive.secTotal = s.drive.secTotal ∧ OnlyIn (.time :: consequent) s t) ∧
  (s.drive.state.driven = true → 8 ≤ s.drive.cutoffs → s.table.triggerHeld = false →
    Answers (exec .overcurrent s) fun t =>
      t.time = s.time ∧ t.drive.gatesOn = false ∧ t.drive.state ≠ .fault ∧ t.hold.reasons.driveFault = false ∧
      (s.drive.target = 0 → t.drive.state = .stopped) ∧
      Logged .overcurrent s t ∧ Raised .driveFault t ∧
        t.dirt.level = (if s.drive.state = .run then 0 else s.dirt.level) ∧
      t.pack.q = s.pack.q ∧ t.drive.secTotal = s.drive.secTotal ∧ OnlyIn (.time :: consequent) s t) ∧
  ((s.drive.state.driven = true ∨ s.drive.state = .coast) → s.drive.uvSince = some u → s.table.triggerHeld = true →
    Answers (exec .undervoltageTimerExpiry s) fun t =>
      t.time = (runTo (u + 80000) s).time ∧ t.drive.gatesOn = false ∧ t.drive.state = .fault ∧
        t.hold.reasons.driveFault = true ∧ t.hold.stopSuction = true ∧ t.drive.appDuty = 0 ∧
      t.drive.bufDuty = 0 ∧
      Logged .undervolt s t ∧ Raised .driveFault t ∧
        t.dirt.level = (if s.drive.state = .run then 0 else s.dirt.level) ∧
      t.pack.q = s.pack.q ∧ t.drive.secTotal = s.drive.secTotal ∧ OnlyIn (.time :: consequent) s t) ∧
  ((s.drive.state.driven = true ∨ s.drive.state = .coast) → s.drive.uvSince = some u → s.table.triggerHeld = false →
    Answers (exec .undervoltageTimerExpiry s) fun t =>
      t.time = (runTo (u + 80000) s).time ∧ t.drive.gatesOn = false ∧ t.drive.state ≠ .fault ∧
        t.hold.reasons.driveFault = false ∧
      (s.drive.target = 0 → t.drive.state = .stopped) ∧
      Logged .undervolt s t ∧ Raised .driveFault t ∧
        t.dirt.level = (if s.drive.state = .run then 0 else s.dirt.level) ∧
      t.pack.q = s.pack.q ∧ t.drive.secTotal = s.drive.secTotal ∧ OnlyIn (.time :: consequent) s t) ∧
  ((s.drive.state.driven = false ∨ s.drive.cutoffs < 8) →
    Answers (exec .overcurrent s) fun t =>
      t = s) ∧
  ((s.drive.state = .stopped ∨ s.drive.state = .fault ∨ s.drive.uvSince = none) →
    Answers (exec .undervoltageTimerExpiry s) fun t =>
      t = s)

/-- The align end, forced, scheduled and missed commutations move the step on, with the intervals, duty,
counts and deadlines of each (R43, R50, R51, R52, R46, R47). That a forced commutation after the end of the
ramp timer has no effect (notes/assumptions/25.md) and that the bad-step count stands at 3
(notes/assumptions/5.md) is inferred; a clause of no effect is the model's choice (notes/assumptions/1.md). -/
def Obligations.CommutationsInRampAndRun : Prop :=
  ∀ (s : State) (d : Nat) (e : Nat),
  (s.drive.alignTimer = some d →
    Answers (exec .alignTimerExpiry s) fun t =>
      t.time = (runTo d s).time ∧
      t.drive = { s.drive with
        state := .ramp, step := if s.drive.step = 6 then 1 else s.drive.step + 1, tC := t.counter, armed := true,
        crossed := false, alignTimer := none, rampTimer := some (t.now + 3200000), rampEntry := t.now,
        forced := 40000, forcedTimer := some (t.now + 40000), speed := 2000, goodCrossings := 0,
        bufDuty := min s.cfg.dutyAlign (s.drive.period - s.cfg.minOff) } ∧
      LineTold s t ∧ OnlyIn [.time, .drive, .line, .report] s t) ∧
  (s.drive.forcedTimer = some d → s.drive.rampTimer = some e → d ≤ e →
    Answers (exec .forcedCommutation s) fun t =>
      (let at' := t.now - s.drive.rampEntry;
      t.time = (runTo d s).time ∧
      (t.drive.bufDuty : Int) = max 0 (min ((s.drive.period - s.cfg.minOff : Nat) : Int) (s.cfg.dutyAlign +
        (((s.drive.period / 10 : Nat) : Int) + 60 - s.cfg.dutyAlign) * at' / 3200000 +
        (if ((s.drive.period / 10 : Nat) : Int) + 60 < s.cfg.dutyAlign ∧
            (((s.drive.period / 10 : Nat) : Int) + 60 - s.cfg.dutyAlign) * at' % 3200000 ≠ 0 then 1 else 0))) ∧
      t.drive = { s.drive with
        step := if s.drive.step = 6 then 1 else s.drive.step + 1, tC := t.counter, armed := true, crossed := false,
        goodCrossings := if s.drive.crossed then s.drive.goodCrossings else 0
        forced := 40000 - 33334 * at' / 3200000, forcedTimer := some (t.now + (40000 - 33334 * at' / 3200000))
        speed := 80000000 / (40000 - 33334 * at' / 3200000), bufDuty := t.drive.bufDuty } ∧
      OnlyIn [.time, .drive] s t)) ∧
  (s.drive.forcedTimer = some d → s.drive.rampTimer = some e → e < d →
    Answers (exec .forcedCommutation s) fun t =>
      t = s) ∧
  (s.drive.compare = some d →
    Answers (exec .commutationCompareExpiry s) fun t =>
      t.time = (runTo d s).time ∧
      t.drive = { s.drive with
        step := if s.drive.step = 6 then 1 else s.drive.step + 1, tC := t.counter, armed := true, crossed := false,
        compare := none, deadline := some (t.now + 2 * s.drive.stepAvg) } ∧ OnlyIn [.time, .drive] s t) ∧
  (s.drive.deadline = some d →
    Answers (exec .missedCrossingDeadline s) fun t =>
      t.time = (runTo d s).time ∧
      t.drive = { s.drive with
        step := if s.drive.step = 6 then 1 else s.drive.step + 1, tC := t.counter, armed := true, crossed := false,
        badSteps := min 3 (s.drive.badSteps + 1), deadline := some (t.now + 2 * s.drive.stepAvg)
        tRef := t.counter - BitVec.ofNat 32 (s.drive.stepAvg / 2 - s.drive.stepAvg * s.cfg.advance / 100) } ∧
      OnlyIn [.time, .drive] s t)

/-- In RUN the first armed edge after blanking is the crossing: a good interval enters the ring, a bad one
counts, both schedule (R43, R44, R45, R46, R63). That the count stands at 3 (notes/assumptions/5.md) and that
a good interval is at least 1 tick (notes/assumptions/12.md) is inferred; that an edge outside its step
changes nothing is the model's choice (notes/assumptions/1.md, notes/assumptions/3.md). -/
def Obligations.CrossingInRun : Prop :=
  ∀ (s : State) (after : Nat) (ph : MotorPhase) (ed : Edge),
  (s.drive.state = .run → s.inStep after = true → s.drive.armed = true → s.drive.crossed = false →
    floating s.drive.step = (ph, ed) → s.drive.stepAvg / 4 ≤ ((runTo (s.now + after) s).counter - s.drive.tC).toNat →
      (1 ≤ ((runTo (s.now + after) s).counter - s.drive.tRef).toNat ∧
        s.drive.stepAvg / 2 ≤ ((runTo (s.now + after) s).counter - s.drive.tRef).toNat ∧
          ((runTo (s.now + after) s).counter - s.drive.tRef).toNat ≤ 3 * s.drive.stepAvg / 2) →
    Answers (exec (.comparatorCapture after ph ed) s) fun t =>
      (let ring := s.drive.ring.drop 1 ++ [((runTo (s.now + after) s).counter - s.drive.tRef).toNat];
      let avg := ring.sum / 6;
      t.time = (runTo (s.now + after) s).time ∧
      t.drive = { s.drive with
        ring := ring, stepAvg := avg, speed := 80000000 / avg, badSteps := if s.drive.badSteps = 3 then 3 else 0
        tRef := t.counter, crossed := true, deadline := none
        compare := some (t.now + (avg / 2 - avg * s.cfg.advance / 100)) } ∧
      LineTold s t ∧ OnlyIn [.time, .drive, .line, .report] s t)) ∧
  (s.drive.state = .run → s.inStep after = true → s.drive.armed = true → s.drive.crossed = false →
    floating s.drive.step = (ph, ed) → s.drive.stepAvg / 4 ≤ ((runTo (s.now + after) s).counter - s.drive.tC).toNat →
      (((runTo (s.now + after) s).counter - s.drive.tRef).toNat = 0 ∨
        ((runTo (s.now + after) s).counter - s.drive.tRef).toNat < s.drive.stepAvg / 2 ∨
          3 * s.drive.stepAvg / 2 < ((runTo (s.now + after) s).counter - s.drive.tRef).toNat) →
    Answers (exec (.comparatorCapture after ph ed) s) fun t =>
      t.time = (runTo (s.now + after) s).time ∧
      t.drive = { s.drive with
        badSteps := min 3 (s.drive.badSteps + 1), tRef := t.counter, crossed := true, deadline := none
        compare := some (t.now + (s.drive.stepAvg / 2 - s.drive.stepAvg * s.cfg.advance / 100)) } ∧
      LineTold s t ∧ OnlyIn [.time, .drive, .line, .report] s t) ∧
  (s.drive.state = .run → s.inStep after = true →
    (s.drive.armed = false ∨ s.drive.crossed = true ∨ floating s.drive.step ≠ (ph, ed) ∨
      ((runTo (s.now + after) s).counter - s.drive.tC).toNat < s.drive.stepAvg / 4) →
    Answers (exec (.comparatorCapture after ph ed) s) fun t =>
      t.time = (runTo (s.now + after) s).time ∧ LineTold s t ∧ OnlyIn [.time, .line, .report] s t) ∧
  (((s.drive.state ≠ .run ∧ s.drive.state ≠ .ramp) ∨ s.inStep after = false) →
    Answers (exec (.comparatorCapture after ph ed) s) fun t =>
      t = s)

/-- In RAMP a crossing within a quarter to three quarters of the step counts, and the twelfth in a row enters
RUN (R44, R52, R68, R86, R53). That an edge after the end of the ramp timer has no effect is inferred
(notes/assumptions/25.md); that an edge outside its step changes nothing is the model's choice
(notes/assumptions/1.md, notes/assumptions/3.md). -/
def Obligations.CrossingInRamp : Prop :=
  ∀ (s : State) (after : Nat) (ph : MotorPhase) (ed : Edge),
  (s.drive.state = .ramp → s.inStep after = true → s.drive.armed = true → s.drive.crossed = false →
    floating s.drive.step = (ph, ed) → s.drive.forced / 4 ≤ ((runTo (s.now + after) s).counter - s.drive.tC).toNat →
      ((runTo (s.now + after) s).counter - s.drive.tC).toNat ≤ 3 * s.drive.forced / 4 → s.drive.goodCrossings < 11 →
    Answers (exec (.comparatorCapture after ph ed) s) fun t =>
      t.time = (runTo (s.now + after) s).time ∧
      t.drive = { s.drive with crossed := true, goodCrossings := s.drive.goodCrossings + 1 } ∧
      LineTold s t ∧ OnlyIn [.time, .drive, .line, .report] s t) ∧
  (s.drive.state = .ramp → s.inStep after = true → s.drive.armed = true → s.drive.crossed = false →
    floating s.drive.step = (ph, ed) →
      3 * s.drive.forced / 4 < ((runTo (s.now + after) s).counter - s.drive.tC).toNat →
    Answers (exec (.comparatorCapture after ph ed) s) fun t =>
      t.time = (runTo (s.now + after) s).time ∧ t.drive = { s.drive with crossed := true, goodCrossings := 0 } ∧
      LineTold s t ∧ OnlyIn [.time, .drive, .line, .report] s t) ∧
  (s.drive.state = .ramp → s.inStep after = true → s.drive.armed = true → s.drive.crossed = false →
    floating s.drive.step = (ph, ed) → s.drive.forced / 4 ≤ ((runTo (s.now + after) s).counter - s.drive.tC).toNat →
      ((runTo (s.now + after) s).counter - s.drive.tC).toNat ≤ 3 * s.drive.forced / 4 → 11 ≤ s.drive.goodCrossings →
    Answers (exec (.comparatorCapture after ph ed) s) fun t =>
      t.time = (runTo (s.now + after) s).time ∧
      t.drive = { s.drive with
        state := .run, crossed := true, goodCrossings := s.drive.goodCrossings + 1, rampTimer := none,
        forcedTimer := none
        ring := List.replicate 6 s.drive.forced, stepAvg := s.drive.forced, speed := 80000000 / s.drive.forced
        tRef := t.counter, badSteps := 0, blocked := false, blockedSetSince := none, blockedClearSince := none
        compare := some (t.now + (s.drive.forced / 2 - s.drive.forced * s.cfg.advance / 100)), deadline := none
        controlTimer := some (t.now + 8000), powerSum := 0, powerCount := 0 } ∧
      t.dirt = { s.dirt with
        det := .ready, below := 0, dead := 0, sampleAt := some (t.now + 80), window := 0, windowSum := 0
        windowTimer := some (t.now + 800000)
        sampleCount := if s.dirt.sampleRun = some s.drive.runNumber then s.dirt.sampleCount else 0
        sampleRun := some s.drive.runNumber } ∧
      LineTold s t ∧ OnlyIn [.time, .drive, .dirt, .line, .report] s t) ∧
  (s.drive.state = .ramp → s.inStep after = true →
    (s.drive.armed = false ∨ s.drive.crossed = true ∨ floating s.drive.step ≠ (ph, ed) ∨
      ((runTo (s.now + after) s).counter - s.drive.tC).toNat < s.drive.forced / 4) →
    Answers (exec (.comparatorCapture after ph ed) s) fun t =>
      t.time = (runTo (s.now + after) s).time ∧ LineTold s t ∧ OnlyIn [.time, .line, .report] s t) ∧
  (s.drive.state = .ramp → s.drive.rampTimer.any (fun e => decide (e < s.now + after)) = true →
    Answers (exec (.comparatorCapture after ph ed) s) fun t =>
      t = s)

/-- A desync or a failed ramp coasts with the restart mark, and the sixth desync or third failure of a run is
a FAULT (R48, R53, R58, R59, R61, R87). The clause in which DESYNC changes nothing is the model's choice
(notes/assumptions/1.md); the third bad step standing until DESYNC is inferred (notes/assumptions/5.md). -/
def Obligations.DesyncAndFailedRamp : Prop :=
  ∀ (s : State) (d : Nat),
  (s.drive.state = .run → 3 ≤ s.drive.badSteps → s.drive.desyncs < 5 →
    Answers (exec .desync s) fun t =>
      t.time = s.time ∧ t.drive.desyncs = s.drive.desyncs + 1 ∧ t.drive.badSteps = 0 ∧ t.dirt.queue = [] ∧
        t.dirt.level = 0 ∧
      t.drive.state = .coast ∧ t.drive.coastTimer = some (t.now + 12000000) ∧ t.drive.gatesOn = false ∧
      t.drive.appDuty = 0 ∧ t.drive.bufDuty = 0 ∧ t.drive.speed = 0 ∧ t.drive.compare = none ∧
        t.drive.deadline = none ∧
      t.drive.forcedTimer = none ∧ t.drive.armed = false ∧ t.drive.blocked = false ∧
      (s.charge.phase.charging = false → t.drive.restart = true ∧ t.drive.target = s.drive.target) ∧
        CountersKept s t ∧
      t.hold.history = s.hold.history ∧
      (s.running = true → t.power.state = .awake) ∧
      OnlyIn [.time, .pack, .allow, .drive, .dirt, .charge, .line, .report, .power] s t) ∧
  (s.drive.state = .run → 3 ≤ s.drive.badSteps → 5 ≤ s.drive.desyncs → s.table.triggerHeld = true →
    Answers (exec .desync s) fun t =>
      t.time = s.time ∧ t.drive.gatesOn = false ∧ t.drive.state = .fault ∧ t.hold.reasons.driveFault = true ∧
        t.hold.stopSuction = true ∧ t.drive.appDuty = 0 ∧
      t.drive.bufDuty = 0 ∧
      Logged .desync s t ∧ Raised .driveFault t ∧ t.dirt.level = (if s.drive.state = .run then 0 else s.dirt.level) ∧
      t.pack.q = s.pack.q ∧ t.drive.secTotal = s.drive.secTotal ∧ OnlyIn (.time :: consequent) s t) ∧
  (s.drive.state = .run → 3 ≤ s.drive.badSteps → 5 ≤ s.drive.desyncs → s.table.triggerHeld = false →
    Answers (exec .desync s) fun t =>
      t.time = s.time ∧ t.drive.gatesOn = false ∧ t.drive.state ≠ .fault ∧ t.hold.reasons.driveFault = false ∧
      (s.drive.target = 0 → t.drive.state = .stopped) ∧
      Logged .desync s t ∧ Raised .driveFault t ∧ t.dirt.level = (if s.drive.state = .run then 0 else s.dirt.level) ∧
      t.pack.q = s.pack.q ∧ t.drive.secTotal = s.drive.secTotal ∧ OnlyIn (.time :: consequent) s t) ∧
  (s.drive.rampTimer = some d → 2 ≤ s.drive.rampFailures → s.table.triggerHeld = false →
    Answers (exec .rampTimerExpiry s) fun t =>
      t.time = (runTo d s).time ∧ t.drive.gatesOn = false ∧ t.drive.state ≠ .fault ∧
        t.hold.reasons.driveFault = false ∧
      (s.drive.target = 0 → t.drive.state = .stopped) ∧
      Logged .startFail s t ∧ Raised .driveFault t ∧
        t.dirt.level = (if s.drive.state = .run then 0 else s.dirt.level) ∧
      t.pack.q = s.pack.q ∧ t.drive.secTotal = s.drive.secTotal ∧ OnlyIn (.time :: consequent) s t) ∧
  (s.drive.rampTimer = some d → s.drive.rampFailures < 2 →
    Answers (exec .rampTimerExpiry s) fun t =>
      t.time = (runTo d s).time ∧ t.drive.rampFailures = s.drive.rampFailures + 1 ∧
      t.drive.state = .coast ∧ t.drive.coastTimer = some (t.now + 12000000) ∧ t.drive.gatesOn = false ∧
      t.drive.appDuty = 0 ∧ t.drive.bufDuty = 0 ∧ t.drive.speed = 0 ∧ t.drive.compare = none ∧
        t.drive.deadline = none ∧
      t.drive.forcedTimer = none ∧ t.drive.armed = false ∧ t.drive.blocked = false ∧
      (s.charge.phase.charging = false → t.drive.restart = true ∧ t.drive.target = s.drive.target) ∧
        CountersKept s t ∧
      t.hold.history = s.hold.history ∧
      (s.running = true → t.power.state = .awake) ∧
      OnlyIn [.time, .pack, .allow, .drive, .dirt, .charge, .line, .report, .power] s t) ∧
  (s.drive.rampTimer = some d → 2 ≤ s.drive.rampFailures → s.table.triggerHeld = true →
    Answers (exec .rampTimerExpiry s) fun t =>
      t.time = (runTo d s).time ∧ t.drive.gatesOn = false ∧ t.drive.state = .fault ∧
        t.hold.reasons.driveFault = true ∧ t.hold.stopSuction = true ∧ t.drive.appDuty = 0 ∧
      t.drive.bufDuty = 0 ∧
      Logged .startFail s t ∧ Raised .driveFault t ∧
        t.dirt.level = (if s.drive.state = .run then 0 else s.dirt.level) ∧
      t.pack.q = s.pack.q ∧ t.drive.secTotal = s.drive.secTotal ∧ OnlyIn (.time :: consequent) s t) ∧
  ((s.drive.state ≠ .run ∨ s.drive.badSteps < 3) →
    Answers (exec .desync s) fun t =>
      t = s)

/-- CONTROL_EXPIRY cuts or steps the duty toward the target, clamps it, and judges the BLOCKED timers and the
RUN time (R54, R55, R56, R57, R65). The free mean power of a control period without a product is the model's
choice (notes/assumptions/11.md); the RUN fraction standing at 1,000 is inferred (notes/assumptions/5.md). -/
def Obligations.ControlExpiryRegulates : Prop :=
  ∀ (s : State) (d : Nat),
  (s.drive.controlTimer = some d → s.drive.powerCount ≠ 0 →
    Answers (exec .controlExpiry s) fun t =>
      (let p := s.drive.powerSum / s.drive.powerCount / 1000000;
      (t.drive.bufDuty : Int) = min ((s.drive.period - s.cfg.minOff : Nat) : Int)
        (max ((s.drive.period / 10 : Nat) : Int)
          (if 5 * s.drive.target < 4 * p then ((s.drive.bufDuty * s.drive.target / p : Nat) : Int)
           else if s.cfg.overspeed * 1000 < s.drive.speed then (s.drive.bufDuty : Int) - 8
           else (s.drive.bufDuty : Int) + max (-8) (min 8 ((((s.drive.target : Int) - p) * s.cfg.gain).tdiv 16)))) ∧
      t.time = (runTo d s).time ∧
      t.drive = { s.drive with
        bufDuty := t.drive.bufDuty, powerSum := 0, powerCount := 0, controlTimer := some (d + 8000)
        runFraction := min 1000 (s.drive.runFraction + 1)
        blockedSetSince :=
          if s.cfg.blockedSpeed * 1000 ≤ s.drive.speed then some (s.drive.blockedSetSince.getD t.now) else none
        blockedClearSince :=
          if s.drive.blocked = true ∧ s.drive.speed < s.cfg.blockedSpeed * 1000 - 10000
          then some (s.drive.blockedClearSince.getD t.now) else none } ∧
      OnlyIn [.time, .drive] s t)) ∧
  (s.drive.controlTimer = some d → s.drive.powerCount = 0 →
    Answers (exec .controlExpiry s) fun t =>
      (let p := Config.freePower s.free;
      (t.drive.bufDuty : Int) = min ((s.drive.period - s.cfg.minOff : Nat) : Int)
        (max ((s.drive.period / 10 : Nat) : Int)
          (if 5 * s.drive.target < 4 * p then ((s.drive.bufDuty * s.drive.target / p : Nat) : Int)
           else if s.cfg.overspeed * 1000 < s.drive.speed then (s.drive.bufDuty : Int) - 8
           else (s.drive.bufDuty : Int) + max (-8) (min 8 ((((s.drive.target : Int) - p) * s.cfg.gain).tdiv 16)))) ∧
      t.time = (runTo d s).time ∧
      t.drive = { s.drive with
        bufDuty := t.drive.bufDuty, powerSum := 0, powerCount := 0, controlTimer := some (d + 8000)
        runFraction := min 1000 (s.drive.runFraction + 1)
        blockedSetSince :=
          if s.cfg.blockedSpeed * 1000 ≤ s.drive.speed then some (s.drive.blockedSetSince.getD t.now) else none
        blockedClearSince :=
          if s.drive.blocked = true ∧ s.drive.speed < s.cfg.blockedSpeed * 1000 - 10000
          then some (s.drive.blockedClearSince.getD t.now) else none } ∧ t.free = s.free + 1 ∧
      OnlyIn [.time, .drive, .free] s t))

/-- BLOCKED is set after 1 s with its flag and cleared after 1 s without one; a RUN second counts in its mode
and in total (R57, R65). The clauses in which a command changes nothing are the model's choice
(notes/assumptions/1.md); the RUN fraction standing at 1,000 is inferred (notes/assumptions/5.md). -/
def Obligations.BlockedMarkAndRunSeconds : Prop :=
  ∀ (s : State) (u : Nat),
  (s.drive.blocked = false → s.drive.blockedSetSince = some u →
    Answers (exec .blockedSet s) fun t =>
      t.time = (runTo (u + 8000000) s).time ∧
      t.drive = { s.drive with blocked := true, blockedClearSince := none } ∧ Raised .blocked t ∧
      t.report.shipPending = s.report.shipPending ∧ OnlyIn [.time, .drive, .line, .report] s t) ∧
  (s.drive.blocked = true → s.drive.blockedClearSince = some u →
    Answers (exec .blockedClear s) fun t =>
      t.time = (runTo (u + 8000000) s).time ∧
      t.drive = { s.drive with blocked := false, blockedClearSince := none } ∧
      LineTold s t ∧ OnlyIn [.time, .drive, .line, .report] s t) ∧
  (1000 ≤ s.drive.runFraction →
    Answers (exec .runSecond s) fun t =>
      t.drive = { s.drive with
        runFraction := 0, secTotal := min 4294967295 (s.drive.secTotal + 1)
        secEco := if s.allow.mode = .eco then min 4294967295 (s.drive.secEco + 1) else s.drive.secEco
        secMid := if s.allow.mode = .mid then min 4294967295 (s.drive.secMid + 1) else s.drive.secMid
        secBoost := if s.allow.mode = .boost then min 4294967295 (s.drive.secBoost + 1) else s.drive.secBoost
        secAuto := if s.allow.mode = .auto then min 4294967295 (s.drive.secAuto + 1) else s.drive.secAuto } ∧
      OnlyIn [.drive] s t) ∧
  ((s.drive.blocked = true ∨ s.drive.blockedSetSince = none) →
    Answers (exec .blockedSet s) fun t =>
      t = s) ∧
  ((s.drive.blocked = false ∨ s.drive.blockedClearSince = none) →
    Answers (exec .blockedClear s) fun t =>
      t = s) ∧
  (s.drive.runFraction < 1000 →
    Answers (exec .runSecond s) fun t =>
      t = s)

/-- COAST_TIMER_EXPIRY restarts the same run with the restart mark, else ends it in STOPPED, where a standing
target starts a new run (R49, R50, R59, R64). -/
def Obligations.CoastEnds : Prop :=
  ∀ (s : State) (d : Nat),
  (s.drive.coastTimer = some d → s.drive.restart = true → s.drive.target ≠ 0 →
    Answers (exec .coastTimerExpiry s) fun t =>
      t.time = (runTo d s).time ∧ t.drive.state = .align ∧ t.drive.step = 1 ∧
        t.drive.alignTimer = some (t.now + 1200000) ∧ t.drive.coastTimer = none ∧
      t.drive.bufDuty = min s.cfg.dutyAlign (s.drive.period - s.cfg.minOff) ∧ t.drive.gatesOn = false ∧
      t.drive.armed = false ∧ t.drive.speed = 0 ∧ t.charge.switch = false ∧
      CountersKept s t ∧ t.drive.rampFailures = s.drive.rampFailures ∧ t.drive.desyncs = s.drive.desyncs ∧
        OnlyIn [.time, .pack, .allow, .drive, .dirt, .charge, .line, .report, .power] s t) ∧
  (s.drive.coastTimer = some d → s.drive.restart = false → s.drive.target ≠ 0 →
    Answers (exec .coastTimerExpiry s) fun t =>
      t.time = (runTo d s).time ∧ t.drive.state = .align ∧ t.drive.step = 1 ∧
        t.drive.alignTimer = some (t.now + 1200000) ∧ t.drive.coastTimer = none ∧
      t.drive.bufDuty = min s.cfg.dutyAlign (s.drive.period - s.cfg.minOff) ∧ t.drive.gatesOn = false ∧
      t.drive.armed = false ∧ t.drive.speed = 0 ∧ t.charge.switch = false ∧
      t.drive.runNumber = (s.drive.runNumber + 1) % 65536 ∧ t.drive.runs = min 65535 (s.drive.runs + 1) ∧
      t.drive.rampFailures = 0 ∧ t.drive.desyncs = 0 ∧ t.drive.restart = false ∧
      t.drive.secTotal = s.drive.secTotal ∧
        OnlyIn [.time, .pack, .allow, .drive, .dirt, .charge, .line, .report, .power] s t) ∧
  (s.drive.coastTimer = some d → s.drive.target = 0 →
    Answers (exec .coastTimerExpiry s) fun t =>
      t.time = (runTo d s).time ∧ t.drive.state = .stopped ∧ t.drive.coastTimer = none ∧
      t.drive.appDuty = 0 ∧ t.drive.bufDuty = 0 ∧ t.drive.gatesOn = false ∧ t.drive.uvSince = none ∧
        CountersKept s t ∧ OnlyIn [.time, .pack, .allow, .drive, .dirt, .charge, .line, .report, .power] s t)

/-- ENVELOPE_SAMPLE begins, follows and ends an impact, discards a glitch, and queues the record or raises the
tally (R68, R69, R70, R71, R72, R73, R74). The taking of a sample at its word is the model's choice
(notes/assumptions/3.md, notes/assumptions/37.md). -/
def Obligations.ImpactSamples : Prop :=
  ∀ (s : State) (d : Nat) (v : Byte),
  (s.dirt.sampleAt = some d → s.dirt.det = .ready → s.cfg.thLow ≤ v.toNat →
    Answers (exec (.envelopeSample v) s) fun t =>
      t.time = (runTo d s).time ∧ OnlyIn [.time, .dirt] s t ∧
      t.dirt = { s.dirt with
        det := .above, duration := 1, ring := 0, below := 0, sampleAt := some (d + 80)
        peak := if s.cfg.thHigh ≤ v.toNat then 3 else if s.cfg.thMid ≤ v.toNat then 2 else 1
        midSeen := s.cfg.thMid ≤ v.toNat, midAbove := s.cfg.thMid ≤ v.toNat }) ∧
  (s.dirt.sampleAt = some d → (s.dirt.det = .ready ∧ v.toNat < s.cfg.thLow ∨ s.dirt.det = .off) →
    Answers (exec (.envelopeSample v) s) fun t =>
      t.time = (runTo d s).time ∧ OnlyIn [.time, .dirt] s t ∧
      t.dirt = { s.dirt with sampleAt := some (d + 80) }) ∧
  (s.dirt.sampleAt = some d → (s.dirt.det = .above ∨ s.dirt.det = .trailing) → s.cfg.thLow ≤ v.toNat →
    Answers (exec (.envelopeSample v) s) fun t =>
      t.time = (runTo d s).time ∧ OnlyIn [.time, .dirt] s t ∧
      t.dirt = { s.dirt with
        det := .above, duration := min 255 (s.dirt.duration + 1),
        below := if s.dirt.det = .trailing then 0 else s.dirt.below
        peak := max s.dirt.peak (if s.cfg.thHigh ≤ v.toNat then 3 else if s.cfg.thMid ≤ v.toNat then 2 else 1)
        ring := if s.cfg.thMid ≤ v.toNat ∧ s.dirt.midAbove = false ∧ s.dirt.midSeen = true then min 15 (s.dirt.ring + 1)
          else s.dirt.ring
        midSeen := s.dirt.midSeen || (decide (s.cfg.thMid ≤ v.toNat) && !s.dirt.midAbove)
        midAbove := s.cfg.thMid ≤ v.toNat, sampleAt := some (d + 80) }) ∧
  (s.dirt.sampleAt = some d → s.dirt.det = .above → v.toNat < s.cfg.thLow →
    Answers (exec (.envelopeSample v) s) fun t =>
      t.time = (runTo d s).time ∧ OnlyIn [.time, .dirt] s t ∧
      (let tr := { s.dirt with
        peak := max s.dirt.peak (if s.cfg.thHigh ≤ v.toNat then 3 else if s.cfg.thMid ≤ v.toNat then 2 else 1)
        ring := if s.cfg.thMid ≤ v.toNat ∧ s.dirt.midAbove = false ∧ s.dirt.midSeen = true then min 15 (s.dirt.ring + 1)
          else s.dirt.ring
        midSeen := s.dirt.midSeen || (decide (s.cfg.thMid ≤ v.toNat) && !s.dirt.midAbove)
        midAbove := s.cfg.thMid ≤ v.toNat, sampleAt := some (d + 80) }
      tr = { s.dirt.trackSample s.cfg v.toNat with sampleAt := some (d + 80) } ∧
      t.dirt = { tr with det := .trailing, below := 1 })) ∧
  (s.dirt.sampleAt = some d → s.dirt.det = .trailing → v.toNat < s.cfg.thLow → s.dirt.below < 3 →
    Answers (exec (.envelopeSample v) s) fun t =>
      t.time = (runTo d s).time ∧ OnlyIn [.time, .dirt] s t ∧
      (let tr := { s.dirt with
        peak := max s.dirt.peak (if s.cfg.thHigh ≤ v.toNat then 3 else if s.cfg.thMid ≤ v.toNat then 2 else 1)
        ring := if s.cfg.thMid ≤ v.toNat ∧ s.dirt.midAbove = false ∧ s.dirt.midSeen = true then min 15 (s.dirt.ring + 1)
          else s.dirt.ring
        midSeen := s.dirt.midSeen || (decide (s.cfg.thMid ≤ v.toNat) && !s.dirt.midAbove)
        midAbove := s.cfg.thMid ≤ v.toNat, sampleAt := some (d + 80) }
      tr = { s.dirt.trackSample s.cfg v.toNat with sampleAt := some (d + 80) } ∧
      t.dirt = { tr with below := s.dirt.below + 1 })) ∧
  (s.dirt.sampleAt = some d → s.dirt.det = .trailing → v.toNat < s.cfg.thLow → 3 ≤ s.dirt.below →
    s.dirt.duration < 3 →
    Answers (exec (.envelopeSample v) s) fun t =>
      t.time = (runTo d s).time ∧ OnlyIn [.time, .dirt] s t ∧
      (let tr := { s.dirt with
        peak := max s.dirt.peak (if s.cfg.thHigh ≤ v.toNat then 3 else if s.cfg.thMid ≤ v.toNat then 2 else 1)
        ring := if s.cfg.thMid ≤ v.toNat ∧ s.dirt.midAbove = false ∧ s.dirt.midSeen = true then min 15 (s.dirt.ring + 1)
          else s.dirt.ring
        midSeen := s.dirt.midSeen || (decide (s.cfg.thMid ≤ v.toNat) && !s.dirt.midAbove)
        midAbove := s.cfg.thMid ≤ v.toNat, sampleAt := some (d + 80) }
      tr = { s.dirt.trackSample s.cfg v.toNat with sampleAt := some (d + 80) } ∧
      t.dirt = { tr with det := .dead, dead := 2, below := 0 })) ∧
  (s.dirt.sampleAt = some d → s.dirt.det = .trailing → v.toNat < s.cfg.thLow → 3 ≤ s.dirt.below →
    3 ≤ s.dirt.duration →
    Answers (exec (.envelopeSample v) s) fun t =>
      t.time = (runTo d s).time ∧ OnlyIn [.time, .dirt] s t ∧
      (let tr := { s.dirt with
        peak := max s.dirt.peak (if s.cfg.thHigh ≤ v.toNat then 3 else if s.cfg.thMid ≤ v.toNat then 2 else 1)
        ring := if s.cfg.thMid ≤ v.toNat ∧ s.dirt.midAbove = false ∧ s.dirt.midSeen = true then min 15 (s.dirt.ring + 1)
          else s.dirt.ring
        midSeen := s.dirt.midSeen || (decide (s.cfg.thMid ≤ v.toNat) && !s.dirt.midAbove)
        midAbove := s.cfg.thMid ≤ v.toNat, sampleAt := some (d + 80) }
      tr = { s.dirt.trackSample s.cfg v.toNat with sampleAt := some (d + 80) } ∧
      t.dirt = { tr with
        det := .dead, dead := 2, below := 0
        queue := if s.dirt.queue.length < 32 then s.dirt.queue ++ [⟨tr.peak, s.dirt.duration, tr.ring, s.dirt.window⟩]
          else s.dirt.queue
        tally := if s.dirt.queue.length < 32 then s.dirt.tally else min 4095 (s.dirt.tally + 1) })) ∧
  (s.dirt.sampleAt = some d → s.dirt.det = .dead →
    Answers (exec (.envelopeSample v) s) fun t =>
      t.time = (runTo d s).time ∧ OnlyIn [.time, .dirt] s t ∧
      t.dirt = { s.dirt with
        det := if s.dirt.dead ≤ 1 then .ready else .dead, dead := s.dirt.dead - 1, sampleAt := some (d + 80) })

/-- SCORING_COMPLETION takes the first matching entry of the class table, adds its weight, and thins the
sample copies (R75, R76, R77, R78). The clause in which an empty queue changes nothing is the model's choice
(notes/assumptions/1.md). -/
def Obligations.ScoringTakesFirstMatch : Prop :=
  ∀ (s : State) (r : Impact) (rest : List Impact) (es : List ClassEntry) (k : Nat),
  (s.dirt.queue = r :: rest →
    Answers (exec .scoringCompletion s) fun t =>
      (let cw := classify r 0 s.cfg.classes;
      let smp : Sample := ⟨cw.1, cw.2, r.window, s.drive.runNumber % 256⟩;
      t.dirt = { s.dirt with
        queue := rest, windowSum := min 65535 (s.dirt.windowSum + cw.2)
        sampleCount := if s.cfg.prescale = 0 ∨ s.cfg.prescale ≤ s.dirt.sampleCount + 1 then 0
          else s.dirt.sampleCount + 1
        samples := if s.cfg.prescale ≠ 0 ∧ s.cfg.prescale ≤ s.dirt.sampleCount + 1 ∧ s.dirt.samples.length < 16
          then s.dirt.samples ++ [smp] else s.dirt.samples } ∧ OnlyIn [.dirt] s t)) ∧
  (s.dirt.queue = [] →
    Answers (exec .scoringCompletion s) fun t =>
      t = s) ∧
  ((classify r 0 es).1 = some k →
    k < es.length ∧ (∀ e ∈ es.take k, entryAccepts e r = false) ∧
    (es[k]?.map fun e => entryAccepts e r) = some true ∧ (es[k]?.map (·.weight)) = some (classify r 0 es).2) ∧
  ((classify r 0 es).1 = none →
    (classify r 0 es).2 = 0 ∧ ∀ e ∈ es, entryAccepts e r = false)

/-- WINDOW_EXPIRY forms the score of weights, tally and head part, moves the dirt level, and opens the next
window (R80, R81, R82, R83, R84, R162). -/
def Obligations.WindowExpiryScores : Prop :=
  ∀ (s : State) (d st : Nat) (p : HeadDirtPart),
  (s.dirt.windowTimer = some d → s.table.usableHeadDirt = none →
    Answers (exec .windowExpiry s) fun t =>
      (let S := min 65535 (s.dirt.windowSum + s.dirt.tally * s.cfg.wOver + 0);
      let raw := s.cfg.dirt.countP (· ≤ S);
      t.time = (runTo d s).time ∧
      t.dirt = { s.dirt with
        tally := 0, windowSum := 0, window := min 65535 (s.dirt.window + 1), windowTimer := some (d + 800000)
        level := if s.dirt.level ≤ raw then raw else if s.dirt.fall + 1 < 5 then s.dirt.level else s.dirt.level - 1
        fall := if s.dirt.level ≤ raw then 0 else if s.dirt.fall + 1 < 5 then s.dirt.fall + 1 else 0 } ∧
      LineTold s t ∧ OnlyIn [.time, .dirt, .line, .report] s t)) ∧
  (s.dirt.windowTimer = some d → s.table.usableHeadDirt = some (st, p) →
    Answers (exec .windowExpiry s) fun t =>
      (let S := min 65535 (s.dirt.windowSum + s.dirt.tally * s.cfg.wOver + (if p.interval = 0 then 0
        else min 255 (p.count * s.cfg.wHead * 100 / p.interval)));
      let raw := s.cfg.dirt.countP (· ≤ S);
      t.time = (runTo d s).time ∧
      t.dirt = { s.dirt with
        tally := 0, windowSum := 0, window := min 65535 (s.dirt.window + 1), windowTimer := some (d + 800000)
        level := if s.dirt.level ≤ raw then raw else if s.dirt.fall + 1 < 5 then s.dirt.level else s.dirt.level - 1
        fall := if s.dirt.level ≤ raw then 0 else if s.dirt.fall + 1 < 5 then s.dirt.fall + 1 else 0 } ∧
      t.table = s.table.update st (fun r => { r with headDirt := r.headDirt.map fun q => { q with used := true } }) ∧
      t.table.usableHeadDirt = none ∧ LineTold s t ∧ OnlyIn [.time, .dirt, .table, .line, .report] s t))

/-- A rise above 5,000 mV settles or wakes; a fall ends the settling at once and leaves DOCKED only below
3,000 mV (R90, R91, R187). -/
def Obligations.DockInputEdges : Prop :=
  ∀ (s : State) (mv : Nat),
  (5000 < mv → s.running = true → s.attach.dock = .undocked →
    Answers (exec (.dockInputRise mv) s) fun t =>
      t.pins = { s.pins with dockMv := mv } ∧
      t.attach = { s.attach with dock := .settling, settleTimer := some (s.now + 400000) } ∧
      LineTold s t ∧ OnlyIn [.pins, .attach, .line, .report] s t) ∧
  (5000 < mv → (s.running = true ∧ s.attach.dock ≠ .undocked ∨ s.power.state = .starting) →
    Answers (exec (.dockInputRise mv) s) fun t =>
      t.pins = { s.pins with dockMv := mv } ∧ OnlyIn [.pins, .line, .report] s t ∧ LineTold s t) ∧
  (5000 < mv → (s.power.state = .sleep ∨ s.power.state = .ship) →
    Answers (exec (.dockInputRise mv) s) fun t =>
      t.pins = { s.pins with dockMv := mv } ∧ Woken t ∧ t.attach.dock = .settling ∧ t.time = s.time ∧
        t.loader = s.loader) ∧
  (mv ≤ 5000 → s.running = true → s.attach.dock = .settling →
    Answers (exec (.dockInputFall mv) s) fun t =>
      t.pins = { s.pins with dockMv := mv } ∧
      t.attach = { s.attach with dock := .undocked, settleTimer := none } ∧
      LineTold s t ∧ OnlyIn [.pins, .attach, .line, .report] s t) ∧
  (mv < 3000 → s.running = true → s.attach.dock = .docked →
    Answers (exec (.dockInputFall mv) s) fun t =>
      t.pins = { s.pins with dockMv := mv } ∧ t.attach.dock = .undocked ∧ Raised .undocked t ∧
      t.charge = { s.charge with
        phase := .undocked, causes := .none, window := none, ask := .disabled, awaiting := false, echoTimer := none,
        resendTimer := none, regTimer := none, termination := .zero, precharge := .zero, total := .zero,
        supplyLost := false, switch := false } ∧
      (s.charge.phase.charging = true → newest t.line.ask.slot = some [0, 0, 0, 0, 0]) ∧
      (s.charge.phase.charging = false → newest t.line.ask.slot = newest s.line.ask.slot) ∧
      t.hold.reasons.docked = false ∧ OwnReasonsKept s.hold.reasons t.hold.reasons ∧
      t.hold.history = s.hold.history ∧ CountersKept s t ∧ t.pack.cells.all (!·.bleed) = true ∧
      OnlyIn (.pins :: consequent) s t) ∧
  (3000 ≤ mv → mv ≤ 5000 → s.running = true → s.attach.dock = .docked →
    Answers (exec (.dockInputFall mv) s) fun t =>
      t.pins = { s.pins with dockMv := mv } ∧ OnlyIn [.pins, .line, .report] s t ∧ LineTold s t) ∧
  (mv ≤ 5000 → (s.running = false ∨ s.attach.dock = .undocked) →
    Answers (exec (.dockInputFall mv) s) fun t =>
      t.pins = { s.pins with dockMv := mv } ∧ OnlyIn [.pins, .line, .report] s t ∧ LineTold s t)

/-- SETTLE_TIMER_EXPIRY makes the unit DOCKED: flag, DOCKED reason, suction stopped, a window selected afresh,
the WAITING decision (R90, R92, R94, R100, R170). -/
def Obligations.SettleTimerDocks : Prop :=
  ∀ (s : State) (d : Nat),
  (s.attach.settleTimer = some d →
    Answers (exec .settleTimerExpiry s) fun t =>
      (let live := ((t.charge.window.bind (s.cfg.windows[·]?)).filter (·.iChg ≠ 0)).isSome;
      t.time = (runTo d s).time ∧ t.attach.dock = .docked ∧ t.attach.settleTimer = none ∧ Raised .docked t ∧
      t.hold.reasons.docked = true ∧ t.hold.stopSuction = true ∧ (s.hold.stopSuction = false → t.allow.target = 0) ∧
      t.charge.window = s.cfg.windows.findIdx?
        (fun x => x.enabled && decide (x.tLo ≤ s.pack.tPack) && decide (s.pack.tPack ≤ x.tHi)) ∧
      (s.table.dockReady = false → t.charge.phase = .waiting) ∧
      (s.table.dockReady = true → (t.hold.stopCharge = true ∨ live = false ∨ t.dockWeak = true) →
        t.charge.phase = .paused) ∧
      (s.table.dockReady = true → t.hold.stopCharge = false → live = true → t.dockWeak = false →
        s.charge.supplyLost = false →
        t.charge.phase = if s.lowestCell < 3000 then .precharge else .bulk) ∧
      CountersKept s t ∧ t.hold.history = s.hold.history ∧ OwnReasonsKept s.hold.reasons t.hold.reasons ∧
      OnlyIn (.time :: consequent) s t))

/-- The resend timer puts the ask again, the echo timer pauses an unanswered charge, the regulation steps
v_ask by 20 mV (R96, R98, R103, R106). The taking of an expiry at its word, from which the timer restarts, is
the model's choice (notes/assumptions/3.md). -/
def Obligations.AskTimers : Prop :=
  ∀ (s : State) (d : Nat) (x : ChargeWindow),
  (s.charge.resendTimer = some d →
    Answers (exec .resendTimerExpiry s) fun t =>
      t.time = (runTo d s).time ∧ newest t.line.ask.slot = some s.charge.ask.payload ∧
      t.charge = { s.charge with resendTimer := some (t.now + 4000000) } ∧ t.line.rx = s.line.rx ∧
      OnlyIn [.time, .charge, .line, .report] s t) ∧
  (s.charge.echoTimer = some d → s.charge.phase.charging = true → s.charge.awaiting = true →
    Answers (exec .echoTimerExpiry s) fun t =>
      t.time = (runTo d s).time ∧ t.charge.phase = .paused ∧ t.charge.causes.unresponsive = true ∧
      t.charge.ask = .disabled ∧ t.charge.echoTimer = none ∧ t.charge.switch = false ∧ t.charge.total.since = none ∧
      CountersKept s t ∧ t.hold = s.hold ∧
        OnlyIn [.time, .pack, .allow, .drive, .dirt, .charge, .line, .report, .power] s t) ∧
  (s.charge.regTimer = some d → s.charge.phase = .topoff → s.window = some x → s.charge.awaiting = false →
    Answers (exec .regulationExpiry s) fun t =>
      (let v := s.charge.ask.v;
      t.time = (runTo d s).time ∧ t.charge.regTimer = some (t.now + 4000000) ∧ t.charge.phase = .topoff ∧
      t.charge.ask = { s.charge.ask with v := (if x.vCell + 10 < s.highestCell
        then max (v - 20) (s.cfg.cells * (x.vCell - 100) + s.cfg.vContact)
        else if s.highestCell + 30 < x.vCell ∧ s.chargeCurrent + 100 < s.charge.ask.i
          then min (v + 20) (s.cfg.cells * x.vCell + s.cfg.vContact) else v) } ∧
      (t.charge.ask ≠ s.charge.ask → t.charge.awaiting = true ∧ t.charge.switch = false ∧
        newest t.line.ask.slot = some t.charge.ask.payload) ∧
      CountersKept s t ∧ t.hold = s.hold ∧
        OnlyIn [.time, .pack, .allow, .drive, .dirt, .charge, .line, .report] s t)) ∧
  (s.charge.regTimer = some d → s.charge.awaiting = true →
    Answers (exec .regulationExpiry s) fun t =>
      t.time = (runTo d s).time ∧ t.charge.regTimer = some (t.now + 4000000) ∧ t.charge.ask = s.charge.ask ∧
      t.charge.awaiting = true ∧ t.charge.phase = s.charge.phase ∧ t.charge.switch = false ∧ t.hold = s.hold ∧
      OnlyIn [.time, .pack, .charge, .line, .report] s t)

/-- At an accepted scan the charge controller reviews its window, guards the supply, and moves its phase by
the lowest and highest cell (R94, R95, R100, R101, R102, R104, R105, R106, R107, R108, R110). The order of the
fault, the supply guard, the window review and the test of the phase, and that no test follows a change of
phase, are the model's choice (notes/assumptions/43.md), as is the next dock record taken as the dock record
at once (notes/assumptions/42.md). -/
def Obligations.ChargeControllerAtScan : Prop :=
  ∀ (s : State) (r : ScanReading) (ws : List ChargeWindow) (k : Option Nat) (temp : Int) (x : ChargeWindow),
  (let now := k.bind (ws[·]?);
    reviewWindow ws k temp =
      if now.any (fun y => decide (y.tLo - 2 ≤ temp) && decide (temp ≤ y.tHi + 2)) = true then k
      else ws.findIdx? fun y => y.enabled && decide (y.tLo ≤ temp) && decide (temp ≤ y.tHi)) ∧
  (s.pack.scan ≠ .none → (9800 ≤ r.reference ∧ r.reference ≤ 10200) →
    (s.hold.stopCharge = false ∧ (scanPack r s).hold.stopCharge = false) →
      (reviewWindow s.cfg.windows s.charge.window (scanPack r s).pack.tPack).bind (s.cfg.windows[·]?) = some x →
        x.iChg ≠ 0 → s.table.dockReady = true → s.fullV x.vCell ≤ s.table.dockMaxV → s.charge.supplyLost = false →
          s.charge.causes.unresponsive = false →
            (¬ (s.pack.scanSwitchClosed = true ∧ (scanPack r s).pack.dockReading + 100 ≤ (scanPack r s).pack.vPack)) →
    Answers (exec (.scanCompletion r) s) fun t =>
      (let begun : ChargePhase := if t.lowestCell < 3000 then .precharge else .bulk;
      let phase : ChargePhase := match s.charge.phase with
        | .precharge => if 3100 ≤ t.lowestCell then .bulk else .precharge
        | .bulk => if x.vCell ≤ t.highestCell + 20 then .topoff else .bulk
        | .done => if t.lowestCell + 150 < x.vCell then begun else .done
        | .waiting => begun
        | .paused => begun
        | .topoff => .topoff
        | .undocked => .undocked
        | .fault => .fault
      t.charge.phase = phase ∧
        (s.charge.phase ≠ .undocked →
          t.charge.window = reviewWindow s.cfg.windows s.charge.window (scanPack r s).pack.tPack) ∧
      t.charge.ask.enable = phase.charging ∧
      (phase.charging = true → t.charge.ask.v =
        if s.charge.phase = .topoff ∧ t.charge.window = s.charge.window then s.charge.ask.v else s.fullV x.vCell) ∧
      (s.charge.phase = .topoff → s.charge.switch = true → s.drive.state.quiet = true → t.charge.switch = true →
        t.charge.termination = if t.chargeCurrent < s.cfg.iTerm ∧ t.highestCell ≤ t.lowestCell + 30
          then s.charge.termination.run s.now else .zero) ∧ t.hold.history = s.hold.history)) ∧
  (s.pack.scan ≠ .none → (9800 ≤ r.reference ∧ r.reference ≤ 10200) →
    (s.hold.stopCharge = false ∧ (scanPack r s).hold.stopCharge = false) → s.charge.phase.charging = true →
      (((reviewWindow s.cfg.windows s.charge.window (scanPack r s).pack.tPack).bind (s.cfg.windows[·]?)).all (·.iChg = 0) = true ∨ s.table.dockReady = false ∨ s.pack.scanSwitchClosed = true ∧ (scanPack r s).pack.dockReading + 100 ≤ (scanPack r s).pack.vPack) →
    Answers (exec (.scanCompletion r) s) fun t =>
      t.charge.phase = .paused ∧ t.charge.ask = .disabled ∧ t.charge.switch = false ∧ t.charge.regTimer = none ∧
      t.charge.echoTimer = none ∧ t.charge.resendTimer = none ∧ t.charge.termination = .zero ∧
      t.charge.supplyLost = (s.charge.supplyLost || decide (s.pack.scanSwitchClosed = true ∧
        (scanPack r s).pack.dockReading + 100 ≤ (scanPack r s).pack.vPack)) ∧
      t.charge.causes.temp = ((reviewWindow s.cfg.windows s.charge.window (scanPack r s).pack.tPack).bind (s.cfg.windows[·]?)).all (·.iChg = 0) ∧
      t.charge.causes.notReady = (!s.table.dockReady || t.charge.supplyLost) ∧ t.hold.history = s.hold.history) ∧
  (s.pack.scan ≠ .none → (9800 ≤ r.reference ∧ r.reference ≤ 10200) →
    becameHigh s.activeCells (scanPack r s).activeCells = true →
      (s.charge.phase.charging = true ∨ s.charge.phase = .paused) →
    Answers (exec (.scanCompletion r) s) fun t =>
      t.charge.phase = .fault ∧ Raised .chargeFault t ∧ t.charge.ask = .disabled ∧ t.charge.switch = false ∧
      (t.hold.history.head?.map (·.kind)) = some .cellHigh ∧ t.hold.history.tail = s.hold.history.take 7 ∧
      t.hold.reasons.cellHigh = true ∧ t.hold.stopCharge = true) ∧
  (s.pack.scan ≠ .none → (9800 ≤ r.reference ∧ r.reference ≤ 10200) →
    (s.charge.phase = .undocked ∨ s.charge.phase = .fault) →
    Answers (exec (.scanCompletion r) s) fun t =>
      t.charge.phase = s.charge.phase ∧ t.charge.ask.enable = false ∧ t.charge.switch = false ∧
      (s.charge.phase = .fault →
        t.charge.window = reviewWindow s.cfg.windows s.charge.window (scanPack r s).pack.tPack)) ∧
  (s.pack.scan ≠ .none → (r.reference < 9800 ∨ 10200 < r.reference) →
    (scanPack r s).hold.stopCharge = s.hold.stopCharge →
    Answers (exec (.scanCompletion r) s) fun t =>
      t.charge.phase = s.charge.phase ∧ t.charge.window = s.charge.window ∧ t.charge.causes = s.charge.causes ∧
      t.charge.supplyLost = s.charge.supplyLost)

/-- 60 s of termination ends in DONE with a full charge count; 30 min of PRECHARGE or 240 min in all end in
charge FAULT (R17, R101, R104, R109, R110, R112). -/
def Obligations.ChargeEndsInDoneOrFault : Prop :=
  ∀ (s : State) (a d : Nat),
  (s.charge.termination = ⟨a, some d⟩ → 0 < s.cfg.capacity →
    Answers (exec .terminationTimerExpiry s) fun t =>
      t.time = (runTo (d + (480000000 - a)) s).time ∧ t.charge.phase = .done ∧ t.pack.q = s.cfg.capacity * 3600 ∧
      t.pack.soc = 100 ∧ t.charge.completions = min 65535 (s.charge.completions + 1) ∧ t.charge.total = .zero ∧
      t.charge.precharge = .zero ∧ t.charge.termination = .zero ∧ Raised .chargeDone t ∧
      t.charge.ask = .disabled ∧ t.charge.switch = false ∧ t.charge.regTimer = none ∧ t.charge.echoTimer = none ∧
      t.charge.resendTimer = none ∧ t.charge.mah = s.charge.mah ∧ t.drive = s.drive ∧ t.allow = s.allow ∧
      OwnReasonsKept s.hold.reasons t.hold.reasons ∧ OnlyIn [.time, .pack, .charge, .line, .report, .power] s t) ∧
  (s.charge.precharge.endsAt (sec 1800) = some d →
    Answers (exec .prechargeTimerExpiry s) fun t =>
      t.time = (runTo d s).time ∧ t.charge.phase = .fault ∧ Logged .prechargeTimeout s t ∧ Raised .chargeFault t ∧
      t.charge.ask = .disabled ∧ t.charge.switch = false ∧ t.charge.regTimer = none ∧ t.charge.echoTimer = none ∧
      t.charge.resendTimer = none ∧ t.charge.mah = s.charge.mah ∧ t.drive = s.drive ∧ t.allow = s.allow ∧
      OwnReasonsKept s.hold.reasons t.hold.reasons ∧ t.charge.completions = s.charge.completions ∧
        t.pack.q = s.pack.q ∧ t.pack.cells.all (!·.bleed) = true ∧
      OnlyIn [.time, .pack, .charge, .line, .report, .hold, .power] s t) ∧
  (s.charge.total.endsAt (sec 14400) = some d →
    Answers (exec .totalTimerExpiry s) fun t =>
      t.time = (runTo d s).time ∧ t.charge.phase = .fault ∧ Logged .chargeTimeout s t ∧ Raised .chargeFault t ∧
      t.charge.ask = .disabled ∧ t.charge.switch = false ∧ t.charge.regTimer = none ∧ t.charge.echoTimer = none ∧
      t.charge.resendTimer = none ∧ t.charge.mah = s.charge.mah ∧ t.drive = s.drive ∧ t.allow = s.allow ∧
      OwnReasonsKept s.hold.reasons t.hold.reasons ∧ t.charge.completions = s.charge.completions ∧
        t.pack.q = s.pack.q ∧ t.pack.cells.all (!·.bleed) = true ∧
      OnlyIn [.time, .pack, .charge, .line, .report, .hold, .power] s t)

/-- A complete notice that passes its tests joins the queue of 4 or is lost with RX_OVERRUN; one of the own
number is evidence of conflict (R118, R119, R120, R126). What the command does without a reception, or with
characters of another shape, is the model's choice (notes/assumptions/1.md, notes/assumptions/16.md), and so
is the tick from which the line is known to be recessive (notes/assumptions/15.md). -/
def Obligations.NoticeReceivedQueuesOrRefuses : Prop :=
  ∀ (s : State) (cs : List Byte) (n : Notice),
  (s.receiving = true → noticeShape cs = true → parseNotice cs = some n → crc8 cs.dropLast = cs.getLastD 0 →
    1 ≤ n.cls → 1 ≤ n.station → n.station ≤ 14 → n.station ≠ s.cfg.station → s.line.rx.length < 4 →
    Answers (exec (.noticeReceived cs) s) fun t =>
      t.line.rx = s.line.rx ++ [n] ∧ t.line.reception = none ∧ t.line.recessiveFrom = some s.now ∧
      t.report = s.report ∧ OnlyIn [.line] s t) ∧
  (s.receiving = true → noticeShape cs = true → parseNotice cs = some n → crc8 cs.dropLast = cs.getLastD 0 →
    1 ≤ n.cls → 1 ≤ n.station → n.station ≤ 14 → n.station ≠ s.cfg.station → 4 ≤ s.line.rx.length →
    Answers (exec (.noticeReceived cs) s) fun t =>
      t.line.rx = s.line.rx ∧ t.line.reception = none ∧ Raised .rxOverrun t ∧ OnlyIn [.line, .report] s t) ∧
  (s.receiving = true → noticeShape cs = true → parseNotice cs = some n → crc8 cs.dropLast = cs.getLastD 0 →
    1 ≤ n.cls → 1 ≤ n.station → n.station ≤ 14 → n.station = s.cfg.station →
    Answers (exec (.noticeReceived cs) s) fun t =>
      t.line.rx = s.line.rx ∧ t.line.reception = none ∧ t.line.conflict = some (s.now + 40000000) ∧
        Raised .stationConflict t ∧
      t.hold.reasons.stationConflict = true ∧ t.hold.stopSuction = true ∧ Consequences s t ∧
      OwnReasonsKept s.hold.reasons t.hold.reasons ∧ OnlyIn consequent s t) ∧
  (s.receiving = true → noticeShape cs = true → parseNotice cs = some n →
    (crc8 cs.dropLast ≠ cs.getLastD 0 ∨ n.cls = 0 ∨ n.station = 0 ∨ 14 < n.station) →
    Answers (exec (.noticeReceived cs) s) fun t =>
      t.line.rx = s.line.rx ∧ t.line.reception = none ∧ t.report = s.report ∧ OnlyIn [.line] s t) ∧
  ((s.receiving = false ∨ noticeShape cs = false) →
    Answers (exec (.noticeReceived cs) s) fun t =>
      t = s)

/-- HOLD, REQUEST, DRAW, HEAD_DIRT and the other classes leave the queue, enter the table, and act through its
derived values only (R120, R134, R135, R137, R138, R143, R156, R161, R166). Which changes of the dock record
the charge controller is told of is the model's choice (notes/assumptions/41.md, notes/assumptions/42.md); an
eviction as an event of its own, handed on before the entry, is inferred (notes/assumptions/45.md). -/
def Obligations.HandledNoticesEnterTheTable : Prop :=
  ∀ (s : State) (c : Instr) (n : Notice) (rest : List Notice) (tb : Table),
  (Handles s n rest tb n.cls →
    ((c, n.cls) ∈ [(Instr.hold, 1), (Instr.draw, 5), (Instr.headDirt, 6)] ∨ c = .otherClassNotice ∧
      n.cls ∈ [4, 7, 9, 10, 11, 12, 13, 14, 15]) →
    Answers (exec c s) fun t =>
      Entered s t tb rest ∧ (s.hold.reasons.driveFault = false →
        Consequences s t ∧ OwnReasonsKept s.hold.reasons t.hold.reasons) ∧
      (t.report.flags = s.report.flags ∨ t.report.flags = s.report.flags.map .carry)) ∧
  (Handles s n rest tb 2 → c = .request →
    Answers (exec c s) fun t =>
      Entered s t tb rest ∧ (s.hold.reasons.driveFault = false →
        Consequences s t ∧ OwnReasonsKept s.hold.reasons t.hold.reasons) ∧
      (s.cfg.reportMode = .untilClear → t.report.flags =
        s.report.flags.mapIdx fun k f => if n.seenSet.getLsbD k = true ∧ f = .set then .clear else f) ∧
      (s.cfg.reportMode = .carryOnce → t.report.flags = s.report.flags ∨
        t.report.flags = s.report.flags.map .carry)) ∧
  (Handles s n rest tb 2 → c = .request → s.hold.reasons.driveFault = true → tb.wish ≠ s.table.wish →
    tb.triggerHeld = false →
    Answers (exec c s) fun t =>
      Entered s t tb rest ∧ t.hold.reasons.driveFault = false ∧ t.drive.state ≠ .fault ∧
        t.hold.history = s.hold.history)

/-- A SUPPLY enters the table, after any eviction is handed on, clears the supply-lost mark, and is tested for
the echo and for FAULT (R93, R97, R108, R110, R136, R151, R155). The echo tested before the ask is formed
afresh (notes/assumptions/17.md) and the eviction as an event of its own before the entry
(notes/assumptions/45.md) are inferred; the next dock record taken as the dock record at once is the model's
choice (notes/assumptions/42.md). -/
def Obligations.SupplyTestsEcho : Prop :=
  ∀ (s : State) (n : Notice) (rest : List Notice) (tb : Table) (old : Record) (x : ChargeWindow),
  (Handles s n rest tb 3 → (n.supplyPart.state ≠ .fault ∨ (evict n s).charge.phase.charging = false) →
    Answers (exec .supply s) fun t =>
      Entered s t tb rest ∧ (s.hold.reasons.driveFault = false →
        Consequences s t ∧ OwnReasonsKept s.hold.reasons t.hold.reasons) ∧ t.charge.supplyLost = false ∧
      (echoes n.supplyPart (evict n s).charge.ask = true → t.charge.ask = (evict n s).charge.ask →
        t.charge.phase = (evict n s).charge.phase → t.charge.awaiting = false)) ∧
  (Handles s n rest tb 3 → n.supplyPart.state = .fault → (evict n s).charge.phase.charging = true →
    Answers (exec .supply s) fun t =>
      Entered s t tb rest ∧ t.charge.phase = .fault ∧ t.charge.supplyLost = false ∧ t.charge.ask = .disabled ∧
        t.charge.switch = false ∧
      Raised .chargeFault t ∧ Logged .dockFault (evict n s) t ∧ t.hold.history.tail = s.hold.history.take 7 ∧
      (s.hold.reasons.driveFault = false → OwnReasonsKept s.hold.reasons t.hold.reasons ∧ CountersKept s t)) ∧
  (Handles s n rest tb 3 → n.supplyPart.state = .fault → s.charge.phase = .paused → s.table.evicts n = some old →
    s.table.dockRecord = some old → (s.table.remove old.station).dockReady = true → s.liveWindow = some x →
      s.fullV x.vCell ≤ (s.table.remove old.station).dockMaxV → s.charge.supplyLost = false →
        s.charge.causes.unresponsive = false → (evict n s).hold.stopCharge = false →
    Answers (exec .supply s) fun t =>
      Entered s t tb rest ∧ t.charge.phase = .fault ∧ Raised .chargeFault t ∧ Logged .dockFault (evict n s) t ∧
        t.hold.history.tail = s.hold.history.take 7 ∧
      t.charge.ask = .disabled ∧ t.charge.switch = false)

/-- A notice that a full table refuses leaves the queue with TABLE_FULL and does nothing else, whatever its
class (R134, R151). -/
def Obligations.FullTableRefuses : Prop :=
  ∀ (s : State) (c : Instr) (n : Notice) (rest : List Notice),
  (s.running = true → s.line.rx = n :: rest → s.table.enter n s.now = none →
    ((c, n.cls) ∈ [(Instr.hold, 1), (Instr.request, 2), (Instr.supply, 3), (Instr.draw, 5), (Instr.headDirt, 6)] ∨
      c = .otherClassNotice ∧ n.cls ∈ [4, 7, 9, 10, 11, 12, 13, 14, 15] ∨
      n.cls = 8 ∧ (c, n.item) ∈ [(Instr.ident, 0), (Instr.runs, 1), (Instr.modeTime, 2), (Instr.chargeCounts, 3),
        (Instr.cellsA, 4), (Instr.cellsB, 5), (Instr.fault, 6), (Instr.sample, 7), (Instr.holds, 8), (Instr.table, 9),
        (Instr.masterOn, 16), (Instr.masterOff, 17), (Instr.clearHistory, 18), (Instr.ship, 19)] ∨
      n.cls = 8 ∧ c = .unknownItem ∧ (9 < n.item ∧ n.item < 16 ∨ 19 < n.item)) →
    Answers (exec c s) fun t =>
      t.line.rx = rest ∧ Raised .tableFull t ∧ newest t.line.report.slot = newest s.line.report.slot ∧
      t.report.shipPending = s.report.shipPending ∧ OnlyIn [.line, .report] s t)

/-- An entered notice makes its station's record FRESH with its part; other stations stay, but for the stalest
evicted from a full table (R149, R150, R151, R155). -/
def Obligations.TableEntryRule : Prop :=
  ∀ (tb u : Table) (n : Notice) (now st : Nat) (old : Record),
  ((tb.records.map (·.station)).Nodup → tb.enter n now = some u →
    u.find n.station =
      some (((tb.find n.station).getD (Record.blank n.station)).entered n now) ∧
    (u.find n.station).any (fun r => !r.stale && decide (r.heardAt = now)) = true ∧
    (st ≠ n.station → u.find st = tb.find st ∨
      u.find st = none ∧ 6 ≤ tb.records.length ∧ tb.find n.station = none ∧
        (tb.find st).any (fun x => x.stale && tb.records.all fun r => !r.stale || decide (x.heardAt ≤ r.heardAt)) = true) ∧
    (tb.records.length ≤ 6 → u.records.length ≤ 6) ∧
    (n.cls = 2 → u.requestOrder.head? = some n.station) ∧ (n.cls = 3 → u.supplyOrder.head? = some n.station) ∧
    (n.cls = 5 → n.drawPart.kind = .head → u.headOrder.head? = some n.station)) ∧
  ((tb.records.map (·.station)).Nodup → tb.records.length ≤ 6 → tb.evicts n = some old →
    tb.enter n now = (tb.remove old.station).enter n now ∧ old ∈ tb.records ∧ old.stale = true ∧
    (tb.remove old.station).find old.station = none ∧ old.station ∉ (tb.remove old.station).requestOrder ∧
    old.station ∉ (tb.remove old.station).supplyOrder ∧ old.station ∉ (tb.remove old.station).headOrder) ∧
  (tb.enter n now = none ↔
      tb.find n.station = none ∧ 6 ≤ tb.records.length ∧ ∀ r ∈ tb.records, r.stale = false)

/-- Each reading QUERY answers OK with its values, FAULT, SAMPLE and TABLE the entry asked for or EMPTY, any
other item UNKNOWN (R144, R145, R189, R190, R191, R79, R146, R174). -/
def Obligations.QueriesAnswerTheirValues : Prop :=
  ∀ (s : State) (n : Notice) (rest : List Notice) (tb : Table),
  (Handles s n rest tb 8 → n.item = 0 → (s.report.shipAnswer ≠ .waiting ∨ s.report.shipPending = none) →
    Answers (exec .ident s) fun t =>
      newest t.line.report.slot = some (
        [0#8, byte n.argument, 0] ++ [byte s.cfg.station, byte s.cfg.cells] ++ toBytes 2 s.cfg.capacity ++
        [byte (bitNat s.loader.defaultsMark)]) ∧
      Entered s t tb rest ∧ (s.hold.reasons.driveFault = false →
        Consequences s t ∧ OwnReasonsKept s.hold.reasons t.hold.reasons) ∧ t.dirt.samples = s.dirt.samples) ∧
  (Handles s n rest tb 8 → n.item = 1 → (s.report.shipAnswer ≠ .waiting ∨ s.report.shipPending = none) →
    Answers (exec .runs s) fun t =>
      newest t.line.report.slot = some (
        [1#8, byte n.argument, 0] ++ toBytes 2 t.drive.runs ++ toBytes 4 t.drive.secTotal) ∧
      Entered s t tb rest ∧ (s.hold.reasons.driveFault = false →
        Consequences s t ∧ OwnReasonsKept s.hold.reasons t.hold.reasons) ∧ t.dirt.samples = s.dirt.samples) ∧
  (Handles s n rest tb 8 → n.item = 2 → (s.report.shipAnswer ≠ .waiting ∨ s.report.shipPending = none) →
    Answers (exec .modeTime s) fun t =>
      newest t.line.report.slot = some (
        [2#8, byte n.argument, 0] ++ (if n.argument % 2 = 0 then toBytes 4 t.drive.secEco ++ toBytes 4 t.drive.secMid
        else toBytes 4 t.drive.secBoost ++ toBytes 4 t.drive.secAuto)) ∧
      Entered s t tb rest ∧ (s.hold.reasons.driveFault = false →
        Consequences s t ∧ OwnReasonsKept s.hold.reasons t.hold.reasons) ∧ t.dirt.samples = s.dirt.samples) ∧
  (Handles s n rest tb 8 → n.item = 3 → (s.report.shipAnswer ≠ .waiting ∨ s.report.shipPending = none) →
    Answers (exec .chargeCounts s) fun t =>
      newest t.line.report.slot = some (
        [3#8, byte n.argument, 0] ++ toBytes 2 t.charge.completions ++ toBytes 4 t.charge.mah) ∧
      Entered s t tb rest ∧ (s.hold.reasons.driveFault = false →
        Consequences s t ∧ OwnReasonsKept s.hold.reasons t.hold.reasons) ∧ t.dirt.samples = s.dirt.samples) ∧
  (Handles s n rest tb 8 → n.item = 4 → (s.report.shipAnswer ≠ .waiting ∨ s.report.shipPending = none) →
    Answers (exec .cellsA s) fun t =>
      newest t.line.report.slot = some ([4#8, byte n.argument, 0] ++
        toBytes 9 (packFields 13 [s.reportedCell 0, s.reportedCell 1, s.reportedCell 2, s.reportedCell 3, s.reportedCell 4] * 128)) ∧
      Entered s t tb rest ∧ (s.hold.reasons.driveFault = false →
        Consequences s t ∧ OwnReasonsKept s.hold.reasons t.hold.reasons) ∧ t.dirt.samples = s.dirt.samples) ∧
  (Handles s n rest tb 8 → n.item = 5 → (s.report.shipAnswer ≠ .waiting ∨ s.report.shipPending = none) →
    Answers (exec .cellsB s) fun t =>
      newest t.line.report.slot = some (
        [5#8, byte n.argument, 0] ++ toBytes 2 (s.reportedCell 5) ++ toBytes 2 (s.reportedCell 6) ++
        [signedByte s.pack.t1.temp, signedByte s.pack.t2.temp,
          byte (bitNat s.pack.t1.faulty + 2 * bitNat s.pack.t2.faulty)] ++
        toBytes 2 (s.pack.iPack + 8000).toNat) ∧
      Entered s t tb rest ∧ (s.hold.reasons.driveFault = false →
        Consequences s t ∧ OwnReasonsKept s.hold.reasons t.hold.reasons) ∧ t.dirt.samples = s.dirt.samples) ∧
  (Handles s n rest tb 8 → n.item = 8 → (s.report.shipAnswer ≠ .waiting ∨ s.report.shipPending = none) →
    Answers (exec .holds s) fun t =>
      newest t.line.report.slot = some ([8#8, byte n.argument, 0] ++ toBytes 2 t.hold.reasons.bits ++
        [byte (bitNat t.hold.reasons.master), t.hold.heard.setWidth 8]) ∧
      Entered s t tb rest ∧ (s.hold.reasons.driveFault = false →
        Consequences s t ∧ OwnReasonsKept s.hold.reasons t.hold.reasons) ∧ t.dirt.samples = s.dirt.samples) ∧
  (Handles s n rest tb 8 → n.item = 6 → (s.report.shipAnswer ≠ .waiting ∨ s.report.shipPending = none) →
    Answers (exec .fault s) fun t =>
      newest t.line.report.slot = some (match t.hold.history[n.argument % 8]? with
        | some e => [6#8, byte n.argument, byte (16 * e.kind.code)] ++ toBytes 2 e.run ++
            [byte e.soc, signedByte e.tPack, byte e.speed] ++ toBytes 4 e.seconds
        | none => [6#8, byte n.argument, 1]) ∧
      Entered s t tb rest ∧ (s.hold.reasons.driveFault = false →
        Consequences s t ∧ OwnReasonsKept s.hold.reasons t.hold.reasons) ∧ t.dirt.samples = s.dirt.samples) ∧
  (Handles s n rest tb 8 → n.item = 7 → (s.report.shipAnswer ≠ .waiting ∨ s.report.shipPending = none) →
    Answers (exec .sample s) fun t =>
      newest t.line.report.slot = some (match s.dirt.samples.head? with
        | some e => [7#8, byte n.argument, 0] ++
            [byte (e.cls.getD 8), byte e.weight] ++ toBytes 2 e.window ++ [byte e.run]
        | none => [7#8, byte n.argument, 1]) ∧ t.dirt.samples = s.dirt.samples.drop 1 ∧
      Entered s t tb rest ∧ t.hold.history = s.hold.history ∧ (s.hold.reasons.driveFault = false →
        OwnReasonsKept s.hold.reasons t.hold.reasons ∧ CountersKept s t)) ∧
  (Handles s n rest tb 8 → n.item = 9 → (s.report.shipAnswer ≠ .waiting ∨ s.report.shipPending = none) →
    Answers (exec .table s) fun t =>
      newest t.line.report.slot = some (match tb.byStation[n.argument % 8]? with
        | some r => [9#8, byte n.argument, 0] ++ recordValues r s.now
        | none => [9#8, byte n.argument, 1]) ∧
      Entered s t tb rest ∧ (s.hold.reasons.driveFault = false →
        Consequences s t ∧ OwnReasonsKept s.hold.reasons t.hold.reasons) ∧ t.dirt.samples = s.dirt.samples) ∧
  (Handles s n rest tb 8 → ((9 < n.item ∧ n.item < 16) ∨ 19 < n.item) →
    (s.report.shipAnswer ≠ .waiting ∨ s.report.shipPending = none) →
    Answers (exec .unknownItem s) fun t =>
      newest t.line.report.slot = some [byte n.item, byte n.argument, 2] ∧
      Entered s t tb rest ∧ (s.hold.reasons.driveFault = false →
        Consequences s t ∧ OwnReasonsKept s.hold.reasons t.hold.reasons))

/-- An action from a service station is answered OK and done at once; from any other station it is REFUSED and
nothing is done (R147, R168, R170, R174, R172). The entry and the action as two events, each told at its end,
are the model's choice (notes/assumptions/8.md). That a second SHIP keeps the tick of the earlier acceptance
is inferred (notes/assumptions/19.md). -/
def Obligations.ActionsServeTheServiceSet : Prop :=
  ∀ (s : State) (n : Notice) (rest : List Notice) (tb : Table),
  (Handles s n rest tb 8 → n.item = 16 → s.report.shipAnswer ≠ .waiting →
    s.cfg.serviceStations.getLsbD n.station = true →
    Answers (exec .masterOn s) fun t =>
      newest t.line.report.slot = some [16#8, byte n.argument, 0] ∧ Entered s t tb rest ∧
      t.hold.reasons.master = true ∧ t.hold.stopSuction = true ∧ t.hold.stopCharge = true ∧ t.hold.railOff = true ∧
      t.attach.rail = false ∧ t.charge.switch = false ∧ (s.hold.stopSuction = false → t.allow.target = 0) ∧
      t.hold.history = s.hold.history ∧ (s.hold.reasons.driveFault = false → CountersKept s t)) ∧
  (Handles s n rest tb 8 → n.item = 17 → s.report.shipAnswer ≠ .waiting →
    s.cfg.serviceStations.getLsbD n.station = true →
    Answers (exec .masterOff s) fun t =>
      newest t.line.report.slot = some [17#8, byte n.argument, 0] ∧ Entered s t tb rest ∧
      t.hold.reasons.master = false ∧
        t.hold.railOff = (t.hold.reasons.packEmpty || t.hold.reasons.headShort || t.hold.reasons.overdraw) ∧
      t.hold.stopCharge = (t.hold.reasons.cellHigh || t.hold.reasons.sensor || t.hold.reasons.lineStuck) ∧
      t.hold.history = s.hold.history ∧ (s.hold.reasons.driveFault = false → CountersKept s t)) ∧
  (Handles s n rest tb 8 → n.item = 18 → s.report.shipAnswer ≠ .waiting →
    s.cfg.serviceStations.getLsbD n.station = true →
    Answers (exec .clearHistory s) fun t =>
      newest t.line.report.slot = some [18#8, byte n.argument, 0] ∧ Entered s t tb rest ∧
      t.hold.history = [] ∧
      (s.hold.reasons.driveFault = false → OwnReasonsKept s.hold.reasons t.hold.reasons ∧ CountersKept s t)) ∧
  (Handles s n rest tb 8 → n.item = 19 → s.report.shipAnswer ≠ .waiting →
    (s.cfg.serviceStations.getLsbD n.station = true ∧ s.attach.dock ≠ .docked) →
    Answers (exec .ship s) fun t =>
      newest t.line.report.slot = some [19#8, byte n.argument, 0] ∧ Entered s t tb rest ∧
      t.report.shipPending = some (s.report.shipPending.getD s.now) ∧
      (s.report.shipPending = none → t.report.shipAnswer ≠ .none) ∧
      (s.hold.reasons.driveFault = false → Consequences s t)) ∧
  (Handles s n rest tb 8 → n.item = 16 → s.report.shipAnswer ≠ .waiting →
    s.cfg.serviceStations.getLsbD n.station = false →
    Answers (exec .masterOn s) fun t =>
      newest t.line.report.slot = some [16#8, byte n.argument, 3] ∧ Entered s t tb rest ∧
      t.hold.reasons.master = s.hold.reasons.master ∧ t.hold.history = s.hold.history ∧
      t.report.shipPending = s.report.shipPending ∧ (s.hold.reasons.driveFault = false →
        Consequences s t ∧ OwnReasonsKept s.hold.reasons t.hold.reasons)) ∧
  (Handles s n rest tb 8 → n.item = 17 → s.report.shipAnswer ≠ .waiting →
    s.cfg.serviceStations.getLsbD n.station = false →
    Answers (exec .masterOff s) fun t =>
      newest t.line.report.slot = some [17#8, byte n.argument, 3] ∧ Entered s t tb rest ∧
      t.hold.reasons.master = s.hold.reasons.master ∧ t.hold.history = s.hold.history ∧
      t.report.shipPending = s.report.shipPending ∧ (s.hold.reasons.driveFault = false →
        Consequences s t ∧ OwnReasonsKept s.hold.reasons t.hold.reasons)) ∧
  (Handles s n rest tb 8 → n.item = 18 → s.report.shipAnswer ≠ .waiting →
    s.cfg.serviceStations.getLsbD n.station = false →
    Answers (exec .clearHistory s) fun t =>
      newest t.line.report.slot = some [18#8, byte n.argument, 3] ∧ Entered s t tb rest ∧
      t.hold.reasons.master = s.hold.reasons.master ∧ t.hold.history = s.hold.history ∧
      t.report.shipPending = s.report.shipPending ∧ (s.hold.reasons.driveFault = false →
        Consequences s t ∧ OwnReasonsKept s.hold.reasons t.hold.reasons)) ∧
  (Handles s n rest tb 8 → n.item = 19 → s.report.shipAnswer ≠ .waiting →
    (s.cfg.serviceStations.getLsbD n.station = false ∨ s.attach.dock = .docked) →
    Answers (exec .ship s) fun t =>
      newest t.line.report.slot = some [19#8, byte n.argument, 3] ∧ Entered s t tb rest ∧
      t.hold.reasons.master = s.hold.reasons.master ∧ t.hold.history = s.hold.history ∧
      t.report.shipPending = s.report.shipPending ∧ (s.hold.reasons.driveFault = false →
        Consequences s t ∧ OwnReasonsKept s.hold.reasons t.hold.reasons)) ∧
  (Handles s n rest tb 8 → (n.item = 16 ∨ n.item = 17 ∨ n.item = 18) →
    s.cfg.serviceStations.getLsbD n.station = false → s.report.shipAnswer ≠ .waiting → s.table.evicts n = none →
      s.mayBegin = true → s.line.hold.slot = .empty →
    (n.item = 16 → Answers (exec .masterOn s) fun t =>
      t.line.hold.slot =
        if t.hold.reasons = s.hold.reasons then .empty else .inFlight (holdPayload t.hold.reasons)) ∧
    (n.item = 17 → Answers (exec .masterOff s) fun t =>
      t.line.hold.slot =
        if t.hold.reasons = s.hold.reasons then .empty else .inFlight (holdPayload t.hold.reasons)) ∧
    (n.item = 18 → Answers (exec .clearHistory s) fun t =>
      t.line.hold.slot =
        if t.hold.reasons = s.hold.reasons then .empty else .inFlight (holdPayload t.hold.reasons)))

/-- A falling edge in IDLE begins a header unless it is a glitch, and restarts the dominant timer; a framing
error or a length above 12 discards (R115, R117, R119, R129, R133). The clauses without an occasion
(notes/assumptions/1.md), the operand low with the known recessive time after a glitch, the recessive timer of
STUCK from the release told, and the edge in SLEEP that starts a pulse alone (notes/assumptions/15.md) are the
model's choice; the steady clock of that pulse is inferred (notes/assumptions/29.md). -/
def Obligations.LineEdgesAndDiscards : Prop :=
  ∀ (s : State) (len : Byte) (low : Option Nat) (n : Nat),
  (s.running = true → s.line.ownBreak = none → low.all (fun x => decide (40 < x)) = true → s.line.state = .idle →
    Answers (exec (.lineFallingEdge low) s) fun t =>
      t.line = { s.line with
        state := .busy, dominantFrom := some s.now, risesAt := low.map (s.now + ·), recessiveFrom := none
        reception := some [] } ∧
      OnlyIn [.line] s t) ∧
  (s.running = true → s.line.ownBreak = none → low.all (fun x => decide (40 < x)) = true → s.line.state ≠ .idle →
    Answers (exec (.lineFallingEdge low) s) fun t =>
      t.line = { s.line with
        dominantFrom := some s.now, risesAt := low.map (s.now + ·)
        recessiveFrom := if s.line.state = .stuck then low.map (s.now + ·) else none } ∧ OnlyIn [.line] s t) ∧
  (s.running = true → s.line.ownBreak = none → low = some n → n ≤ 40 →
    Answers (exec (.lineFallingEdge low) s) fun t =>
      t.line = { s.line with
        state := if s.line.state = .idle then .busy else s.line.state, dominantFrom := none, risesAt := none
        recessiveFrom := some (s.now + n), reception := if s.line.state = .idle then none else s.line.reception } ∧
      OnlyIn [.line] s t) ∧
  (s.power.state = .sleep →
    Answers (exec (.lineFallingEdge low) s) fun t =>
      t.line = { s.line with pulse := some ⟨s.time.steady, low.map (s.time.steady + ·)⟩ } ∧ OnlyIn [.line] s t) ∧
  ((s.power.state = .starting ∨ s.power.state = .ship ∨ s.running = true ∧ s.line.ownBreak.isSome = true) →
    Answers (exec (.lineFallingEdge low) s) fun t =>
      t = s) ∧
  (s.receiving = true →
    Answers (exec .framingError s) fun t =>
      t.line = { s.line with reception := none } ∧ OnlyIn [.line] s t) ∧
  (s.receiving = false →
    Answers (exec .framingError s) fun t =>
      t = s) ∧
  (s.receiving = true → 12 < len.toNat →
    Answers (exec (.lengthTooGreat len) s) fun t =>
      t.line = { s.line with reception := none } ∧ OnlyIn [.line] s t) ∧
  ((s.receiving = false ∨ len.toNat ≤ 12) →
    Answers (exec (.lengthTooGreat len) s) fun t =>
      t = s)

/-- At LINE_IDLE a truncated reception is dropped and the attempt of the lowest waiting class begins with
contents formed now (R117, R121, R122, R124, R142, R172, R140, R171, R189, R190). Where the line is not known
to be recessive LINE_IDLE is taken at its word, which is the model's choice (notes/assumptions/15.md). -/
def Obligations.IdleBeginsAttempt : Prop :=
  ∀ (s : State) (id : SlotId) (p : List Byte) (k : Nat),
  (s.mayIdle = true → s.line.unsettled = none → s.line.nextSlot = none →
    Answers (exec .lineIdle s) fun t =>
      t.time = (runTo s.idleAt s).time ∧
      t.line = { s.line with state := .idle, reception := none, dominantFrom := none, risesAt := none } ∧
        OnlyIn [.time, .line] s t) ∧
  (s.mayIdle = true → s.line.unsettled = none → s.line.nextSlot = some (id, p) →
    Answers (exec .lineIdle s) fun t =>
      (let payload := match id with
        | .hold => holdPayload s.hold.reasons
        | .state => statePayload t
        | .ask => p
        | .report => p
      t.time = (runTo s.idleAt s).time ∧ t.line.state = .busy ∧ t.line.reception = none ∧
      t.line.attempt = some ⟨id, t.now, noticeChars id.cls s.cfg.station payload⟩ ∧
      (t.line.slot id).slot = .inFlight payload ∧ (t.line.slot id).errors = (s.line.slot id).errors ∧
      (id ≠ .hold → s.line.hold.slot.waiting = none) ∧ (id = .state ∨ id = .report → s.line.ask.slot.waiting = none) ∧
      (id = .report → s.line.state_.slot.waiting = none) ∧
      t.report.flags = (if id = .state ∧
        s.cfg.reportMode = .carryOnce then s.report.flags.map .carry else s.report.flags) ∧
      LineTold s t ∧ OnlyIn [.time, .line, .report] s t)) ∧
  (holdPayload s.hold.reasons = [BitVec.ofNat 8 (
      (if s.hold.reasons.packEmpty || s.hold.reasons.lowAllowance || s.hold.reasons.docked ||
        s.hold.reasons.master then 1 else 0) +
      (if s.hold.reasons.packHot || s.hold.reasons.packCold then 4 else 0) +
      (if s.hold.reasons.driveFault || s.hold.reasons.headShort || s.hold.reasons.overdraw || s.hold.reasons.sensor ||
        s.hold.reasons.cellHigh || s.hold.reasons.lineStuck || s.hold.reasons.stationConflict then 16 else 0))]) ∧
  (statePayload s = [
      BitVec.ofNat 8 (
        (match s.pack.packState with | .good => 0 | .low => 1 | .empty => 2 | .high => 3 | .openTap => 4) +
        16 * (match s.charge.phase with | .undocked => 0 | .waiting => 1 | .precharge => 2 | .bulk => 3 | .topoff => 4 | .done => 5 | .paused => 6 | .fault => 7)),
      BitVec.ofNat 8 s.pack.soc,
      BitVec.ofNat 8 (
        (match s.drive.state with | .stopped => 0 | .align => 1 | .ramp => 2 | .run => 3 | .coast => 4 | .fault => 5) +
        8 * (match s.allow.mode with | .off => 0 | .eco => 1 | .mid => 2 | .boost => 3 | .auto => 4) +
        (if s.drive.blocked then 64 else 0) + (if s.loader.defaultsMark then 128 else 0)),
      BitVec.ofNat 8 s.dirt.level,
      BitVec.ofNat 8 (s.allow.pAllow / 256), BitVec.ofNat 8 s.allow.pAllow,
      BitVec.ofNat 8 (s.allow.iShare / 100),
      BitVec.ofNat 8 (
        (if s.hold.reasons.packEmpty || s.hold.reasons.packHot || s.hold.reasons.packCold || s.hold.reasons.cellHigh ||
          s.hold.reasons.sensor || s.hold.reasons.lowAllowance || s.hold.reasons.docked || s.hold.reasons.driveFault ||
          s.hold.reasons.lineStuck || s.hold.reasons.stationConflict then 1 else 0) +
        (if s.hold.heard = 0 then 0 else 2) + (if s.hold.stopCharge then 4 else 0) +
        (if s.hold.railOff then 8 else 0) + (if s.hold.reasons.master then 16 else 0)),
      BitVec.ofNat 8 (flagBits s.report.flags / 256), BitVec.ofNat 8 (flagBits s.report.flags),
      BitVec.ofNat 8 (min 255 (s.drive.speed / 1000))]) ∧
  (flagBits s.report.flags).testBit k =
      decide (s.report.flags.getD k .clear = .set ∨ s.report.flags.getD k .clear = .carried) ∧
  ([Flag.headAttached, .headRemoved, .docked, .undocked, .packLow, .packEmpty, .chargeDone, .chargeFault, .driveFault,
      .blocked, .tableFull, .stationLost, .lineReset, .rxOverrun, .overdraw, .stationConflict].map Flag.bit =
      [15, 14, 13, 12, 11, 10, 9, 8, 7, 6, 5, 4, 3, 2, 1, 0])

/-- A lost header or a bit error makes its slot PENDING again; errors settle at IDLE, the third dropping the
notice for a conflict (R123, R124, R126, R142, R130, R141, R172). HEADER_LOSS after the header changing
nothing (notes/assumptions/1.md) and LINE_IDLE taken at its word (notes/assumptions/15.md) are the model's
choice. -/
def Obligations.BitErrorsSettleAtIdle : Prop :=
  ∀ (s : State) (a : Attempt) (x : Unsettled),
  (s.line.attempt = some a → s.now < a.start + 800 → s.lossDropsShip = false → s.line.state = .busy →
    Answers (exec .headerLoss s) fun t =>
      t.line.attempt = none ∧ t.line.reception = some [] ∧ t.line.state = .busy ∧
      (t.line.slot a.slot).slot = (s.line.slot a.slot).slot.lost ∧
      newest (t.line.slot a.slot).slot = newest (s.line.slot a.slot).slot ∧
      (t.line.slot a.slot).errors = (s.line.slot a.slot).errors ∧
      t.report.flags = (if a.slot = .state ∧
        s.cfg.reportMode = .carryOnce then s.report.flags.map .lost else s.report.flags) ∧
      OnlyIn [.line, .report] s t) ∧
  (s.line.attempt = some a → a.start + 800 ≤ s.now →
    Answers (exec .headerLoss s) fun t =>
      t = s) ∧
  (s.line.attempt = some a → s.lossDropsShip = false → s.line.state = .busy →
    Answers (exec .bitError s) fun t =>
      t.line.attempt = none ∧ t.line.reception = none ∧ t.line.state = .busy ∧
      t.line.unsettled = some ⟨a.slot, (s.line.slot a.slot).slot.replaced⟩ ∧
      (t.line.slot a.slot).slot = (s.line.slot a.slot).slot.lost ∧
      (t.line.slot a.slot).errors = (s.line.slot a.slot).errors ∧
      t.report = { s.report with shipAnswer :=
        if a.slot = .report ∧ s.report.shipAnswer = .flying then .waiting else s.report.shipAnswer } ∧
      OnlyIn [.line, .report] s t) ∧
  (s.mayIdle = true → s.line.unsettled = some x → (s.line.slot x.slot).errors < 2 →
    Answers (exec .lineIdle s) fun t =>
      t.time = (runTo s.idleAt s).time ∧ (t.line.slot x.slot).errors = (s.line.slot x.slot).errors + 1 ∧
        t.line.unsettled = none ∧
      (let back := if x.slot = .state ∧
        s.cfg.reportMode = .carryOnce then s.report.flags.map FlagState.lost else s.report.flags;
      let told := back;
      let stateBegun := t.line.attempt.map (·.slot) = some .state;
      t.report.flags = (if stateBegun ∧ s.cfg.reportMode = .carryOnce then told.map FlagState.carry else told)) ∧
      (∀ id ∈ [SlotId.ask, .report], newest (t.line.slot id).slot = newest (s.line.slot id).slot) ∧
      (∀ id ∈ [SlotId.hold, .state], occupied (t.line.slot id).slot = occupied (s.line.slot id).slot) ∧
      t.line.conflict = s.line.conflict ∧ t.hold = s.hold ∧ OnlyIn [.time, .line, .report] s t) ∧
  (s.mayIdle = true → s.line.unsettled = some x → 2 ≤ (s.line.slot x.slot).errors → s.dropsShip x = false →
    Answers (exec .lineIdle s) fun t =>
      t.time = (runTo s.idleAt s).time ∧ (t.line.slot x.slot).errors = 0 ∧ t.line.unsettled = none ∧
      t.line.conflict = some (t.now + 40000000) ∧ Raised .stationConflict t ∧ t.hold.reasons.stationConflict = true ∧
      t.hold.stopSuction = true ∧ 
      (let back := if x.slot = .state ∧
        s.cfg.reportMode = .carryOnce then s.report.flags.map FlagState.lost else s.report.flags;
      let told := back.modify Flag.stationConflict.bit FlagState.raised;
      let stateBegun := t.line.attempt.map (·.slot) = some .state;
      t.report.flags = (if stateBegun ∧ s.cfg.reportMode = .carryOnce then told.map FlagState.carry else told)) ∧
      (x.slot = .report → x.replaced = false → t.line.report.slot = .empty) ∧
      (x.slot ≠ .report ∨ x.replaced = true → newest t.line.report.slot = newest s.line.report.slot) ∧
      (lawLive s → lawOutputs s → if x.slot = .ask ∧ x.replaced = false then t.line.ask.slot = .empty
        else newest t.line.ask.slot = newest s.line.ask.slot) ∧
      (x.replaced = true → occupied (s.line.slot x.slot).slot = true → occupied (t.line.slot x.slot).slot = true) ∧
      (x.slot = .hold → x.replaced = false →
        if t.hold.reasons = s.hold.reasons then t.line.hold.slot = .empty else occupied t.line.hold.slot = true) ∧
      (x.slot = .state → x.replaced = false →
        if s.line.lastStatePut.all (fun e => decide (e + 80000 ≤ t.now)) = true
        then occupied t.line.state_.slot = true ∧ t.line.lastStatePut = some t.now
        else t.line.state_.slot = .empty ∧ t.line.holdoff = true) ∧
      Consequences s t ∧ OwnReasonsKept s.hold.reasons t.hold.reasons ∧ OnlyIn (.time :: consequent) s t)

/-- A completed attempt empties its slot and settles its flags; the OK answer to SHIP, sent, dropped, replaced
or 100 ms old, gives its order (R125, R142, R147, R186). The tick of a completion (notes/assumptions/46.md)
and the line known to be recessive after it (notes/assumptions/15.md) are the model's choice; the order given
when an in-flight answer with a newer one behind it is lost or errored is inferred (notes/assumptions/18.md).
-/
def Obligations.AttemptCompletionAndShipOrder : Prop :=
  ∀ (s : State) (a : Attempt) (v : Nat) (c : Instr) (n : Notice) (rest : List Notice) (tb : Table) (x : Unsettled),
  (s.line.attempt = some a → (s.sendsShip a = false ∨ s.report.shipPending = none) → s.line.state = .busy →
    Answers (exec .attemptCompletion s) fun t =>
      t.time = (runTo (a.start + 800 * a.chars.length) s).time ∧ t.line.attempt = none ∧
      t.line.slot a.slot = ⟨(s.line.slot a.slot).slot.completed, 0⟩ ∧ t.line.recessiveFrom = some t.now ∧
      t.report.flags = (if a.slot = .state ∧
        s.cfg.reportMode = .carryOnce then s.report.flags.map .completed else s.report.flags) ∧
      OnlyIn [.time, .line, .report] s t) ∧
  (s.line.attempt = some a → s.sendsShip a = true → s.report.shipPending = some v → s.running = true →
    Answers (exec .attemptCompletion s) fun t =>
      t.report.shipPending = none ∧ (s.attach.dock ≠ .docked → s.pins.dockMv ≤ 5000 → Asleep .ship s t) ∧
      (s.attach.dock ≠ .docked → 5000 < s.pins.dockMv → t.running = true ∧ t.table = .reset) ∧
      (s.attach.dock = .docked → t.power.state = s.power.state ∧ t.table = s.table)) ∧
  (s.report.shipPending = some v → s.running = true →
    Answers (exec .shipOrderTimeout s) fun t =>
      t.time = (runTo (v + 800000) s).time ∧
      t.report.shipPending = none ∧ (s.attach.dock ≠ .docked → s.pins.dockMv ≤ 5000 → Asleep .ship s t) ∧
      (s.attach.dock ≠ .docked → 5000 < s.pins.dockMv → t.running = true ∧ t.table = .reset) ∧
      (s.attach.dock = .docked → t.power.state = s.power.state ∧ t.table = s.table)) ∧
  (Handles s n rest tb 8 → lawIdle s →
    ((c, n.item) ∈ [(Instr.ident, 0), (Instr.runs, 1), (Instr.modeTime, 2), (Instr.chargeCounts, 3),
        (Instr.cellsA, 4), (Instr.cellsB, 5), (Instr.fault, 6), (Instr.sample, 7), (Instr.holds, 8), (Instr.table, 9),
        (Instr.masterOn, 16), (Instr.masterOff, 17), (Instr.clearHistory, 18), (Instr.ship, 19)] ∨
      c = .unknownItem ∧ (9 < n.item ∧ n.item < 16 ∨ 19 < n.item)) → s.report.shipAnswer = .waiting →
        s.report.shipPending = some v →
    Answers (exec c s) fun t =>
      t.report.shipPending = none ∧
      (s.attach.dock ≠ .docked → s.pins.dockMv ≤ 5000 → t.power.state = .ship ∧ t.line = .reset ∧ t.table = .reset)) ∧
  (s.lossDropsShip = true → s.report.shipPending = some v → s.running = true →
    (c = .bitError ∨ c = .headerLoss ∧ s.inHeader = true ∨ c = .breakTaken ∧ s.mayTakeBreak = true ∨
      c = .lineStuck ∧ s.line.state = .inBreak ∧ (s.line.dominantEnds 16000).isSome = true) →
    Answers (exec c s) fun t =>
      t.report.shipPending = none ∧
      (s.attach.dock ≠ .docked → s.pins.dockMv ≤ 5000 → t.power.state = .ship ∧ t.line = .reset ∧ t.table = .reset)) ∧
  (s.mayIdle = true → s.line.unsettled = some x → 2 ≤ (s.line.slot x.slot).errors → s.dropsShip x = true →
    s.report.shipPending = some v →
    Answers (exec .lineIdle s) fun t =>
      t.report.shipPending = none ∧
      (s.attach.dock ≠ .docked → s.pins.dockMv ≤ 5000 → t.power.state = .ship ∧ t.line = .reset ∧ t.table = .reset))

/-- A break is seen at 130 us, taken at its release, stuck at 2 ms; the own break ends at 300 us and STARTING
with it; the conflict ends (R117, R127, R128, R130, R132, R157, R183, R126, R129, R164, R170). The clauses of
no effect (notes/assumptions/1.md), the release told by an edge or else taken from the command, and the line
known to be recessive after a break and a recovery (notes/assumptions/15.md) are the model's choice; HOLD at
the own break alone is inferred (notes/assumptions/30.md), as is the order given by a lost answer
(notes/assumptions/18.md). -/
def Obligations.BreaksStuckLineAndStart : Prop :=
  ∀ (s : State) (d : Nat) (e : Nat),
  (s.line.state = .busy → s.line.dominantFrom = some d → s.line.risesAt.all (fun x => decide (d + 1040 ≤ x)) = true →
    Answers (exec .breakInProgress s) fun t =>
      t.time = (runTo (d + 1040) s).time ∧ t.line = { s.line with state := .inBreak } ∧ OnlyIn [.time, .line] s t) ∧
  (s.line.state ≠ .busy →
    Answers (exec .breakInProgress s) fun t =>
      t = s) ∧
  (s.line.dominantFrom = some d → s.line.risesAt = some e → e < d + 1040 →
    Answers (exec .breakInProgress s) fun t =>
      t = s) ∧
  (s.line.ownBreak = some d → s.power.state ≠ .starting →
    Answers (exec .ownBreakRelease s) fun t =>
      t.time = (runTo d s).time ∧ t.line.ownBreak = none ∧ (s.line.state = .busy → t.line.state = .inBreak) ∧
      OnlyIn [.time, .line, .report] s t) ∧
  (s.line.ownBreak = some d → s.power.state = .starting → lawStarting s →
    Answers (exec .ownBreakRelease s) fun t =>
      t.time = (runTo d s).time ∧ t.line.ownBreak = none ∧ t.running = true ∧
      t.pack.deliveryTimer = some (t.now + 2000000) ∧ t.pack.carried = 0 ∧ t.pack.scanTimer.isSome = true ∧
      t.line.stateCadence.isSome = true ∧ (5000 < s.pins.dockMv → t.attach.dock = .settling) ∧ t.loader = s.loader ∧
      t.pack.cells.map unbled = s.pack.cells.map unbled ∧ t.pack.q = s.pack.q ∧ CountersKept s t) ∧
  (s.mayTakeBreak = true → s.lossDropsShip = false →
    Answers (exec .breakTaken s) fun t =>
      t.line.rx = [] ∧ t.table = .reset ∧ t.hold.heard = 0 ∧ t.line.attempt = none ∧ t.line.unsettled = none ∧
      t.line.reception = none ∧ t.line.state = .busy ∧ t.line.recessiveFrom = some (s.line.risesAt.getD s.now) ∧
      t.time = (runTo (s.line.risesAt.getD s.now) s).time ∧ Raised .lineReset t ∧
      occupied t.line.state_.slot = true ∧
      (t.hold.reasons.any = true → s.line.breakOwed = true →
        occupied t.line.hold.slot = true ∧ t.line.holdCadence = some (t.now + 1600000)) ∧ t.line.breakOwed = false ∧
      t.hold.history = s.hold.history ∧ OnlyIn (.time :: .table :: consequent) s t) ∧
  (s.line.dominantFrom = some d → s.line.risesAt.getD s.now = e → (e < d + 1040 ∨ d + 16000 ≤ e) →
    Answers (exec .breakTaken s) fun t =>
      t = s) ∧
  (s.line.state = .inBreak → s.line.dominantFrom = some d →
    s.line.risesAt.all (fun x => decide (d + 16000 ≤ x)) = true → s.lossDropsShip = false →
    Answers (exec .lineStuck s) fun t =>
      t.time = (runTo (d + 16000) s).time ∧ t.line.state = .stuck ∧ t.line.stuck = true ∧
        t.line.recessiveFrom = s.line.risesAt ∧ t.line.attempt = none ∧ t.line.unsettled = none ∧
      t.line.reception = none ∧ t.hold.reasons.lineStuck = true ∧ t.hold.stopSuction = true ∧
        t.hold.stopCharge = true ∧
      t.charge.switch = false ∧ (s.hold.stopSuction = false → t.allow.target = 0) ∧ t.table = s.table ∧
        t.line.rx = s.line.rx ∧
      Consequences s t ∧ OwnReasonsKept s.hold.reasons t.hold.reasons ∧ OnlyIn (.time :: consequent) s t) ∧
  (s.line.state ≠ .inBreak →
    Answers (exec .lineStuck s) fun t =>
      t = s) ∧
  (s.line.dominantFrom = some d → s.line.risesAt = some e → e < d + 16000 →
    Answers (exec .lineStuck s) fun t =>
      t = s) ∧
  (s.line.state = .stuck → s.line.ownBreak = none →
    Answers (exec .stuckRecovery s) fun t =>
      t.time = (runTo (match s.line.recessiveFrom with
        | some x => x + 8000
        | none => s.now) s).time ∧ t.line.stuck = false ∧ t.hold.reasons.lineStuck = false ∧
          (t.line.state = .idle ∨ t.line.attempt.isSome = true) ∧
      Consequences s t ∧ OwnReasonsKept s.hold.reasons t.hold.reasons ∧ OnlyIn (.time :: consequent) s t) ∧
  ((s.line.state ≠ .stuck ∨ s.line.ownBreak.isSome = true) →
    Answers (exec .stuckRecovery s) fun t =>
      t = s) ∧
  (s.line.conflict = some d →
    Answers (exec .conflictTimerExpiry s) fun t =>
      t.time = (runTo d s).time ∧ t.line.conflict = none ∧ t.hold.reasons.stationConflict = false ∧
      Consequences s t ∧ OwnReasonsKept s.hold.reasons t.hold.reasons ∧ OnlyIn (.time :: consequent) s t)

/-- The STATE and HOLD cadences, the change holdoff, each change of STATE content and each change of local
reasons at a scan put their notice in its slot (R130, R131, R121, R172, R141). That several changes of one
event are told as one is the model's choice (notes/assumptions/8.md). The parts of a scan completion taken as
one event each, and their order, are read from the manual by inference (notes/assumptions/7.md,
notes/assumptions/8.md). -/
def Obligations.CadencesPutNotices : Prop :=
  ∀ (s : State) (d : Nat) (r : ScanReading),
  (s.line.stateCadence = some d →
    Answers (exec .stateCadenceExpiry s) fun t =>
      t.time = (runTo d s).time ∧ occupied t.line.state_.slot = true ∧ t.line.holdoff = false ∧
        t.line.lastStatePut = some t.now ∧
      t.line.stateCadence = some (t.now + if s.power.state = .awake then 800000 else 4000000) ∧ LineTold s t ∧
      OnlyIn [.time, .line, .report] s t) ∧
  (s.line.holdoff = true → s.line.lastStatePut = some d →
    Answers (exec .holdoffExpiry s) fun t =>
      t.time = (runTo (d + 80000) s).time ∧ occupied t.line.state_.slot = true ∧ t.line.holdoff = false ∧
        t.line.lastStatePut = some t.now ∧
      t.line.stateCadence = some (t.now + if s.power.state = .awake then 800000 else 4000000) ∧ LineTold s t ∧
      OnlyIn [.time, .line, .report] s t) ∧
  (s.line.holdCadence = some d → s.running = true →
    Answers (exec .holdCadenceExpiry s) fun t =>
      t.time = (runTo d s).time ∧ occupied t.line.hold.slot = true ∧
      t.line.holdCadence = (if s.hold.reasons.any then some (t.now + 1600000) else none) ∧ LineTold s t ∧
      OnlyIn [.time, .line, .report] s t) ∧
  (s.pack.scan ≠ .none → s.running = true →
    Answers (exec (.scanCompletion r) s) fun t =>
      (t.hold.reasons ≠ s.hold.reasons →
        occupied t.line.hold.slot = true ∧
        t.line.holdCadence = if t.hold.reasons.any then some (s.now + 1600000) else none)) ∧
  (s.pack.scan ≠ .none → s.mayBegin = true → s.line.hold.slot = .empty →
    ((scanPack r s).hold.reasons ≠ s.hold.reasons ∨
      asEvent (scanPack r) s = scanPack r s ∧
        (scanTemps r (scanPack r s)).hold.reasons ≠ (scanPack r s).hold.reasons) →
          (completeScan r s).allow.low ≠ s.allow.low →
    Answers (exec (.scanCompletion r) s) fun t =>
      t.line.hold.slot.replaced = true ∧ (t.line.attempt.map (·.slot)) = some .hold ∧
      t.line.holdCadence = if t.hold.reasons.any then some (s.now + 1600000) else none) ∧
  (s.dirt.windowTimer = some d → s.running = true →
    Answers (exec .windowExpiry s) fun t =>
      (t.dirt.level ≠ s.dirt.level →
        (if s.line.state_.slot.waiting.isSome = true
        then occupied t.line.state_.slot = true ∧ t.line.holdoff = s.line.holdoff ∧
          t.line.lastStatePut = s.line.lastStatePut ∧ t.line.stateCadence = s.line.stateCadence
        else if s.line.lastStatePut.all (fun e => decide (e + 80000 ≤ t.now)) = true
        then occupied t.line.state_.slot = true ∧ (s.line.state_.slot ≠ .empty → t.line.state_.slot.replaced = true) ∧
          t.line.holdoff = false ∧ t.line.lastStatePut = some t.now ∧
            t.line.stateCadence = some (t.now + if s.power.state = .awake then 800000 else 4000000)
        else t.line.state_.slot = s.line.state_.slot ∧ t.line.holdoff = true ∧
          t.line.lastStatePut = s.line.lastStatePut ∧ t.line.stateCadence = s.line.stateCadence)) ∧
      (t.dirt.level = s.dirt.level → t.line.holdoff = s.line.holdoff ∧ t.line.lastStatePut = s.line.lastStatePut ∧
        t.line.stateCadence = s.line.stateCadence)) ∧
  (s.attach.seatTimer = some d → s.running = true →
    Answers (exec .seatTimerExpiry s) fun t =>
      (if s.line.state_.slot.waiting.isSome = true
        then occupied t.line.state_.slot = true ∧ t.line.holdoff = s.line.holdoff ∧
          t.line.lastStatePut = s.line.lastStatePut ∧ t.line.stateCadence = s.line.stateCadence
        else if s.line.lastStatePut.all (fun e => decide (e + 80000 ≤ t.now)) = true
        then occupied t.line.state_.slot = true ∧ (s.line.state_.slot ≠ .empty → t.line.state_.slot.replaced = true) ∧
          t.line.holdoff = false ∧ t.line.lastStatePut = some t.now ∧
            t.line.stateCadence = some (t.now + if s.power.state = .awake then 800000 else 4000000)
        else t.line.state_.slot = s.line.state_.slot ∧ t.line.holdoff = true ∧
          t.line.lastStatePut = s.line.lastStatePut ∧ t.line.stateCadence = s.line.stateCadence)) ∧
  (s.pack.scan ≠ .none → s.running = true →
    Answers (exec (.scanCompletion r) s) fun t =>
      ((t.allow.pAllow, t.allow.iShare / 100, t.allow.mode, t.pack.soc, t.pack.packState) ≠
          (s.allow.pAllow, s.allow.iShare / 100, s.allow.mode, s.pack.soc, s.pack.packState) ∨
        (t.charge.phase, t.drive.state, t.holdSummary) ≠ (s.charge.phase, s.drive.state, s.holdSummary) →
        occupied t.line.state_.slot = true ∨ t.line.holdoff = true))

/-- A record unheard for 300 ms is STALE with its parts kept, and unheard for 1,000 ms it leaves with
STATION_LOST (R152, R153, R155, R156). The two clauses for a station without a record are the model's choice
(notes/assumptions/1.md), as is what the charge controller is told of the dock record
(notes/assumptions/41.md, notes/assumptions/42.md). -/
def Obligations.RecordsAgeAndLeave : Prop :=
  ∀ (s : State) (st k : Nat) (r : Record),
  (s.table.find st = some r → r.stale = false →
    Answers (exec (.recordStale st) s) fun t =>
      t.time = (runTo (r.heardAt + 2400000) s).time ∧ t.table.find st = some { r with stale := true } ∧
      (k ≠ st → t.table.find k = s.table.find k) ∧
      t.table = { s.table with records := s.table.records.map fun x => if x.station = st then { x with
        stale := true } else x } ∧
      t.hold.heard = t.table.heardUnion s.cfg.holdStations ∧ (s.hold.reasons.driveFault = false →
        Consequences s t ∧ OwnReasonsKept s.hold.reasons t.hold.reasons) ∧ t.line.rx = s.line.rx ∧
          OnlyIn (.time :: .table :: consequent) s t) ∧
  (s.table.find st = some r →
    Answers (exec (.recordAgeRemoval st) s) fun t =>
      t.time = (runTo (r.heardAt + 8000000) s).time ∧ t.table.find st = none ∧
        (k ≠ st → t.table.find k = s.table.find k) ∧
      st ∉ t.table.requestOrder ∧ st ∉ t.table.supplyOrder ∧ st ∉ t.table.headOrder ∧ Raised .stationLost t ∧
      t.hold.heard = t.table.heardUnion s.cfg.holdStations ∧ (s.hold.reasons.driveFault = false →
        Consequences s t ∧ OwnReasonsKept s.hold.reasons t.hold.reasons) ∧ t.line.rx = s.line.rx ∧
          OnlyIn (.time :: .table :: consequent) s t) ∧
  (s.table.find st = none →
    Answers (exec (.recordStale st) s) fun t =>
      t = s) ∧
  (s.table.find st = none →
    Answers (exec (.recordAgeRemoval st) s) fun t =>
      t = s)

/-- Both contacts low settle a removed head; one high ends the settling or removes a seated head, its records
and its latches (R154, R167, R176, R177, R187). That levels which stand already are no event, and so no wake,
is the model's choice (notes/assumptions/1.md); HEAD_REMOVED raised by a removal at the wake, against the
words of R148, is the model's choice (notes/assumptions/48.md). -/
def Obligations.HeadContactsSettleAndRemove : Prop :=
  ∀ (s : State) (h1 h2 : Bool),
  (s.running = true → s.attach.head = .removed →
    Answers (exec .headContactsLow s) fun t =>
      t.pins = { s.pins with hd1High := false, hd2High := false } ∧
      t.attach = { s.attach with head := .settling, seatTimer := some (s.now + 160000) } ∧
      LineTold s t ∧ OnlyIn [.pins, .attach, .line, .report] s t) ∧
  ((s.running = true ∧ s.attach.head ≠ .removed ∨ s.power.state = .starting ∨ s.power.state = .ship) →
    Answers (exec .headContactsLow s) fun t =>
      t.pins = { s.pins with hd1High := false, hd2High := false } ∧ LineTold s t ∧
        OnlyIn [.pins, .line, .report] s t) ∧
  (s.power.state = .sleep → (s.pins.hd1High = true ∨ s.pins.hd2High = true) →
    Answers (exec .headContactsLow s) fun t =>
      t.pins = { s.pins with hd1High := false, hd2High := false } ∧ Woken t ∧
      (s.attach.head = .removed → t.attach.head = .settling) ∧ (s.attach.head = .seated → t.attach.head = .seated)) ∧
  ((h1 = true ∨ h2 = true) → s.running = true → s.attach.head = .settling →
    Answers (exec (.headContactHigh h1 h2) s) fun t =>
      t.pins = { s.pins with hd1High := h1, hd2High := h2 } ∧
      t.attach = { s.attach with head := .removed, seatTimer := none } ∧ LineTold s t ∧
      OnlyIn [.pins, .attach, .line, .report] s t) ∧
  ((h1 = true ∨ h2 = true) → s.running = true → s.attach.head = .seated →
    Answers (exec (.headContactHigh h1 h2) s) fun t =>
      t.pins = { s.pins with hd1High := h1, hd2High := h2 } ∧ t.attach.head = .removed ∧ t.attach.rail = false ∧
      t.attach.railTimer = none ∧ t.attach.overdrawTimer = none ∧ t.attach.excess = false ∧
      t.hold.reasons.headShort = false ∧ t.hold.reasons.overdraw = false ∧
        t.hold.reasons.master = s.hold.reasons.master ∧
      t.table.records = s.table.records.filter (!·.roles.head) ∧ Raised .headRemoved t ∧
      t.hold.history = s.hold.history ∧
      (s.hold.reasons.driveFault = false → CountersKept s t) ∧ OnlyIn (.pins :: .table :: consequent) s t) ∧
  ((h1 = true ∨ h2 = true) →
    (s.running = true ∧ s.attach.head = .removed ∨ s.power.state = .starting ∨ s.power.state = .ship) →
    Answers (exec (.headContactHigh h1 h2) s) fun t =>
      t.pins = { s.pins with hd1High := h1, hd2High := h2 } ∧ LineTold s t ∧ OnlyIn [.pins, .line, .report] s t) ∧
  ((h1 = true ∨ h2 = true) → s.power.state = .sleep → (s.pins.hd1High ≠ h1 ∨ s.pins.hd2High ≠ h2) →
    Answers (exec (.headContactHigh h1 h2) s) fun t =>
      t.pins = { s.pins with hd1High := h1, hd2High := h2 } ∧ t.running = true ∧ t.pack.startScan = true ∧
      t.line.ownBreak = some (t.now + 2400) ∧ (s.attach.head ≠ .settling → t.attach.head = .removed)) ∧
  (s.power.state = .sleep → s.pins.hd1High = h1 → s.pins.hd2High = h2 →
    (h1 = false → h2 = false → Answers (exec .headContactsLow s) fun t =>
      t = s) ∧
    (h1 = true ∨ h2 = true → Answers (exec (.headContactHigh h1 h2) s) fun t =>
      t = s))

/-- The seat timer seats the head, the rail turns on 50 ms later while permitted, and a short or 500 ms of
overdraw latches it off (R176, R178, R167, R170, R173, R179, R180). The clause in which HEAD_RAIL_SHORT
changes nothing is the model's choice (notes/assumptions/1.md). -/
def Obligations.HeadRailSeatShortAndOverdraw : Prop :=
  ∀ (s : State) (d : Nat) (ma : Nat),
  (s.attach.seatTimer = some d →
    Answers (exec .seatTimerExpiry s) fun t =>
      t.time = (runTo d s).time ∧ t.attach.head = .seated ∧ t.attach.seatTimer = none ∧ Raised .headAttached t ∧
      (s.running = true → s.hold.railOff = false → s.attach.rail = false →
        t.attach.railTimer = some (s.attach.railTimer.getD (t.now + 400000)) ∧ t.attach.rail = false) ∧
      (s.running = false ∨ s.hold.railOff = true → t.attach.rail = false ∧ t.attach.railTimer = none) ∧
      t.attach.dock = s.attach.dock ∧ t.attach.settleTimer = s.attach.settleTimer ∧
      OnlyIn [.time, .attach, .line, .report] s t) ∧
  (s.attach.railTimer = some d →
    Answers (exec .railOnTimerExpiry s) fun t =>
      t.time = (runTo d s).time ∧
      t.attach = { s.attach with
        railTimer := none
        rail := decide (s.attach.head = .seated) && !s.hold.railOff && s.running } ∧
      OnlyIn [.time, .attach] s t) ∧
  (s.attach.rail = true → 4000 < ma → s.hold.reasons.headShort = false →
    Answers (exec (.headRailShort ma) s) fun t =>
      t.time = s.time ∧ t.hold.reasons.headShort = true ∧ t.hold.railOff = true ∧ t.attach.rail = false ∧
        t.attach.railTimer = none ∧ t.attach.overdrawTimer = none ∧
      Logged .headShort s t ∧ t.attach.head = s.attach.head ∧ t.table = s.table ∧ CountersKept s t ∧
      ReadingsKept s.pack t.pack ∧ OnlyIn (.time :: consequent) s t) ∧
  ((s.attach.rail = false ∨ ma ≤ 4000 ∨ s.hold.reasons.headShort = true) →
    Answers (exec (.headRailShort ma) s) fun t =>
      t = s) ∧
  (s.attach.overdrawTimer = some d → s.hold.reasons.overdraw = false →
    Answers (exec .overdrawTimerExpiry s) fun t =>
      t.time = (runTo d s).time ∧ Raised .overdraw t ∧ t.attach.excess = false ∧ t.hold.reasons.overdraw = true ∧
        t.hold.railOff = true ∧ t.attach.rail = false ∧ t.attach.railTimer = none ∧ t.attach.overdrawTimer = none ∧
      Logged .overdraw s t ∧ t.attach.head = s.attach.head ∧ t.table = s.table ∧ CountersKept s t ∧
      ReadingsKept s.pack t.pack ∧ OnlyIn (.time :: consequent) s t) ∧
  (s.attach.overdrawTimer = some d → s.hold.reasons.overdraw = true →
    Answers (exec .overdrawTimerExpiry s) fun t =>
      t.time = (runTo d s).time ∧ Raised .overdraw t ∧
        t.attach = { s.attach with excess := false, overdrawTimer := none } ∧
      OnlyIn [.time, .attach, .line, .report] s t)

/-- The doze timer ends in SLEEP and the ship timer in SHIP, every block quieted; a TRIG edge or a break of
130 us to 2 ms wakes from SLEEP (R184, R185, R186, R187, R133, R163, R114). The clauses in which SLEEP_BREAK
or TRIG_EDGE changes nothing (notes/assumptions/1.md) and a release that no edge told, taken from the command
(notes/assumptions/15.md), are the model's choice; the wake by level within the same step
(notes/assumptions/20.md) and the pulse on the steady clock (notes/assumptions/29.md) are inferred. -/
def Obligations.SleepShipAndWake : Prop :=
  ∀ (s : State) (d : Nat) (e : Edge) (fell rose : Nat) (told : Option Nat),
  (s.power.dozeTimer = some d → s.pins.dockMv ≤ 5000 →
    Answers (exec .dozeTimerExpiry s) fun t =>
      t.time = (runTo d s).time ∧ t.power.shipTimer = s.power.shipTimer ∧ Asleep .sleep s t) ∧
  (s.power.dozeTimer = some d → 5000 < s.pins.dockMv →
    Answers (exec .dozeTimerExpiry s) fun t =>
      t.time = (runTo d s).time ∧ Woken t ∧ t.table = .reset) ∧
  (s.power.shipTimer = some d → s.pins.dockMv ≤ 5000 →
    Answers (exec .shipTimerExpiry s) fun t =>
      t.time = (runToSecond d s).time ∧ t.power.shipTimer = none ∧ Asleep .ship s t) ∧
  (s.power.shipTimer = some d → 5000 < s.pins.dockMv →
    Answers (exec .shipTimerExpiry s) fun t =>
      t.time = (runToSecond d s).time ∧ Woken t ∧ t.table = .reset) ∧
  (s.power.state = .sleep →
    (s.cfg.wakeEdge = .both ∨ s.cfg.wakeEdge = .falling ∧ e = .falling ∨ s.cfg.wakeEdge = .rising ∧ e = .rising) →
    Answers (exec (.trigEdge e) s) fun t =>
      Woken t ∧ t.time = s.time ∧ t.pins = s.pins ∧ t.loader = s.loader ∧
      t.line.dominantFrom = some (s.now - (match s.line.pulse with
        | some ⟨f, some x⟩ => if s.time.steady < x then s.time.steady - f else 0
        | _ => 0)) ∧
      (s.attach.head = .removed → s.pins.hd1High = false → s.pins.hd2High = false → t.attach.head = .settling)) ∧
  ((s.power.state ≠ .sleep ∨ s.cfg.wakeEdge = .falling ∧ e = .rising ∨ s.cfg.wakeEdge = .rising ∧ e = .falling) →
    Answers (exec (.trigEdge e) s) fun t =>
      t = s) ∧
  (s.power.state = .sleep → s.line.pulse = some ⟨fell, told⟩ → told.getD s.time.steady = rose → fell + 1040 ≤ rose →
    rose < fell + 16000 →
    Answers (exec .sleepBreak s) fun t =>
      Woken t ∧
      t.time = (runToSteady rose s).time ∧ t.now = s.now ∧ t.pins = s.pins ∧ t.loader = s.loader ∧
      t.line.dominantFrom = some s.now ∧ t.line.rx = s.line.rx ∧ t.flag .lineReset = s.flag .lineReset) ∧
  (s.line.pulse = some ⟨fell, told⟩ → told.getD s.time.steady = rose → (rose < fell + 1040 ∨ fell + 16000 ≤ rose) →
    Answers (exec .sleepBreak s) fun t =>
      t = s) ∧
  ((s.power.state ≠ .sleep ∨ s.line.pulse = none) →
    Answers (exec .sleepBreak s) fun t =>
      t = s)

/-- The expiry of a timer that does not run, the end of an attempt that does not stand, and a notice that does
not wait change nothing (R37, notes/assumptions/1.md). That such a command changes nothing is the model's
choice (notes/assumptions/1.md), and so is a handling without its notice (notes/assumptions/40.md). -/
def Obligations.NoTimerNoEffect : Prop :=
  ∀ (s : State) (c : Instr) (q : Int) (v : Byte),
  (s.pack.scanTimer = none → c = .scanTimerExpiry →
    Answers (exec c s) fun t =>
      t = s) ∧
  (s.pack.deliveryTimer = none → c = .chargeDelivery q →
    Answers (exec c s) fun t =>
      t = s) ∧
  (s.drive.alignTimer = none → c = .alignTimerExpiry →
    Answers (exec c s) fun t =>
      t = s) ∧
  (s.drive.forcedTimer = none → c = .forcedCommutation →
    Answers (exec c s) fun t =>
      t = s) ∧
  (s.drive.compare = none → c = .commutationCompareExpiry →
    Answers (exec c s) fun t =>
      t = s) ∧
  (s.drive.deadline = none → c = .missedCrossingDeadline →
    Answers (exec c s) fun t =>
      t = s) ∧
  (s.drive.rampTimer = none → c = .rampTimerExpiry →
    Answers (exec c s) fun t =>
      t = s) ∧
  (s.drive.controlTimer = none → c = .controlExpiry →
    Answers (exec c s) fun t =>
      t = s) ∧
  (s.drive.coastTimer = none → c = .coastTimerExpiry →
    Answers (exec c s) fun t =>
      t = s) ∧
  (s.dirt.sampleAt = none → c = .envelopeSample v →
    Answers (exec c s) fun t =>
      t = s) ∧
  (s.dirt.windowTimer = none → c = .windowExpiry →
    Answers (exec c s) fun t =>
      t = s) ∧
  (s.attach.settleTimer = none → c = .settleTimerExpiry →
    Answers (exec c s) fun t =>
      t = s) ∧
  (s.charge.resendTimer = none → c = .resendTimerExpiry →
    Answers (exec c s) fun t =>
      t = s) ∧
  (s.charge.echoTimer = none → c = .echoTimerExpiry →
    Answers (exec c s) fun t =>
      t = s) ∧
  (s.charge.regTimer = none → c = .regulationExpiry →
    Answers (exec c s) fun t =>
      t = s) ∧
  (s.charge.termination.since = none → c = .terminationTimerExpiry →
    Answers (exec c s) fun t =>
      t = s) ∧
  (s.charge.precharge.since = none → c = .prechargeTimerExpiry →
    Answers (exec c s) fun t =>
      t = s) ∧
  (s.charge.total.since = none → c = .totalTimerExpiry →
    Answers (exec c s) fun t =>
      t = s) ∧
  (s.line.attempt = none → c = .headerLoss →
    Answers (exec c s) fun t =>
      t = s) ∧
  (s.line.attempt = none → c = .bitError →
    Answers (exec c s) fun t =>
      t = s) ∧
  (s.line.attempt = none → c = .attemptCompletion →
    Answers (exec c s) fun t =>
      t = s) ∧
  (s.report.shipPending = none → c = .shipOrderTimeout →
    Answers (exec c s) fun t =>
      t = s) ∧
  (s.line.ownBreak = none → c = .ownBreakRelease →
    Answers (exec c s) fun t =>
      t = s) ∧
  (s.line.conflict = none → c = .conflictTimerExpiry →
    Answers (exec c s) fun t =>
      t = s) ∧
  (s.line.stateCadence = none → c = .stateCadenceExpiry →
    Answers (exec c s) fun t =>
      t = s) ∧
  (s.line.lastStatePut = none → c = .holdoffExpiry →
    Answers (exec c s) fun t =>
      t = s) ∧
  (s.line.holdCadence = none → c = .holdCadenceExpiry →
    Answers (exec c s) fun t =>
      t = s) ∧
  (s.attach.seatTimer = none → c = .seatTimerExpiry →
    Answers (exec c s) fun t =>
      t = s) ∧
  (s.attach.railTimer = none → c = .railOnTimerExpiry →
    Answers (exec c s) fun t =>
      t = s) ∧
  (s.attach.overdrawTimer = none → c = .overdrawTimerExpiry →
    Answers (exec c s) fun t =>
      t = s) ∧
  (s.power.dozeTimer = none → c = .dozeTimerExpiry →
    Answers (exec c s) fun t =>
      t = s) ∧
  (s.power.shipTimer = none → c = .shipTimerExpiry →
    Answers (exec c s) fun t =>
      t = s) ∧
  ((s.running = false ∨ s.line.rx = []) →
    c ∈ [Instr.hold, .request, .supply, .draw, .headDirt, .otherClassNotice, .ident, .runs,
      .modeTime, .chargeCounts, .cellsA, .cellsB, .fault, .sample, .holds, .table, .masterOn, .masterOff, .clearHistory, .ship, .unknownItem] →
    Answers (exec c s) fun t =>
      t = s) ∧
  (s.mayIdle = false → c = .lineIdle →
    Answers (exec c s) fun t =>
      t = s) ∧
  (s.mayTakeBreak = false → c = .breakTaken →
    Answers (exec c s) fun t =>
      t = s)
end

