-- ==== Sys2Proof/Laws/State.lean ====
section
/-! SUPPORT. One lemma for each block under each change of one block. -/

namespace Sys2Proof.Machine

/-! ### onTime -/

@[simp] theorem onTime_time (g : Timebase → Timebase) (s : State) : (s.onTime g).time = g s.time := rfl
@[simp] theorem onTime_pins (g : Timebase → Timebase) (s : State) : (s.onTime g).pins = s.pins := rfl
@[simp] theorem onTime_loader (g : Timebase → Timebase) (s : State) : (s.onTime g).loader = s.loader := rfl
@[simp] theorem onTime_pack (g : Timebase → Timebase) (s : State) : (s.onTime g).pack = s.pack := rfl
@[simp] theorem onTime_allow (g : Timebase → Timebase) (s : State) : (s.onTime g).allow = s.allow := rfl
@[simp] theorem onTime_drive (g : Timebase → Timebase) (s : State) : (s.onTime g).drive = s.drive := rfl
@[simp] theorem onTime_dirt (g : Timebase → Timebase) (s : State) : (s.onTime g).dirt = s.dirt := rfl
@[simp] theorem onTime_charge (g : Timebase → Timebase) (s : State) : (s.onTime g).charge = s.charge := rfl
@[simp] theorem onTime_line (g : Timebase → Timebase) (s : State) : (s.onTime g).line = s.line := rfl
@[simp] theorem onTime_table (g : Timebase → Timebase) (s : State) : (s.onTime g).table = s.table := rfl
@[simp] theorem onTime_report (g : Timebase → Timebase) (s : State) : (s.onTime g).report = s.report := rfl
@[simp] theorem onTime_hold (g : Timebase → Timebase) (s : State) : (s.onTime g).hold = s.hold := rfl
@[simp] theorem onTime_attach (g : Timebase → Timebase) (s : State) : (s.onTime g).attach = s.attach := rfl
@[simp] theorem onTime_power (g : Timebase → Timebase) (s : State) : (s.onTime g).power = s.power := rfl
@[simp] theorem onTime_free (g : Timebase → Timebase) (s : State) : (s.onTime g).free = s.free := rfl
@[simp] theorem onTime_pending (g : Timebase → Timebase) (s : State) : (s.onTime g).pending = s.pending := rfl

/-! ### onPins -/

@[simp] theorem onPins_time (g : Pins → Pins) (s : State) : (s.onPins g).time = s.time := rfl
@[simp] theorem onPins_pins (g : Pins → Pins) (s : State) : (s.onPins g).pins = g s.pins := rfl
@[simp] theorem onPins_loader (g : Pins → Pins) (s : State) : (s.onPins g).loader = s.loader := rfl
@[simp] theorem onPins_pack (g : Pins → Pins) (s : State) : (s.onPins g).pack = s.pack := rfl
@[simp] theorem onPins_allow (g : Pins → Pins) (s : State) : (s.onPins g).allow = s.allow := rfl
@[simp] theorem onPins_drive (g : Pins → Pins) (s : State) : (s.onPins g).drive = s.drive := rfl
@[simp] theorem onPins_dirt (g : Pins → Pins) (s : State) : (s.onPins g).dirt = s.dirt := rfl
@[simp] theorem onPins_charge (g : Pins → Pins) (s : State) : (s.onPins g).charge = s.charge := rfl
@[simp] theorem onPins_line (g : Pins → Pins) (s : State) : (s.onPins g).line = s.line := rfl
@[simp] theorem onPins_table (g : Pins → Pins) (s : State) : (s.onPins g).table = s.table := rfl
@[simp] theorem onPins_report (g : Pins → Pins) (s : State) : (s.onPins g).report = s.report := rfl
@[simp] theorem onPins_hold (g : Pins → Pins) (s : State) : (s.onPins g).hold = s.hold := rfl
@[simp] theorem onPins_attach (g : Pins → Pins) (s : State) : (s.onPins g).attach = s.attach := rfl
@[simp] theorem onPins_power (g : Pins → Pins) (s : State) : (s.onPins g).power = s.power := rfl
@[simp] theorem onPins_free (g : Pins → Pins) (s : State) : (s.onPins g).free = s.free := rfl
@[simp] theorem onPins_pending (g : Pins → Pins) (s : State) : (s.onPins g).pending = s.pending := rfl

/-! ### onLoader -/

@[simp] theorem onLoader_time (g : Loader → Loader) (s : State) : (s.onLoader g).time = s.time := rfl
@[simp] theorem onLoader_pins (g : Loader → Loader) (s : State) : (s.onLoader g).pins = s.pins := rfl
@[simp] theorem onLoader_loader (g : Loader → Loader) (s : State) : (s.onLoader g).loader = g s.loader := rfl
@[simp] theorem onLoader_pack (g : Loader → Loader) (s : State) : (s.onLoader g).pack = s.pack := rfl
@[simp] theorem onLoader_allow (g : Loader → Loader) (s : State) : (s.onLoader g).allow = s.allow := rfl
@[simp] theorem onLoader_drive (g : Loader → Loader) (s : State) : (s.onLoader g).drive = s.drive := rfl
@[simp] theorem onLoader_dirt (g : Loader → Loader) (s : State) : (s.onLoader g).dirt = s.dirt := rfl
@[simp] theorem onLoader_charge (g : Loader → Loader) (s : State) : (s.onLoader g).charge = s.charge := rfl
@[simp] theorem onLoader_line (g : Loader → Loader) (s : State) : (s.onLoader g).line = s.line := rfl
@[simp] theorem onLoader_table (g : Loader → Loader) (s : State) : (s.onLoader g).table = s.table := rfl
@[simp] theorem onLoader_report (g : Loader → Loader) (s : State) : (s.onLoader g).report = s.report := rfl
@[simp] theorem onLoader_hold (g : Loader → Loader) (s : State) : (s.onLoader g).hold = s.hold := rfl
@[simp] theorem onLoader_attach (g : Loader → Loader) (s : State) : (s.onLoader g).attach = s.attach := rfl
@[simp] theorem onLoader_power (g : Loader → Loader) (s : State) : (s.onLoader g).power = s.power := rfl
@[simp] theorem onLoader_free (g : Loader → Loader) (s : State) : (s.onLoader g).free = s.free := rfl
@[simp] theorem onLoader_pending (g : Loader → Loader) (s : State) : (s.onLoader g).pending = s.pending := rfl

/-! ### onPack -/

@[simp] theorem onPack_time (g : Pack → Pack) (s : State) : (s.onPack g).time = s.time := rfl
@[simp] theorem onPack_pins (g : Pack → Pack) (s : State) : (s.onPack g).pins = s.pins := rfl
@[simp] theorem onPack_loader (g : Pack → Pack) (s : State) : (s.onPack g).loader = s.loader := rfl
@[simp] theorem onPack_pack (g : Pack → Pack) (s : State) : (s.onPack g).pack = g s.pack := rfl
@[simp] theorem onPack_allow (g : Pack → Pack) (s : State) : (s.onPack g).allow = s.allow := rfl
@[simp] theorem onPack_drive (g : Pack → Pack) (s : State) : (s.onPack g).drive = s.drive := rfl
@[simp] theorem onPack_dirt (g : Pack → Pack) (s : State) : (s.onPack g).dirt = s.dirt := rfl
@[simp] theorem onPack_charge (g : Pack → Pack) (s : State) : (s.onPack g).charge = s.charge := rfl
@[simp] theorem onPack_line (g : Pack → Pack) (s : State) : (s.onPack g).line = s.line := rfl
@[simp] theorem onPack_table (g : Pack → Pack) (s : State) : (s.onPack g).table = s.table := rfl
@[simp] theorem onPack_report (g : Pack → Pack) (s : State) : (s.onPack g).report = s.report := rfl
@[simp] theorem onPack_hold (g : Pack → Pack) (s : State) : (s.onPack g).hold = s.hold := rfl
@[simp] theorem onPack_attach (g : Pack → Pack) (s : State) : (s.onPack g).attach = s.attach := rfl
@[simp] theorem onPack_power (g : Pack → Pack) (s : State) : (s.onPack g).power = s.power := rfl
@[simp] theorem onPack_free (g : Pack → Pack) (s : State) : (s.onPack g).free = s.free := rfl
@[simp] theorem onPack_pending (g : Pack → Pack) (s : State) : (s.onPack g).pending = s.pending := rfl

/-! ### onAllow -/

@[simp] theorem onAllow_time (g : Allowance → Allowance) (s : State) : (s.onAllow g).time = s.time := rfl
@[simp] theorem onAllow_pins (g : Allowance → Allowance) (s : State) : (s.onAllow g).pins = s.pins := rfl
@[simp] theorem onAllow_loader (g : Allowance → Allowance) (s : State) : (s.onAllow g).loader = s.loader := rfl
@[simp] theorem onAllow_pack (g : Allowance → Allowance) (s : State) : (s.onAllow g).pack = s.pack := rfl
@[simp] theorem onAllow_allow (g : Allowance → Allowance) (s : State) : (s.onAllow g).allow = g s.allow := rfl
@[simp] theorem onAllow_drive (g : Allowance → Allowance) (s : State) : (s.onAllow g).drive = s.drive := rfl
@[simp] theorem onAllow_dirt (g : Allowance → Allowance) (s : State) : (s.onAllow g).dirt = s.dirt := rfl
@[simp] theorem onAllow_charge (g : Allowance → Allowance) (s : State) : (s.onAllow g).charge = s.charge := rfl
@[simp] theorem onAllow_line (g : Allowance → Allowance) (s : State) : (s.onAllow g).line = s.line := rfl
@[simp] theorem onAllow_table (g : Allowance → Allowance) (s : State) : (s.onAllow g).table = s.table := rfl
@[simp] theorem onAllow_report (g : Allowance → Allowance) (s : State) : (s.onAllow g).report = s.report := rfl
@[simp] theorem onAllow_hold (g : Allowance → Allowance) (s : State) : (s.onAllow g).hold = s.hold := rfl
@[simp] theorem onAllow_attach (g : Allowance → Allowance) (s : State) : (s.onAllow g).attach = s.attach := rfl
@[simp] theorem onAllow_power (g : Allowance → Allowance) (s : State) : (s.onAllow g).power = s.power := rfl
@[simp] theorem onAllow_free (g : Allowance → Allowance) (s : State) : (s.onAllow g).free = s.free := rfl
@[simp] theorem onAllow_pending (g : Allowance → Allowance) (s : State) : (s.onAllow g).pending = s.pending := rfl

/-! ### onDrive -/

@[simp] theorem onDrive_time (g : Drive → Drive) (s : State) : (s.onDrive g).time = s.time := rfl
@[simp] theorem onDrive_pins (g : Drive → Drive) (s : State) : (s.onDrive g).pins = s.pins := rfl
@[simp] theorem onDrive_loader (g : Drive → Drive) (s : State) : (s.onDrive g).loader = s.loader := rfl
@[simp] theorem onDrive_pack (g : Drive → Drive) (s : State) : (s.onDrive g).pack = s.pack := rfl
@[simp] theorem onDrive_allow (g : Drive → Drive) (s : State) : (s.onDrive g).allow = s.allow := rfl
@[simp] theorem onDrive_drive (g : Drive → Drive) (s : State) : (s.onDrive g).drive = g s.drive := rfl
@[simp] theorem onDrive_dirt (g : Drive → Drive) (s : State) : (s.onDrive g).dirt = s.dirt := rfl
@[simp] theorem onDrive_charge (g : Drive → Drive) (s : State) : (s.onDrive g).charge = s.charge := rfl
@[simp] theorem onDrive_line (g : Drive → Drive) (s : State) : (s.onDrive g).line = s.line := rfl
@[simp] theorem onDrive_table (g : Drive → Drive) (s : State) : (s.onDrive g).table = s.table := rfl
@[simp] theorem onDrive_report (g : Drive → Drive) (s : State) : (s.onDrive g).report = s.report := rfl
@[simp] theorem onDrive_hold (g : Drive → Drive) (s : State) : (s.onDrive g).hold = s.hold := rfl
@[simp] theorem onDrive_attach (g : Drive → Drive) (s : State) : (s.onDrive g).attach = s.attach := rfl
@[simp] theorem onDrive_power (g : Drive → Drive) (s : State) : (s.onDrive g).power = s.power := rfl
@[simp] theorem onDrive_free (g : Drive → Drive) (s : State) : (s.onDrive g).free = s.free := rfl
@[simp] theorem onDrive_pending (g : Drive → Drive) (s : State) : (s.onDrive g).pending = s.pending := rfl

/-! ### onDirt -/

@[simp] theorem onDirt_time (g : Dirt → Dirt) (s : State) : (s.onDirt g).time = s.time := rfl
@[simp] theorem onDirt_pins (g : Dirt → Dirt) (s : State) : (s.onDirt g).pins = s.pins := rfl
@[simp] theorem onDirt_loader (g : Dirt → Dirt) (s : State) : (s.onDirt g).loader = s.loader := rfl
@[simp] theorem onDirt_pack (g : Dirt → Dirt) (s : State) : (s.onDirt g).pack = s.pack := rfl
@[simp] theorem onDirt_allow (g : Dirt → Dirt) (s : State) : (s.onDirt g).allow = s.allow := rfl
@[simp] theorem onDirt_drive (g : Dirt → Dirt) (s : State) : (s.onDirt g).drive = s.drive := rfl
@[simp] theorem onDirt_dirt (g : Dirt → Dirt) (s : State) : (s.onDirt g).dirt = g s.dirt := rfl
@[simp] theorem onDirt_charge (g : Dirt → Dirt) (s : State) : (s.onDirt g).charge = s.charge := rfl
@[simp] theorem onDirt_line (g : Dirt → Dirt) (s : State) : (s.onDirt g).line = s.line := rfl
@[simp] theorem onDirt_table (g : Dirt → Dirt) (s : State) : (s.onDirt g).table = s.table := rfl
@[simp] theorem onDirt_report (g : Dirt → Dirt) (s : State) : (s.onDirt g).report = s.report := rfl
@[simp] theorem onDirt_hold (g : Dirt → Dirt) (s : State) : (s.onDirt g).hold = s.hold := rfl
@[simp] theorem onDirt_attach (g : Dirt → Dirt) (s : State) : (s.onDirt g).attach = s.attach := rfl
@[simp] theorem onDirt_power (g : Dirt → Dirt) (s : State) : (s.onDirt g).power = s.power := rfl
@[simp] theorem onDirt_free (g : Dirt → Dirt) (s : State) : (s.onDirt g).free = s.free := rfl
@[simp] theorem onDirt_pending (g : Dirt → Dirt) (s : State) : (s.onDirt g).pending = s.pending := rfl

/-! ### onCharge -/

@[simp] theorem onCharge_time (g : Charge → Charge) (s : State) : (s.onCharge g).time = s.time := rfl
@[simp] theorem onCharge_pins (g : Charge → Charge) (s : State) : (s.onCharge g).pins = s.pins := rfl
@[simp] theorem onCharge_loader (g : Charge → Charge) (s : State) : (s.onCharge g).loader = s.loader := rfl
@[simp] theorem onCharge_pack (g : Charge → Charge) (s : State) : (s.onCharge g).pack = s.pack := rfl
@[simp] theorem onCharge_allow (g : Charge → Charge) (s : State) : (s.onCharge g).allow = s.allow := rfl
@[simp] theorem onCharge_drive (g : Charge → Charge) (s : State) : (s.onCharge g).drive = s.drive := rfl
@[simp] theorem onCharge_dirt (g : Charge → Charge) (s : State) : (s.onCharge g).dirt = s.dirt := rfl
@[simp] theorem onCharge_charge (g : Charge → Charge) (s : State) : (s.onCharge g).charge = g s.charge := rfl
@[simp] theorem onCharge_line (g : Charge → Charge) (s : State) : (s.onCharge g).line = s.line := rfl
@[simp] theorem onCharge_table (g : Charge → Charge) (s : State) : (s.onCharge g).table = s.table := rfl
@[simp] theorem onCharge_report (g : Charge → Charge) (s : State) : (s.onCharge g).report = s.report := rfl
@[simp] theorem onCharge_hold (g : Charge → Charge) (s : State) : (s.onCharge g).hold = s.hold := rfl
@[simp] theorem onCharge_attach (g : Charge → Charge) (s : State) : (s.onCharge g).attach = s.attach := rfl
@[simp] theorem onCharge_power (g : Charge → Charge) (s : State) : (s.onCharge g).power = s.power := rfl
@[simp] theorem onCharge_free (g : Charge → Charge) (s : State) : (s.onCharge g).free = s.free := rfl
@[simp] theorem onCharge_pending (g : Charge → Charge) (s : State) : (s.onCharge g).pending = s.pending := rfl

/-! ### onLine -/

@[simp] theorem onLine_time (g : Line → Line) (s : State) : (s.onLine g).time = s.time := rfl
@[simp] theorem onLine_pins (g : Line → Line) (s : State) : (s.onLine g).pins = s.pins := rfl
@[simp] theorem onLine_loader (g : Line → Line) (s : State) : (s.onLine g).loader = s.loader := rfl
@[simp] theorem onLine_pack (g : Line → Line) (s : State) : (s.onLine g).pack = s.pack := rfl
@[simp] theorem onLine_allow (g : Line → Line) (s : State) : (s.onLine g).allow = s.allow := rfl
@[simp] theorem onLine_drive (g : Line → Line) (s : State) : (s.onLine g).drive = s.drive := rfl
@[simp] theorem onLine_dirt (g : Line → Line) (s : State) : (s.onLine g).dirt = s.dirt := rfl
@[simp] theorem onLine_charge (g : Line → Line) (s : State) : (s.onLine g).charge = s.charge := rfl
@[simp] theorem onLine_line (g : Line → Line) (s : State) : (s.onLine g).line = g s.line := rfl
@[simp] theorem onLine_table (g : Line → Line) (s : State) : (s.onLine g).table = s.table := rfl
@[simp] theorem onLine_report (g : Line → Line) (s : State) : (s.onLine g).report = s.report := rfl
@[simp] theorem onLine_hold (g : Line → Line) (s : State) : (s.onLine g).hold = s.hold := rfl
@[simp] theorem onLine_attach (g : Line → Line) (s : State) : (s.onLine g).attach = s.attach := rfl
@[simp] theorem onLine_power (g : Line → Line) (s : State) : (s.onLine g).power = s.power := rfl
@[simp] theorem onLine_free (g : Line → Line) (s : State) : (s.onLine g).free = s.free := rfl
@[simp] theorem onLine_pending (g : Line → Line) (s : State) : (s.onLine g).pending = s.pending := rfl

/-! ### onTable -/

@[simp] theorem onTable_time (g : Table → Table) (s : State) : (s.onTable g).time = s.time := rfl
@[simp] theorem onTable_pins (g : Table → Table) (s : State) : (s.onTable g).pins = s.pins := rfl
@[simp] theorem onTable_loader (g : Table → Table) (s : State) : (s.onTable g).loader = s.loader := rfl
@[simp] theorem onTable_pack (g : Table → Table) (s : State) : (s.onTable g).pack = s.pack := rfl
@[simp] theorem onTable_allow (g : Table → Table) (s : State) : (s.onTable g).allow = s.allow := rfl
@[simp] theorem onTable_drive (g : Table → Table) (s : State) : (s.onTable g).drive = s.drive := rfl
@[simp] theorem onTable_dirt (g : Table → Table) (s : State) : (s.onTable g).dirt = s.dirt := rfl
@[simp] theorem onTable_charge (g : Table → Table) (s : State) : (s.onTable g).charge = s.charge := rfl
@[simp] theorem onTable_line (g : Table → Table) (s : State) : (s.onTable g).line = s.line := rfl
@[simp] theorem onTable_table (g : Table → Table) (s : State) : (s.onTable g).table = g s.table := rfl
@[simp] theorem onTable_report (g : Table → Table) (s : State) : (s.onTable g).report = s.report := rfl
@[simp] theorem onTable_hold (g : Table → Table) (s : State) : (s.onTable g).hold = s.hold := rfl
@[simp] theorem onTable_attach (g : Table → Table) (s : State) : (s.onTable g).attach = s.attach := rfl
@[simp] theorem onTable_power (g : Table → Table) (s : State) : (s.onTable g).power = s.power := rfl
@[simp] theorem onTable_free (g : Table → Table) (s : State) : (s.onTable g).free = s.free := rfl
@[simp] theorem onTable_pending (g : Table → Table) (s : State) : (s.onTable g).pending = s.pending := rfl

/-! ### onReport -/

@[simp] theorem onReport_time (g : Report → Report) (s : State) : (s.onReport g).time = s.time := rfl
@[simp] theorem onReport_pins (g : Report → Report) (s : State) : (s.onReport g).pins = s.pins := rfl
@[simp] theorem onReport_loader (g : Report → Report) (s : State) : (s.onReport g).loader = s.loader := rfl
@[simp] theorem onReport_pack (g : Report → Report) (s : State) : (s.onReport g).pack = s.pack := rfl
@[simp] theorem onReport_allow (g : Report → Report) (s : State) : (s.onReport g).allow = s.allow := rfl
@[simp] theorem onReport_drive (g : Report → Report) (s : State) : (s.onReport g).drive = s.drive := rfl
@[simp] theorem onReport_dirt (g : Report → Report) (s : State) : (s.onReport g).dirt = s.dirt := rfl
@[simp] theorem onReport_charge (g : Report → Report) (s : State) : (s.onReport g).charge = s.charge := rfl
@[simp] theorem onReport_line (g : Report → Report) (s : State) : (s.onReport g).line = s.line := rfl
@[simp] theorem onReport_table (g : Report → Report) (s : State) : (s.onReport g).table = s.table := rfl
@[simp] theorem onReport_report (g : Report → Report) (s : State) : (s.onReport g).report = g s.report := rfl
@[simp] theorem onReport_hold (g : Report → Report) (s : State) : (s.onReport g).hold = s.hold := rfl
@[simp] theorem onReport_attach (g : Report → Report) (s : State) : (s.onReport g).attach = s.attach := rfl
@[simp] theorem onReport_power (g : Report → Report) (s : State) : (s.onReport g).power = s.power := rfl
@[simp] theorem onReport_free (g : Report → Report) (s : State) : (s.onReport g).free = s.free := rfl
@[simp] theorem onReport_pending (g : Report → Report) (s : State) : (s.onReport g).pending = s.pending := rfl

/-! ### onHold -/

@[simp] theorem onHold_time (g : Hold → Hold) (s : State) : (s.onHold g).time = s.time := rfl
@[simp] theorem onHold_pins (g : Hold → Hold) (s : State) : (s.onHold g).pins = s.pins := rfl
@[simp] theorem onHold_loader (g : Hold → Hold) (s : State) : (s.onHold g).loader = s.loader := rfl
@[simp] theorem onHold_pack (g : Hold → Hold) (s : State) : (s.onHold g).pack = s.pack := rfl
@[simp] theorem onHold_allow (g : Hold → Hold) (s : State) : (s.onHold g).allow = s.allow := rfl
@[simp] theorem onHold_drive (g : Hold → Hold) (s : State) : (s.onHold g).drive = s.drive := rfl
@[simp] theorem onHold_dirt (g : Hold → Hold) (s : State) : (s.onHold g).dirt = s.dirt := rfl
@[simp] theorem onHold_charge (g : Hold → Hold) (s : State) : (s.onHold g).charge = s.charge := rfl
@[simp] theorem onHold_line (g : Hold → Hold) (s : State) : (s.onHold g).line = s.line := rfl
@[simp] theorem onHold_table (g : Hold → Hold) (s : State) : (s.onHold g).table = s.table := rfl
@[simp] theorem onHold_report (g : Hold → Hold) (s : State) : (s.onHold g).report = s.report := rfl
@[simp] theorem onHold_hold (g : Hold → Hold) (s : State) : (s.onHold g).hold = g s.hold := rfl
@[simp] theorem onHold_attach (g : Hold → Hold) (s : State) : (s.onHold g).attach = s.attach := rfl
@[simp] theorem onHold_power (g : Hold → Hold) (s : State) : (s.onHold g).power = s.power := rfl
@[simp] theorem onHold_free (g : Hold → Hold) (s : State) : (s.onHold g).free = s.free := rfl
@[simp] theorem onHold_pending (g : Hold → Hold) (s : State) : (s.onHold g).pending = s.pending := rfl

/-! ### onAttach -/

@[simp] theorem onAttach_time (g : Attach → Attach) (s : State) : (s.onAttach g).time = s.time := rfl
@[simp] theorem onAttach_pins (g : Attach → Attach) (s : State) : (s.onAttach g).pins = s.pins := rfl
@[simp] theorem onAttach_loader (g : Attach → Attach) (s : State) : (s.onAttach g).loader = s.loader := rfl
@[simp] theorem onAttach_pack (g : Attach → Attach) (s : State) : (s.onAttach g).pack = s.pack := rfl
@[simp] theorem onAttach_allow (g : Attach → Attach) (s : State) : (s.onAttach g).allow = s.allow := rfl
@[simp] theorem onAttach_drive (g : Attach → Attach) (s : State) : (s.onAttach g).drive = s.drive := rfl
@[simp] theorem onAttach_dirt (g : Attach → Attach) (s : State) : (s.onAttach g).dirt = s.dirt := rfl
@[simp] theorem onAttach_charge (g : Attach → Attach) (s : State) : (s.onAttach g).charge = s.charge := rfl
@[simp] theorem onAttach_line (g : Attach → Attach) (s : State) : (s.onAttach g).line = s.line := rfl
@[simp] theorem onAttach_table (g : Attach → Attach) (s : State) : (s.onAttach g).table = s.table := rfl
@[simp] theorem onAttach_report (g : Attach → Attach) (s : State) : (s.onAttach g).report = s.report := rfl
@[simp] theorem onAttach_hold (g : Attach → Attach) (s : State) : (s.onAttach g).hold = s.hold := rfl
@[simp] theorem onAttach_attach (g : Attach → Attach) (s : State) : (s.onAttach g).attach = g s.attach := rfl
@[simp] theorem onAttach_power (g : Attach → Attach) (s : State) : (s.onAttach g).power = s.power := rfl
@[simp] theorem onAttach_free (g : Attach → Attach) (s : State) : (s.onAttach g).free = s.free := rfl
@[simp] theorem onAttach_pending (g : Attach → Attach) (s : State) : (s.onAttach g).pending = s.pending := rfl

/-! ### onPower -/

@[simp] theorem onPower_time (g : Power → Power) (s : State) : (s.onPower g).time = s.time := rfl
@[simp] theorem onPower_pins (g : Power → Power) (s : State) : (s.onPower g).pins = s.pins := rfl
@[simp] theorem onPower_loader (g : Power → Power) (s : State) : (s.onPower g).loader = s.loader := rfl
@[simp] theorem onPower_pack (g : Power → Power) (s : State) : (s.onPower g).pack = s.pack := rfl
@[simp] theorem onPower_allow (g : Power → Power) (s : State) : (s.onPower g).allow = s.allow := rfl
@[simp] theorem onPower_drive (g : Power → Power) (s : State) : (s.onPower g).drive = s.drive := rfl
@[simp] theorem onPower_dirt (g : Power → Power) (s : State) : (s.onPower g).dirt = s.dirt := rfl
@[simp] theorem onPower_charge (g : Power → Power) (s : State) : (s.onPower g).charge = s.charge := rfl
@[simp] theorem onPower_line (g : Power → Power) (s : State) : (s.onPower g).line = s.line := rfl
@[simp] theorem onPower_table (g : Power → Power) (s : State) : (s.onPower g).table = s.table := rfl
@[simp] theorem onPower_report (g : Power → Power) (s : State) : (s.onPower g).report = s.report := rfl
@[simp] theorem onPower_hold (g : Power → Power) (s : State) : (s.onPower g).hold = s.hold := rfl
@[simp] theorem onPower_attach (g : Power → Power) (s : State) : (s.onPower g).attach = s.attach := rfl
@[simp] theorem onPower_power (g : Power → Power) (s : State) : (s.onPower g).power = g s.power := rfl
@[simp] theorem onPower_free (g : Power → Power) (s : State) : (s.onPower g).free = s.free := rfl
@[simp] theorem onPower_pending (g : Power → Power) (s : State) : (s.onPower g).pending = s.pending := rfl

end Sys2Proof.Machine
end

