-- ==== Sys2Proof/Laws/Frames.lean ====
section
/-! SUPPORT. For each shared operation, the blocks it leaves unchanged. -/

namespace Sys2Proof.Machine

@[simp] theorem elapse_frame (n : Nat) (s : State) :
    (elapse n s).pins = s.pins ∧ (elapse n s).loader = s.loader ∧ (elapse n s).pack = s.pack ∧
    (elapse n s).allow = s.allow ∧ (elapse n s).drive = s.drive ∧ (elapse n s).dirt = s.dirt ∧
    (elapse n s).charge = s.charge ∧ (elapse n s).line = s.line ∧ (elapse n s).table = s.table ∧
    (elapse n s).report = s.report ∧ (elapse n s).hold = s.hold ∧ (elapse n s).attach = s.attach ∧
    (elapse n s).power = s.power ∧ (elapse n s).free = s.free ∧ (elapse n s).pending = s.pending := by
  unfold elapse
  (repeat' split) <;> simp

@[simp] theorem runTo_frame (n : Nat) (s : State) :
    (runTo n s).pins = s.pins ∧ (runTo n s).loader = s.loader ∧ (runTo n s).pack = s.pack ∧
    (runTo n s).allow = s.allow ∧ (runTo n s).drive = s.drive ∧ (runTo n s).dirt = s.dirt ∧
    (runTo n s).charge = s.charge ∧ (runTo n s).line = s.line ∧ (runTo n s).table = s.table ∧
    (runTo n s).report = s.report ∧ (runTo n s).hold = s.hold ∧ (runTo n s).attach = s.attach ∧
    (runTo n s).power = s.power ∧ (runTo n s).free = s.free ∧ (runTo n s).pending = s.pending := by
  unfold runTo
  (repeat' split) <;> simp

@[simp] theorem runToSecond_frame (n : Nat) (s : State) :
    (runToSecond n s).pins = s.pins ∧ (runToSecond n s).loader = s.loader ∧ (runToSecond n s).pack = s.pack ∧
    (runToSecond n s).allow = s.allow ∧ (runToSecond n s).drive = s.drive ∧ (runToSecond n s).dirt = s.dirt ∧
    (runToSecond n s).charge = s.charge ∧ (runToSecond n s).line = s.line ∧ (runToSecond n s).table = s.table ∧
    (runToSecond n s).report = s.report ∧ (runToSecond n s).hold = s.hold ∧ (runToSecond n s).attach = s.attach ∧
    (runToSecond n s).power = s.power ∧ (runToSecond n s).free = s.free ∧
    (runToSecond n s).pending = s.pending := by
  unfold runToSecond
  (repeat' split) <;> simp

@[simp] theorem setQ_frame (n : Nat) (s : State) :
    (setQ n s).time = s.time ∧ (setQ n s).pins = s.pins ∧ (setQ n s).loader = s.loader ∧
    (setQ n s).allow = s.allow ∧ (setQ n s).drive = s.drive ∧ (setQ n s).dirt = s.dirt ∧
    (setQ n s).charge = s.charge ∧ (setQ n s).line = s.line ∧ (setQ n s).table = s.table ∧
    (setQ n s).report = s.report ∧ (setQ n s).hold = s.hold ∧ (setQ n s).attach = s.attach ∧
    (setQ n s).power = s.power ∧ (setQ n s).free = s.free ∧ (setQ n s).pending = s.pending := by
  unfold setQ
  simp

@[simp] theorem openBleeds_frame (s : State) :
    (openBleeds s).time = s.time ∧ (openBleeds s).pins = s.pins ∧ (openBleeds s).loader = s.loader ∧
    (openBleeds s).allow = s.allow ∧ (openBleeds s).drive = s.drive ∧ (openBleeds s).dirt = s.dirt ∧
    (openBleeds s).charge = s.charge ∧ (openBleeds s).line = s.line ∧ (openBleeds s).table = s.table ∧
    (openBleeds s).report = s.report ∧ (openBleeds s).hold = s.hold ∧ (openBleeds s).attach = s.attach ∧
    (openBleeds s).power = s.power ∧ (openBleeds s).free = s.free ∧ (openBleeds s).pending = s.pending := by
  unfold openBleeds
  simp

@[simp] theorem pushHistory_frame (k : FaultKind) (s : State) :
    (pushHistory k s).time = s.time ∧ (pushHistory k s).pins = s.pins ∧ (pushHistory k s).loader = s.loader ∧
    (pushHistory k s).pack = s.pack ∧ (pushHistory k s).allow = s.allow ∧ (pushHistory k s).drive = s.drive ∧
    (pushHistory k s).dirt = s.dirt ∧ (pushHistory k s).charge = s.charge ∧ (pushHistory k s).line = s.line ∧
    (pushHistory k s).table = s.table ∧ (pushHistory k s).report = s.report ∧ (pushHistory k s).attach = s.attach ∧
    (pushHistory k s).power = s.power ∧ (pushHistory k s).free = s.free ∧
    (pushHistory k s).pending = s.pending := by
  unfold pushHistory
  simp

@[simp] theorem putSlot_frame (i : SlotId) (w : List Byte) (s : State) :
    (putSlot i w s).time = s.time ∧ (putSlot i w s).pins = s.pins ∧ (putSlot i w s).loader = s.loader ∧
    (putSlot i w s).pack = s.pack ∧ (putSlot i w s).allow = s.allow ∧ (putSlot i w s).drive = s.drive ∧
    (putSlot i w s).dirt = s.dirt ∧ (putSlot i w s).charge = s.charge ∧ (putSlot i w s).table = s.table ∧
    (putSlot i w s).report = s.report ∧ (putSlot i w s).hold = s.hold ∧ (putSlot i w s).attach = s.attach ∧
    (putSlot i w s).power = s.power ∧ (putSlot i w s).free = s.free ∧ (putSlot i w s).pending = s.pending := by
  unfold putSlot
  simp

@[simp] theorem putState_frame (s : State) :
    (putState s).time = s.time ∧ (putState s).pins = s.pins ∧ (putState s).loader = s.loader ∧
    (putState s).pack = s.pack ∧ (putState s).allow = s.allow ∧ (putState s).drive = s.drive ∧
    (putState s).dirt = s.dirt ∧ (putState s).charge = s.charge ∧ (putState s).table = s.table ∧
    (putState s).report = s.report ∧ (putState s).hold = s.hold ∧ (putState s).attach = s.attach ∧
    (putState s).power = s.power ∧ (putState s).free = s.free ∧ (putState s).pending = s.pending := by
  unfold putState
  simp

@[simp] theorem contentChange_frame (s : State) :
    (contentChange s).time = s.time ∧ (contentChange s).pins = s.pins ∧ (contentChange s).loader = s.loader ∧
    (contentChange s).pack = s.pack ∧ (contentChange s).allow = s.allow ∧ (contentChange s).drive = s.drive ∧
    (contentChange s).dirt = s.dirt ∧ (contentChange s).charge = s.charge ∧ (contentChange s).table = s.table ∧
    (contentChange s).report = s.report ∧ (contentChange s).hold = s.hold ∧ (contentChange s).attach = s.attach ∧
    (contentChange s).power = s.power ∧ (contentChange s).free = s.free ∧
    (contentChange s).pending = s.pending := by
  unfold contentChange
  (repeat' split) <;> simp

@[simp] theorem putHold_frame (s : State) :
    (putHold s).time = s.time ∧ (putHold s).pins = s.pins ∧ (putHold s).loader = s.loader ∧
    (putHold s).pack = s.pack ∧ (putHold s).allow = s.allow ∧ (putHold s).drive = s.drive ∧
    (putHold s).dirt = s.dirt ∧ (putHold s).charge = s.charge ∧ (putHold s).table = s.table ∧
    (putHold s).report = s.report ∧ (putHold s).hold = s.hold ∧ (putHold s).attach = s.attach ∧
    (putHold s).power = s.power ∧ (putHold s).free = s.free ∧ (putHold s).pending = s.pending := by
  unfold putHold
  (repeat' split) <;> simp

@[simp] theorem raise_frame (f : Flag) (s : State) :
    (raise f s).time = s.time ∧ (raise f s).pins = s.pins ∧ (raise f s).loader = s.loader ∧
    (raise f s).pack = s.pack ∧ (raise f s).allow = s.allow ∧ (raise f s).drive = s.drive ∧
    (raise f s).dirt = s.dirt ∧ (raise f s).charge = s.charge ∧ (raise f s).table = s.table ∧
    (raise f s).hold = s.hold ∧ (raise f s).attach = s.attach ∧ (raise f s).power = s.power ∧
    (raise f s).free = s.free ∧ (raise f s).pending = s.pending := by
  unfold raise
  simp

@[simp] theorem onFlags_frame (g : FlagState → FlagState) (s : State) :
    (onFlags g s).time = s.time ∧ (onFlags g s).pins = s.pins ∧ (onFlags g s).loader = s.loader ∧
    (onFlags g s).pack = s.pack ∧ (onFlags g s).allow = s.allow ∧ (onFlags g s).drive = s.drive ∧
    (onFlags g s).dirt = s.dirt ∧ (onFlags g s).charge = s.charge ∧ (onFlags g s).line = s.line ∧
    (onFlags g s).table = s.table ∧ (onFlags g s).hold = s.hold ∧ (onFlags g s).attach = s.attach ∧
    (onFlags g s).power = s.power ∧ (onFlags g s).free = s.free ∧ (onFlags g s).pending = s.pending := by
  unfold onFlags
  simp

@[simp] theorem carryFlags_frame (s : State) :
    (carryFlags s).time = s.time ∧ (carryFlags s).pins = s.pins ∧ (carryFlags s).loader = s.loader ∧
    (carryFlags s).pack = s.pack ∧ (carryFlags s).allow = s.allow ∧ (carryFlags s).drive = s.drive ∧
    (carryFlags s).dirt = s.dirt ∧ (carryFlags s).charge = s.charge ∧ (carryFlags s).line = s.line ∧
    (carryFlags s).table = s.table ∧ (carryFlags s).hold = s.hold ∧ (carryFlags s).attach = s.attach ∧
    (carryFlags s).power = s.power ∧ (carryFlags s).free = s.free ∧ (carryFlags s).pending = s.pending := by
  unfold carryFlags
  (repeat' split) <;> simp

@[simp] theorem flagsOutcome_frame (g : FlagState → FlagState) (s : State) :
    (flagsOutcome g s).time = s.time ∧ (flagsOutcome g s).pins = s.pins ∧ (flagsOutcome g s).loader = s.loader ∧
    (flagsOutcome g s).pack = s.pack ∧ (flagsOutcome g s).allow = s.allow ∧ (flagsOutcome g s).drive = s.drive ∧
    (flagsOutcome g s).dirt = s.dirt ∧ (flagsOutcome g s).charge = s.charge ∧ (flagsOutcome g s).line = s.line ∧
    (flagsOutcome g s).table = s.table ∧ (flagsOutcome g s).hold = s.hold ∧ (flagsOutcome g s).attach = s.attach ∧
    (flagsOutcome g s).power = s.power ∧ (flagsOutcome g s).free = s.free ∧
    (flagsOutcome g s).pending = s.pending := by
  unfold flagsOutcome
  (repeat' split) <;> simp

@[simp] theorem seenActs_frame (b : BitVec 16) (s : State) :
    (seenActs b s).time = s.time ∧ (seenActs b s).pins = s.pins ∧ (seenActs b s).loader = s.loader ∧
    (seenActs b s).pack = s.pack ∧ (seenActs b s).allow = s.allow ∧ (seenActs b s).drive = s.drive ∧
    (seenActs b s).dirt = s.dirt ∧ (seenActs b s).charge = s.charge ∧ (seenActs b s).line = s.line ∧
    (seenActs b s).table = s.table ∧ (seenActs b s).hold = s.hold ∧ (seenActs b s).attach = s.attach ∧
    (seenActs b s).power = s.power ∧ (seenActs b s).free = s.free ∧ (seenActs b s).pending = s.pending := by
  unfold seenActs
  (repeat' split) <;> simp

@[simp] theorem writeDuty_frame (n : Nat) (s : State) :
    (writeDuty n s).time = s.time ∧ (writeDuty n s).pins = s.pins ∧ (writeDuty n s).loader = s.loader ∧
    (writeDuty n s).pack = s.pack ∧ (writeDuty n s).allow = s.allow ∧ (writeDuty n s).dirt = s.dirt ∧
    (writeDuty n s).charge = s.charge ∧ (writeDuty n s).line = s.line ∧ (writeDuty n s).table = s.table ∧
    (writeDuty n s).report = s.report ∧ (writeDuty n s).hold = s.hold ∧ (writeDuty n s).attach = s.attach ∧
    (writeDuty n s).power = s.power ∧ (writeDuty n s).free = s.free ∧ (writeDuty n s).pending = s.pending := by
  unfold writeDuty
  simp

@[simp] theorem commutate_frame (s : State) :
    (commutate s).time = s.time ∧ (commutate s).pins = s.pins ∧ (commutate s).loader = s.loader ∧
    (commutate s).pack = s.pack ∧ (commutate s).allow = s.allow ∧ (commutate s).dirt = s.dirt ∧
    (commutate s).charge = s.charge ∧ (commutate s).line = s.line ∧ (commutate s).table = s.table ∧
    (commutate s).report = s.report ∧ (commutate s).hold = s.hold ∧ (commutate s).attach = s.attach ∧
    (commutate s).power = s.power ∧ (commutate s).free = s.free ∧ (commutate s).pending = s.pending := by
  unfold commutate
  simp

@[simp] theorem quietDrive_frame (d : DriveState) (s : State) :
    (quietDrive d s).time = s.time ∧ (quietDrive d s).pins = s.pins ∧ (quietDrive d s).loader = s.loader ∧
    (quietDrive d s).pack = s.pack ∧ (quietDrive d s).allow = s.allow ∧ (quietDrive d s).charge = s.charge ∧
    (quietDrive d s).line = s.line ∧ (quietDrive d s).table = s.table ∧ (quietDrive d s).report = s.report ∧
    (quietDrive d s).hold = s.hold ∧ (quietDrive d s).attach = s.attach ∧ (quietDrive d s).power = s.power ∧
    (quietDrive d s).free = s.free ∧ (quietDrive d s).pending = s.pending := by
  unfold quietDrive
  (repeat' split) <;> simp

@[simp] theorem enterAlign_frame (s : State) :
    (enterAlign s).time = s.time ∧ (enterAlign s).pins = s.pins ∧ (enterAlign s).loader = s.loader ∧
    (enterAlign s).pack = s.pack ∧ (enterAlign s).allow = s.allow ∧ (enterAlign s).dirt = s.dirt ∧
    (enterAlign s).charge = s.charge ∧ (enterAlign s).line = s.line ∧ (enterAlign s).table = s.table ∧
    (enterAlign s).report = s.report ∧ (enterAlign s).hold = s.hold ∧ (enterAlign s).attach = s.attach ∧
    (enterAlign s).power = s.power ∧ (enterAlign s).free = s.free ∧ (enterAlign s).pending = s.pending := by
  unfold enterAlign
  simp

@[simp] theorem startRun_frame (s : State) :
    (startRun s).time = s.time ∧ (startRun s).pins = s.pins ∧ (startRun s).loader = s.loader ∧
    (startRun s).pack = s.pack ∧ (startRun s).allow = s.allow ∧ (startRun s).dirt = s.dirt ∧
    (startRun s).charge = s.charge ∧ (startRun s).line = s.line ∧ (startRun s).table = s.table ∧
    (startRun s).report = s.report ∧ (startRun s).hold = s.hold ∧ (startRun s).attach = s.attach ∧
    (startRun s).power = s.power ∧ (startRun s).free = s.free ∧ (startRun s).pending = s.pending := by
  unfold startRun
  simp

@[simp] theorem enterStopped_frame (s : State) :
    (enterStopped s).time = s.time ∧ (enterStopped s).pins = s.pins ∧ (enterStopped s).loader = s.loader ∧
    (enterStopped s).pack = s.pack ∧ (enterStopped s).allow = s.allow ∧ (enterStopped s).charge = s.charge ∧
    (enterStopped s).line = s.line ∧ (enterStopped s).table = s.table ∧ (enterStopped s).report = s.report ∧
    (enterStopped s).hold = s.hold ∧ (enterStopped s).attach = s.attach ∧ (enterStopped s).power = s.power ∧
    (enterStopped s).free = s.free ∧ (enterStopped s).pending = s.pending := by
  unfold enterStopped
  dsimp only
  (repeat' split) <;> simp

@[simp] theorem enterCoast_frame (b : Bool) (s : State) :
    (enterCoast b s).time = s.time ∧ (enterCoast b s).pins = s.pins ∧ (enterCoast b s).loader = s.loader ∧
    (enterCoast b s).pack = s.pack ∧ (enterCoast b s).allow = s.allow ∧ (enterCoast b s).charge = s.charge ∧
    (enterCoast b s).line = s.line ∧ (enterCoast b s).table = s.table ∧ (enterCoast b s).report = s.report ∧
    (enterCoast b s).hold = s.hold ∧ (enterCoast b s).attach = s.attach ∧ (enterCoast b s).power = s.power ∧
    (enterCoast b s).free = s.free ∧ (enterCoast b s).pending = s.pending := by
  unfold enterCoast
  simp

@[simp] theorem driveTarget_frame (n : Nat) (s : State) :
    (driveTarget n s).time = s.time ∧ (driveTarget n s).pins = s.pins ∧ (driveTarget n s).loader = s.loader ∧
    (driveTarget n s).pack = s.pack ∧ (driveTarget n s).allow = s.allow ∧ (driveTarget n s).charge = s.charge ∧
    (driveTarget n s).line = s.line ∧ (driveTarget n s).table = s.table ∧ (driveTarget n s).report = s.report ∧
    (driveTarget n s).hold = s.hold ∧ (driveTarget n s).attach = s.attach ∧ (driveTarget n s).power = s.power ∧
    (driveTarget n s).free = s.free ∧ (driveTarget n s).pending = s.pending := by
  unfold driveTarget
  dsimp only
  (repeat' split) <;> simp

@[simp] theorem forceCommutation_frame (s : State) :
    (forceCommutation s).time = s.time ∧ (forceCommutation s).pins = s.pins ∧
    (forceCommutation s).loader = s.loader ∧ (forceCommutation s).pack = s.pack ∧
    (forceCommutation s).allow = s.allow ∧ (forceCommutation s).dirt = s.dirt ∧
    (forceCommutation s).charge = s.charge ∧ (forceCommutation s).line = s.line ∧
    (forceCommutation s).table = s.table ∧ (forceCommutation s).report = s.report ∧
    (forceCommutation s).hold = s.hold ∧ (forceCommutation s).attach = s.attach ∧
    (forceCommutation s).power = s.power ∧ (forceCommutation s).free = s.free ∧
    (forceCommutation s).pending = s.pending := by
  unfold forceCommutation
  simp

@[simp] theorem enterRamp_frame (s : State) :
    (enterRamp s).time = s.time ∧ (enterRamp s).pins = s.pins ∧ (enterRamp s).loader = s.loader ∧
    (enterRamp s).pack = s.pack ∧ (enterRamp s).allow = s.allow ∧ (enterRamp s).dirt = s.dirt ∧
    (enterRamp s).charge = s.charge ∧ (enterRamp s).line = s.line ∧ (enterRamp s).table = s.table ∧
    (enterRamp s).report = s.report ∧ (enterRamp s).hold = s.hold ∧ (enterRamp s).attach = s.attach ∧
    (enterRamp s).power = s.power ∧ (enterRamp s).free = s.free ∧ (enterRamp s).pending = s.pending := by
  unfold enterRamp
  simp

@[simp] theorem enterRun_frame (s : State) :
    (enterRun s).time = s.time ∧ (enterRun s).pins = s.pins ∧ (enterRun s).loader = s.loader ∧
    (enterRun s).pack = s.pack ∧ (enterRun s).allow = s.allow ∧ (enterRun s).charge = s.charge ∧
    (enterRun s).line = s.line ∧ (enterRun s).table = s.table ∧ (enterRun s).report = s.report ∧
    (enterRun s).hold = s.hold ∧ (enterRun s).attach = s.attach ∧ (enterRun s).power = s.power ∧
    (enterRun s).free = s.free ∧ (enterRun s).pending = s.pending := by
  unfold enterRun
  simp

@[simp] theorem crossingInRun_frame (s : State) :
    (crossingInRun s).time = s.time ∧ (crossingInRun s).pins = s.pins ∧ (crossingInRun s).loader = s.loader ∧
    (crossingInRun s).pack = s.pack ∧ (crossingInRun s).allow = s.allow ∧ (crossingInRun s).dirt = s.dirt ∧
    (crossingInRun s).charge = s.charge ∧ (crossingInRun s).line = s.line ∧ (crossingInRun s).table = s.table ∧
    (crossingInRun s).report = s.report ∧ (crossingInRun s).hold = s.hold ∧ (crossingInRun s).attach = s.attach ∧
    (crossingInRun s).power = s.power ∧ (crossingInRun s).free = s.free ∧
    (crossingInRun s).pending = s.pending := by
  unfold crossingInRun
  simp

@[simp] theorem crossingInRamp_frame (n : Nat) (s : State) :
    (crossingInRamp n s).time = s.time ∧ (crossingInRamp n s).pins = s.pins ∧
    (crossingInRamp n s).loader = s.loader ∧ (crossingInRamp n s).pack = s.pack ∧
    (crossingInRamp n s).allow = s.allow ∧ (crossingInRamp n s).charge = s.charge ∧
    (crossingInRamp n s).line = s.line ∧ (crossingInRamp n s).table = s.table ∧
    (crossingInRamp n s).report = s.report ∧ (crossingInRamp n s).hold = s.hold ∧
    (crossingInRamp n s).attach = s.attach ∧ (crossingInRamp n s).power = s.power ∧
    (crossingInRamp n s).free = s.free ∧ (crossingInRamp n s).pending = s.pending := by
  unfold crossingInRamp
  dsimp only
  (repeat' split) <;> simp

@[simp] theorem excessJudge_frame (s : State) :
    (excessJudge s).time = s.time ∧ (excessJudge s).pins = s.pins ∧ (excessJudge s).loader = s.loader ∧
    (excessJudge s).pack = s.pack ∧ (excessJudge s).allow = s.allow ∧ (excessJudge s).drive = s.drive ∧
    (excessJudge s).dirt = s.dirt ∧ (excessJudge s).charge = s.charge ∧ (excessJudge s).line = s.line ∧
    (excessJudge s).table = s.table ∧ (excessJudge s).report = s.report ∧ (excessJudge s).hold = s.hold ∧
    (excessJudge s).power = s.power ∧ (excessJudge s).free = s.free ∧ (excessJudge s).pending = s.pending := by
  unfold excessJudge
  (repeat' split) <;> simp

@[simp] theorem zeroTarget_frame (s : State) :
    (zeroTarget s).time = s.time ∧ (zeroTarget s).pins = s.pins ∧ (zeroTarget s).loader = s.loader ∧
    (zeroTarget s).pack = s.pack ∧ (zeroTarget s).charge = s.charge ∧ (zeroTarget s).line = s.line ∧
    (zeroTarget s).table = s.table ∧ (zeroTarget s).report = s.report ∧ (zeroTarget s).hold = s.hold ∧
    (zeroTarget s).attach = s.attach ∧ (zeroTarget s).power = s.power ∧ (zeroTarget s).free = s.free ∧
    (zeroTarget s).pending = s.pending := by
  unfold zeroTarget
  simp

@[simp] theorem switchClosed_frame (s : State) :
    (switchClosed s).time = s.time ∧ (switchClosed s).pins = s.pins ∧ (switchClosed s).loader = s.loader ∧
    (switchClosed s).pack = s.pack ∧ (switchClosed s).charge = s.charge ∧ (switchClosed s).line = s.line ∧
    (switchClosed s).table = s.table ∧ (switchClosed s).report = s.report ∧ (switchClosed s).hold = s.hold ∧
    (switchClosed s).attach = s.attach ∧ (switchClosed s).power = s.power ∧ (switchClosed s).free = s.free ∧
    (switchClosed s).pending = s.pending := by
  unfold switchClosed
  dsimp only
  (repeat' split) <;> simp

@[simp] theorem changeAsk_frame (a : Ask) (s : State) :
    (changeAsk a s).time = s.time ∧ (changeAsk a s).pins = s.pins ∧ (changeAsk a s).loader = s.loader ∧
    (changeAsk a s).pack = s.pack ∧ (changeAsk a s).allow = s.allow ∧ (changeAsk a s).drive = s.drive ∧
    (changeAsk a s).dirt = s.dirt ∧ (changeAsk a s).table = s.table ∧ (changeAsk a s).report = s.report ∧
    (changeAsk a s).hold = s.hold ∧ (changeAsk a s).attach = s.attach ∧ (changeAsk a s).power = s.power ∧
    (changeAsk a s).free = s.free ∧ (changeAsk a s).pending = s.pending := by
  unfold changeAsk
  (repeat' split) <;> simp

@[simp] theorem refreshAsk_frame (s : State) :
    (refreshAsk s).time = s.time ∧ (refreshAsk s).pins = s.pins ∧ (refreshAsk s).loader = s.loader ∧
    (refreshAsk s).pack = s.pack ∧ (refreshAsk s).allow = s.allow ∧ (refreshAsk s).drive = s.drive ∧
    (refreshAsk s).dirt = s.dirt ∧ (refreshAsk s).table = s.table ∧ (refreshAsk s).report = s.report ∧
    (refreshAsk s).hold = s.hold ∧ (refreshAsk s).attach = s.attach ∧ (refreshAsk s).power = s.power ∧
    (refreshAsk s).free = s.free ∧ (refreshAsk s).pending = s.pending := by
  unfold refreshAsk
  simp

@[simp] theorem switchJudge_frame (s : State) :
    (switchJudge s).time = s.time ∧ (switchJudge s).pins = s.pins ∧ (switchJudge s).loader = s.loader ∧
    (switchJudge s).line = s.line ∧ (switchJudge s).table = s.table ∧ (switchJudge s).report = s.report ∧
    (switchJudge s).hold = s.hold ∧ (switchJudge s).attach = s.attach ∧ (switchJudge s).power = s.power ∧
    (switchJudge s).free = s.free ∧ (switchJudge s).pending = s.pending := by
  unfold switchJudge
  (repeat' split) <;> simp

@[simp] theorem enterPhase_frame (p : ChargePhase) (s : State) :
    (enterPhase p s).time = s.time ∧ (enterPhase p s).pins = s.pins ∧ (enterPhase p s).loader = s.loader ∧
    (enterPhase p s).allow = s.allow ∧ (enterPhase p s).drive = s.drive ∧ (enterPhase p s).dirt = s.dirt ∧
    (enterPhase p s).line = s.line ∧ (enterPhase p s).table = s.table ∧ (enterPhase p s).report = s.report ∧
    (enterPhase p s).hold = s.hold ∧ (enterPhase p s).attach = s.attach ∧ (enterPhase p s).power = s.power ∧
    (enterPhase p s).free = s.free ∧ (enterPhase p s).pending = s.pending := by
  unfold enterPhase
  (repeat' split) <;> simp

@[simp] theorem enterPaused_frame (c : Causes) (s : State) :
    (enterPaused c s).time = s.time ∧ (enterPaused c s).pins = s.pins ∧ (enterPaused c s).loader = s.loader ∧
    (enterPaused c s).allow = s.allow ∧ (enterPaused c s).drive = s.drive ∧ (enterPaused c s).dirt = s.dirt ∧
    (enterPaused c s).line = s.line ∧ (enterPaused c s).table = s.table ∧ (enterPaused c s).report = s.report ∧
    (enterPaused c s).hold = s.hold ∧ (enterPaused c s).attach = s.attach ∧ (enterPaused c s).power = s.power ∧
    (enterPaused c s).free = s.free ∧ (enterPaused c s).pending = s.pending := by
  unfold enterPaused
  simp

@[simp] theorem waitingDecision_frame (s : State) :
    (waitingDecision s).time = s.time ∧ (waitingDecision s).pins = s.pins ∧ (waitingDecision s).loader = s.loader ∧
    (waitingDecision s).allow = s.allow ∧ (waitingDecision s).drive = s.drive ∧ (waitingDecision s).dirt = s.dirt ∧
    (waitingDecision s).line = s.line ∧ (waitingDecision s).table = s.table ∧
    (waitingDecision s).report = s.report ∧ (waitingDecision s).hold = s.hold ∧
    (waitingDecision s).attach = s.attach ∧ (waitingDecision s).power = s.power ∧
    (waitingDecision s).free = s.free ∧ (waitingDecision s).pending = s.pending := by
  unfold waitingDecision
  (repeat' split) <;> simp

@[simp] theorem chargeReview_frame (s : State) :
    (chargeReview s).time = s.time ∧ (chargeReview s).pins = s.pins ∧ (chargeReview s).loader = s.loader ∧
    (chargeReview s).allow = s.allow ∧ (chargeReview s).drive = s.drive ∧ (chargeReview s).dirt = s.dirt ∧
    (chargeReview s).line = s.line ∧ (chargeReview s).table = s.table ∧ (chargeReview s).report = s.report ∧
    (chargeReview s).hold = s.hold ∧ (chargeReview s).attach = s.attach ∧ (chargeReview s).power = s.power ∧
    (chargeReview s).free = s.free ∧ (chargeReview s).pending = s.pending := by
  unfold chargeReview
  (repeat' split) <;> simp

@[simp] theorem chargeSettle_frame (s : State) :
    (chargeSettle s).time = s.time ∧ (chargeSettle s).pins = s.pins ∧ (chargeSettle s).loader = s.loader ∧
    (chargeSettle s).table = s.table ∧ (chargeSettle s).report = s.report ∧ (chargeSettle s).hold = s.hold ∧
    (chargeSettle s).attach = s.attach ∧ (chargeSettle s).power = s.power ∧ (chargeSettle s).free = s.free ∧
    (chargeSettle s).pending = s.pending := by
  unfold chargeSettle
  simp

@[simp] theorem undock_frame (b : Bool) (s : State) :
    (undock b s).time = s.time ∧ (undock b s).pins = s.pins ∧ (undock b s).loader = s.loader ∧
    (undock b s).table = s.table ∧ (undock b s).report = s.report ∧ (undock b s).hold = s.hold ∧
    (undock b s).attach = s.attach ∧ (undock b s).power = s.power ∧ (undock b s).free = s.free ∧
    (undock b s).pending = s.pending := by
  unfold undock
  (repeat' split) <;> simp

@[simp] theorem dockIn_frame (s : State) :
    (dockIn s).time = s.time ∧ (dockIn s).pins = s.pins ∧ (dockIn s).loader = s.loader ∧
    (dockIn s).allow = s.allow ∧ (dockIn s).drive = s.drive ∧ (dockIn s).dirt = s.dirt ∧ (dockIn s).line = s.line ∧
    (dockIn s).table = s.table ∧ (dockIn s).report = s.report ∧ (dockIn s).hold = s.hold ∧
    (dockIn s).attach = s.attach ∧ (dockIn s).power = s.power ∧ (dockIn s).free = s.free ∧
    (dockIn s).pending = s.pending := by
  unfold dockIn
  simp

@[simp] theorem chargeFault_frame (k : FaultKind) (s : State) :
    (chargeFault k s).time = s.time ∧ (chargeFault k s).pins = s.pins ∧ (chargeFault k s).loader = s.loader ∧
    (chargeFault k s).table = s.table ∧ (chargeFault k s).attach = s.attach ∧ (chargeFault k s).power = s.power ∧
    (chargeFault k s).free = s.free ∧ (chargeFault k s).pending = s.pending := by
  unfold chargeFault
  simp

@[simp] theorem chargeDone_frame (s : State) :
    (chargeDone s).time = s.time ∧ (chargeDone s).pins = s.pins ∧ (chargeDone s).loader = s.loader ∧
    (chargeDone s).table = s.table ∧ (chargeDone s).hold = s.hold ∧ (chargeDone s).attach = s.attach ∧
    (chargeDone s).power = s.power ∧ (chargeDone s).free = s.free ∧ (chargeDone s).pending = s.pending := by
  unfold chargeDone
  simp

@[simp] theorem supplyEvent_frame (p : SupplyPart) (s : State) :
    (supplyEvent p s).time = s.time ∧ (supplyEvent p s).pins = s.pins ∧ (supplyEvent p s).loader = s.loader ∧
    (supplyEvent p s).table = s.table ∧ (supplyEvent p s).attach = s.attach ∧ (supplyEvent p s).power = s.power ∧
    (supplyEvent p s).free = s.free ∧ (supplyEvent p s).pending = s.pending := by
  unfold supplyEvent
  dsimp only
  (repeat' split) <;> simp

@[simp] theorem terminationJudge_frame (s : State) :
    (terminationJudge s).time = s.time ∧ (terminationJudge s).pins = s.pins ∧
    (terminationJudge s).loader = s.loader ∧ (terminationJudge s).pack = s.pack ∧
    (terminationJudge s).allow = s.allow ∧ (terminationJudge s).drive = s.drive ∧
    (terminationJudge s).dirt = s.dirt ∧ (terminationJudge s).line = s.line ∧
    (terminationJudge s).table = s.table ∧ (terminationJudge s).report = s.report ∧
    (terminationJudge s).hold = s.hold ∧ (terminationJudge s).attach = s.attach ∧
    (terminationJudge s).power = s.power ∧ (terminationJudge s).free = s.free ∧
    (terminationJudge s).pending = s.pending := by
  unfold terminationJudge
  (repeat' split) <;> simp

@[simp] theorem supplyGuard_frame (b : Bool) (s : State) :
    (supplyGuard b s).time = s.time ∧ (supplyGuard b s).pins = s.pins ∧ (supplyGuard b s).loader = s.loader ∧
    (supplyGuard b s).pack = s.pack ∧ (supplyGuard b s).allow = s.allow ∧ (supplyGuard b s).drive = s.drive ∧
    (supplyGuard b s).dirt = s.dirt ∧ (supplyGuard b s).line = s.line ∧ (supplyGuard b s).table = s.table ∧
    (supplyGuard b s).report = s.report ∧ (supplyGuard b s).hold = s.hold ∧ (supplyGuard b s).attach = s.attach ∧
    (supplyGuard b s).power = s.power ∧ (supplyGuard b s).free = s.free ∧
    (supplyGuard b s).pending = s.pending := by
  unfold supplyGuard
  (repeat' split) <;> simp

@[simp] theorem windowReview_frame (s : State) :
    (windowReview s).time = s.time ∧ (windowReview s).pins = s.pins ∧ (windowReview s).loader = s.loader ∧
    (windowReview s).allow = s.allow ∧ (windowReview s).drive = s.drive ∧ (windowReview s).dirt = s.dirt ∧
    (windowReview s).table = s.table ∧ (windowReview s).report = s.report ∧ (windowReview s).hold = s.hold ∧
    (windowReview s).attach = s.attach ∧ (windowReview s).power = s.power ∧ (windowReview s).free = s.free ∧
    (windowReview s).pending = s.pending := by
  unfold windowReview
  dsimp only
  (repeat' split) <;> simp

@[simp] theorem phaseProgress_frame (s : State) :
    (phaseProgress s).time = s.time ∧ (phaseProgress s).pins = s.pins ∧ (phaseProgress s).loader = s.loader ∧
    (phaseProgress s).allow = s.allow ∧ (phaseProgress s).drive = s.drive ∧ (phaseProgress s).dirt = s.dirt ∧
    (phaseProgress s).line = s.line ∧ (phaseProgress s).table = s.table ∧ (phaseProgress s).report = s.report ∧
    (phaseProgress s).hold = s.hold ∧ (phaseProgress s).attach = s.attach ∧ (phaseProgress s).power = s.power ∧
    (phaseProgress s).free = s.free ∧ (phaseProgress s).pending = s.pending := by
  unfold phaseProgress
  (repeat' split) <;> simp

@[simp] theorem chargeScan_frame (a b : Bool) (s : State) :
    (chargeScan a b s).time = s.time ∧ (chargeScan a b s).pins = s.pins ∧ (chargeScan a b s).loader = s.loader ∧
    (chargeScan a b s).table = s.table ∧ (chargeScan a b s).attach = s.attach ∧
    (chargeScan a b s).power = s.power ∧ (chargeScan a b s).free = s.free ∧
    (chargeScan a b s).pending = s.pending := by
  unfold chargeScan
  dsimp only
  (repeat' split) <;> simp

@[simp] theorem railJudge_frame (s : State) :
    (railJudge s).time = s.time ∧ (railJudge s).pins = s.pins ∧ (railJudge s).loader = s.loader ∧
    (railJudge s).pack = s.pack ∧ (railJudge s).allow = s.allow ∧ (railJudge s).drive = s.drive ∧
    (railJudge s).dirt = s.dirt ∧ (railJudge s).charge = s.charge ∧ (railJudge s).line = s.line ∧
    (railJudge s).table = s.table ∧ (railJudge s).report = s.report ∧ (railJudge s).hold = s.hold ∧
    (railJudge s).power = s.power ∧ (railJudge s).free = s.free ∧ (railJudge s).pending = s.pending := by
  unfold railJudge
  (repeat' split) <;> simp

@[simp] theorem powerTimers_frame (s : State) :
    (powerTimers s).time = s.time ∧ (powerTimers s).pins = s.pins ∧ (powerTimers s).loader = s.loader ∧
    (powerTimers s).pack = s.pack ∧ (powerTimers s).allow = s.allow ∧ (powerTimers s).drive = s.drive ∧
    (powerTimers s).dirt = s.dirt ∧ (powerTimers s).charge = s.charge ∧ (powerTimers s).line = s.line ∧
    (powerTimers s).table = s.table ∧ (powerTimers s).report = s.report ∧ (powerTimers s).hold = s.hold ∧
    (powerTimers s).attach = s.attach ∧ (powerTimers s).free = s.free ∧ (powerTimers s).pending = s.pending := by
  unfold powerTimers
  simp

@[simp] theorem enterAwakeOrDoze_frame (b : Bool) (s : State) :
    (enterAwakeOrDoze b s).time = s.time ∧ (enterAwakeOrDoze b s).pins = s.pins ∧
    (enterAwakeOrDoze b s).loader = s.loader ∧ (enterAwakeOrDoze b s).allow = s.allow ∧
    (enterAwakeOrDoze b s).drive = s.drive ∧ (enterAwakeOrDoze b s).dirt = s.dirt ∧
    (enterAwakeOrDoze b s).charge = s.charge ∧ (enterAwakeOrDoze b s).table = s.table ∧
    (enterAwakeOrDoze b s).report = s.report ∧ (enterAwakeOrDoze b s).hold = s.hold ∧
    (enterAwakeOrDoze b s).attach = s.attach ∧ (enterAwakeOrDoze b s).free = s.free ∧
    (enterAwakeOrDoze b s).pending = s.pending := by
  unfold enterAwakeOrDoze
  (repeat' split) <;> simp

@[simp] theorem powerJudge_frame (s : State) :
    (powerJudge s).time = s.time ∧ (powerJudge s).pins = s.pins ∧ (powerJudge s).loader = s.loader ∧
    (powerJudge s).allow = s.allow ∧ (powerJudge s).drive = s.drive ∧ (powerJudge s).dirt = s.dirt ∧
    (powerJudge s).charge = s.charge ∧ (powerJudge s).table = s.table ∧ (powerJudge s).report = s.report ∧
    (powerJudge s).hold = s.hold ∧ (powerJudge s).attach = s.attach ∧ (powerJudge s).free = s.free ∧
    (powerJudge s).pending = s.pending := by
  unfold powerJudge
  (repeat' split) <;> simp

@[simp] theorem handDrive_frame (s : State) :
    (handDrive s).time = s.time ∧ (handDrive s).pins = s.pins ∧ (handDrive s).loader = s.loader ∧
    (handDrive s).table = s.table ∧ (handDrive s).report = s.report ∧ (handDrive s).hold = s.hold ∧
    (handDrive s).attach = s.attach ∧ (handDrive s).free = s.free ∧ (handDrive s).pending = s.pending := by
  unfold handDrive
  simp

@[simp] theorem handCharge_frame (s : State) :
    (handCharge s).time = s.time ∧ (handCharge s).pins = s.pins ∧ (handCharge s).loader = s.loader ∧
    (handCharge s).table = s.table ∧ (handCharge s).report = s.report ∧ (handCharge s).hold = s.hold ∧
    (handCharge s).attach = s.attach ∧ (handCharge s).free = s.free ∧ (handCharge s).pending = s.pending := by
  unfold handCharge
  simp

@[simp] theorem formHolds_frame (s : State) :
    (formHolds s).time = s.time ∧ (formHolds s).pins = s.pins ∧ (formHolds s).loader = s.loader ∧
    (formHolds s).pack = s.pack ∧ (formHolds s).allow = s.allow ∧ (formHolds s).drive = s.drive ∧
    (formHolds s).dirt = s.dirt ∧ (formHolds s).charge = s.charge ∧ (formHolds s).line = s.line ∧
    (formHolds s).table = s.table ∧ (formHolds s).report = s.report ∧ (formHolds s).attach = s.attach ∧
    (formHolds s).power = s.power ∧ (formHolds s).free = s.free ∧ (formHolds s).pending = s.pending := by
  unfold formHolds
  simp

@[simp] theorem handStopCharge_frame (b : Bool) (s : State) :
    (handStopCharge b s).time = s.time ∧ (handStopCharge b s).pins = s.pins ∧
    (handStopCharge b s).loader = s.loader ∧ (handStopCharge b s).table = s.table ∧
    (handStopCharge b s).report = s.report ∧ (handStopCharge b s).hold = s.hold ∧
    (handStopCharge b s).attach = s.attach ∧ (handStopCharge b s).free = s.free ∧
    (handStopCharge b s).pending = s.pending := by
  unfold handStopCharge
  (repeat' split) <;> simp

@[simp] theorem handReasons_frame (s : State) :
    (handReasons s).time = s.time ∧ (handReasons s).pins = s.pins ∧ (handReasons s).loader = s.loader ∧
    (handReasons s).table = s.table ∧ (handReasons s).report = s.report ∧ (handReasons s).free = s.free ∧
    (handReasons s).pending = s.pending := by
  unfold handReasons
  dsimp only
  (repeat' split) <;> simp

@[simp] theorem onReasons_frame (f : Reasons → Reasons) (s : State) :
    (onReasons f s).time = s.time ∧ (onReasons f s).pins = s.pins ∧ (onReasons f s).loader = s.loader ∧
    (onReasons f s).table = s.table ∧ (onReasons f s).report = s.report ∧ (onReasons f s).free = s.free ∧
    (onReasons f s).pending = s.pending := by
  unfold onReasons
  simp

@[simp] theorem leaveFault_frame (s : State) :
    (leaveFault s).time = s.time ∧ (leaveFault s).pins = s.pins ∧ (leaveFault s).loader = s.loader ∧
    (leaveFault s).pack = s.pack ∧ (leaveFault s).allow = s.allow ∧ (leaveFault s).charge = s.charge ∧
    (leaveFault s).line = s.line ∧ (leaveFault s).table = s.table ∧ (leaveFault s).report = s.report ∧
    (leaveFault s).hold = s.hold ∧ (leaveFault s).attach = s.attach ∧ (leaveFault s).power = s.power ∧
    (leaveFault s).free = s.free ∧ (leaveFault s).pending = s.pending := by
  unfold leaveFault
  (repeat' split) <;> simp

@[simp] theorem latchTest_frame (s : State) :
    (latchTest s).time = s.time ∧ (latchTest s).pins = s.pins ∧ (latchTest s).loader = s.loader ∧
    (latchTest s).table = s.table ∧ (latchTest s).report = s.report ∧ (latchTest s).free = s.free ∧
    (latchTest s).pending = s.pending := by
  unfold latchTest
  (repeat' split) <;> simp

@[simp] theorem driveFault_frame (k : FaultKind) (s : State) :
    (driveFault k s).time = s.time ∧ (driveFault k s).pins = s.pins ∧ (driveFault k s).loader = s.loader ∧
    (driveFault k s).table = s.table ∧ (driveFault k s).free = s.free ∧ (driveFault k s).pending = s.pending := by
  unfold driveFault
  dsimp only
  (repeat' split) <;> simp

@[simp] theorem handTable_frame (t : Table) (s : State) :
    (handTable t s).time = s.time ∧ (handTable t s).pins = s.pins ∧ (handTable t s).loader = s.loader ∧
    (handTable t s).table = s.table ∧ (handTable t s).report = s.report ∧ (handTable t s).free = s.free ∧
    (handTable t s).pending = s.pending := by
  unfold handTable
  dsimp only
  (repeat' split) <;> simp

@[simp] theorem setTable_frame (t : Table) (s : State) :
    (setTable t s).time = s.time ∧ (setTable t s).pins = s.pins ∧ (setTable t s).loader = s.loader ∧
    (setTable t s).report = s.report ∧ (setTable t s).free = s.free ∧ (setTable t s).pending = s.pending := by
  unfold setTable
  simp

@[simp] theorem onAnswer_frame (i : SlotId) (g : ShipAnswer → ShipAnswer) (s : State) :
    (onAnswer i g s).time = s.time ∧ (onAnswer i g s).pins = s.pins ∧ (onAnswer i g s).loader = s.loader ∧
    (onAnswer i g s).pack = s.pack ∧ (onAnswer i g s).allow = s.allow ∧ (onAnswer i g s).drive = s.drive ∧
    (onAnswer i g s).dirt = s.dirt ∧ (onAnswer i g s).charge = s.charge ∧ (onAnswer i g s).line = s.line ∧
    (onAnswer i g s).table = s.table ∧ (onAnswer i g s).hold = s.hold ∧ (onAnswer i g s).attach = s.attach ∧
    (onAnswer i g s).power = s.power ∧ (onAnswer i g s).free = s.free ∧ (onAnswer i g s).pending = s.pending := by
  unfold onAnswer
  (repeat' split) <;> simp

@[simp] theorem startAttempt_frame (i : SlotId) (w : List Byte) (s : State) :
    (startAttempt i w s).time = s.time ∧ (startAttempt i w s).pins = s.pins ∧
    (startAttempt i w s).loader = s.loader ∧ (startAttempt i w s).pack = s.pack ∧
    (startAttempt i w s).allow = s.allow ∧ (startAttempt i w s).drive = s.drive ∧
    (startAttempt i w s).dirt = s.dirt ∧ (startAttempt i w s).charge = s.charge ∧
    (startAttempt i w s).table = s.table ∧ (startAttempt i w s).hold = s.hold ∧
    (startAttempt i w s).attach = s.attach ∧ (startAttempt i w s).power = s.power ∧
    (startAttempt i w s).free = s.free ∧ (startAttempt i w s).pending = s.pending := by
  unfold startAttempt
  (repeat' split) <;> simp

@[simp] theorem beginAttempt_frame (s : State) :
    (beginAttempt s).time = s.time ∧ (beginAttempt s).pins = s.pins ∧ (beginAttempt s).loader = s.loader ∧
    (beginAttempt s).pack = s.pack ∧ (beginAttempt s).allow = s.allow ∧ (beginAttempt s).drive = s.drive ∧
    (beginAttempt s).dirt = s.dirt ∧ (beginAttempt s).charge = s.charge ∧ (beginAttempt s).table = s.table ∧
    (beginAttempt s).hold = s.hold ∧ (beginAttempt s).attach = s.attach ∧ (beginAttempt s).power = s.power ∧
    (beginAttempt s).free = s.free ∧ (beginAttempt s).pending = s.pending := by
  unfold beginAttempt
  (repeat' split) <;> simp

@[simp] theorem tellState_frame (s0 : State) (s : State) :
    (tellState s0 s).time = s.time ∧ (tellState s0 s).pins = s.pins ∧ (tellState s0 s).loader = s.loader ∧
    (tellState s0 s).pack = s.pack ∧ (tellState s0 s).allow = s.allow ∧ (tellState s0 s).drive = s.drive ∧
    (tellState s0 s).dirt = s.dirt ∧ (tellState s0 s).charge = s.charge ∧ (tellState s0 s).table = s.table ∧
    (tellState s0 s).report = s.report ∧ (tellState s0 s).hold = s.hold ∧ (tellState s0 s).attach = s.attach ∧
    (tellState s0 s).power = s.power ∧ (tellState s0 s).free = s.free ∧ (tellState s0 s).pending = s.pending := by
  unfold tellState
  (repeat' split) <;> simp

@[simp] theorem tellHold_frame (s0 : State) (s : State) :
    (tellHold s0 s).time = s.time ∧ (tellHold s0 s).pins = s.pins ∧ (tellHold s0 s).loader = s.loader ∧
    (tellHold s0 s).pack = s.pack ∧ (tellHold s0 s).allow = s.allow ∧ (tellHold s0 s).drive = s.drive ∧
    (tellHold s0 s).dirt = s.dirt ∧ (tellHold s0 s).charge = s.charge ∧ (tellHold s0 s).table = s.table ∧
    (tellHold s0 s).report = s.report ∧ (tellHold s0 s).hold = s.hold ∧ (tellHold s0 s).attach = s.attach ∧
    (tellHold s0 s).power = s.power ∧ (tellHold s0 s).free = s.free ∧ (tellHold s0 s).pending = s.pending := by
  unfold tellHold
  (repeat' split) <;> simp

@[simp] theorem tell_frame (s0 s : State) :
    (tell s0 s).time = s.time ∧ (tell s0 s).pins = s.pins ∧ (tell s0 s).loader = s.loader ∧
    (tell s0 s).pack = s.pack ∧ (tell s0 s).allow = s.allow ∧ (tell s0 s).drive = s.drive ∧
    (tell s0 s).dirt = s.dirt ∧ (tell s0 s).charge = s.charge ∧ (tell s0 s).table = s.table ∧
    (tell s0 s).report = s.report ∧ (tell s0 s).hold = s.hold ∧ (tell s0 s).attach = s.attach ∧
    (tell s0 s).power = s.power ∧ (tell s0 s).free = s.free ∧ (tell s0 s).pending = s.pending := by
  unfold tell
  simp

@[simp] theorem publish_frame (s0 : State) (s : State) :
    (publish s0 s).time = s.time ∧ (publish s0 s).pins = s.pins ∧ (publish s0 s).loader = s.loader ∧
    (publish s0 s).pack = s.pack ∧ (publish s0 s).allow = s.allow ∧ (publish s0 s).drive = s.drive ∧
    (publish s0 s).dirt = s.dirt ∧ (publish s0 s).charge = s.charge ∧ (publish s0 s).table = s.table ∧
    (publish s0 s).hold = s.hold ∧ (publish s0 s).attach = s.attach ∧ (publish s0 s).power = s.power ∧
    (publish s0 s).free = s.free ∧ (publish s0 s).pending = s.pending := by
  unfold publish
  (repeat' split) <;> simp

@[simp] theorem asEvent_frame (f : State → State) (s : State) :
    (asEvent f s).time = (f s).time ∧ (asEvent f s).pins = (f s).pins ∧ (asEvent f s).loader = (f s).loader ∧
    (asEvent f s).pack = (f s).pack ∧ (asEvent f s).allow = (f s).allow ∧ (asEvent f s).drive = (f s).drive ∧
    (asEvent f s).dirt = (f s).dirt ∧ (asEvent f s).charge = (f s).charge ∧ (asEvent f s).table = (f s).table ∧
    (asEvent f s).hold = (f s).hold ∧ (asEvent f s).attach = (f s).attach ∧ (asEvent f s).power = (f s).power ∧
    (asEvent f s).free = (f s).free ∧ (asEvent f s).pending = (f s).pending := by
  unfold asEvent
  simp

@[simp] theorem headSettles_frame (s : State) :
    (headSettles s).time = s.time ∧ (headSettles s).pins = s.pins ∧ (headSettles s).loader = s.loader ∧
    (headSettles s).pack = s.pack ∧ (headSettles s).allow = s.allow ∧ (headSettles s).drive = s.drive ∧
    (headSettles s).dirt = s.dirt ∧ (headSettles s).charge = s.charge ∧ (headSettles s).line = s.line ∧
    (headSettles s).table = s.table ∧ (headSettles s).report = s.report ∧ (headSettles s).hold = s.hold ∧
    (headSettles s).power = s.power ∧ (headSettles s).free = s.free ∧ (headSettles s).pending = s.pending := by
  unfold headSettles
  simp

@[simp] theorem dockSettles_frame (s : State) :
    (dockSettles s).time = s.time ∧ (dockSettles s).pins = s.pins ∧ (dockSettles s).loader = s.loader ∧
    (dockSettles s).pack = s.pack ∧ (dockSettles s).allow = s.allow ∧ (dockSettles s).drive = s.drive ∧
    (dockSettles s).dirt = s.dirt ∧ (dockSettles s).charge = s.charge ∧ (dockSettles s).line = s.line ∧
    (dockSettles s).table = s.table ∧ (dockSettles s).report = s.report ∧ (dockSettles s).hold = s.hold ∧
    (dockSettles s).power = s.power ∧ (dockSettles s).free = s.free ∧ (dockSettles s).pending = s.pending := by
  unfold dockSettles
  simp

@[simp] theorem judgeDockPin_frame (s : State) :
    (judgeDockPin s).time = s.time ∧ (judgeDockPin s).pins = s.pins ∧ (judgeDockPin s).loader = s.loader ∧
    (judgeDockPin s).pack = s.pack ∧ (judgeDockPin s).allow = s.allow ∧ (judgeDockPin s).drive = s.drive ∧
    (judgeDockPin s).dirt = s.dirt ∧ (judgeDockPin s).charge = s.charge ∧ (judgeDockPin s).line = s.line ∧
    (judgeDockPin s).table = s.table ∧ (judgeDockPin s).report = s.report ∧ (judgeDockPin s).hold = s.hold ∧
    (judgeDockPin s).power = s.power ∧ (judgeDockPin s).free = s.free ∧ (judgeDockPin s).pending = s.pending := by
  unfold judgeDockPin
  (repeat' split) <;> simp

@[simp] theorem removal_frame (s : State) :
    (removal s).time = s.time ∧ (removal s).pins = s.pins ∧ (removal s).loader = s.loader ∧
    (removal s).free = s.free ∧ (removal s).pending = s.pending := by
  unfold removal
  simp

@[simp] theorem outcome_frame (i : SlotId) (g : FlagState → FlagState) (s : State) :
    (outcome i g s).time = s.time ∧ (outcome i g s).pins = s.pins ∧ (outcome i g s).loader = s.loader ∧
    (outcome i g s).pack = s.pack ∧ (outcome i g s).allow = s.allow ∧ (outcome i g s).drive = s.drive ∧
    (outcome i g s).dirt = s.dirt ∧ (outcome i g s).charge = s.charge ∧ (outcome i g s).line = s.line ∧
    (outcome i g s).table = s.table ∧ (outcome i g s).hold = s.hold ∧ (outcome i g s).attach = s.attach ∧
    (outcome i g s).power = s.power ∧ (outcome i g s).free = s.free ∧ (outcome i g s).pending = s.pending := by
  unfold outcome
  (repeat' split) <;> simp

@[simp] theorem loseAttempt_frame (s : State) :
    (loseAttempt s).time = s.time ∧ (loseAttempt s).pins = s.pins ∧ (loseAttempt s).loader = s.loader ∧
    (loseAttempt s).pack = s.pack ∧ (loseAttempt s).allow = s.allow ∧ (loseAttempt s).drive = s.drive ∧
    (loseAttempt s).dirt = s.dirt ∧ (loseAttempt s).charge = s.charge ∧ (loseAttempt s).table = s.table ∧
    (loseAttempt s).hold = s.hold ∧ (loseAttempt s).attach = s.attach ∧ (loseAttempt s).power = s.power ∧
    (loseAttempt s).free = s.free ∧ (loseAttempt s).pending = s.pending := by
  unfold loseAttempt
  (repeat' split) <;> simp

@[simp] theorem loseUnsettled_frame (s : State) :
    (loseUnsettled s).time = s.time ∧ (loseUnsettled s).pins = s.pins ∧ (loseUnsettled s).loader = s.loader ∧
    (loseUnsettled s).pack = s.pack ∧ (loseUnsettled s).allow = s.allow ∧ (loseUnsettled s).drive = s.drive ∧
    (loseUnsettled s).dirt = s.dirt ∧ (loseUnsettled s).charge = s.charge ∧ (loseUnsettled s).table = s.table ∧
    (loseUnsettled s).hold = s.hold ∧ (loseUnsettled s).attach = s.attach ∧ (loseUnsettled s).power = s.power ∧
    (loseUnsettled s).free = s.free ∧ (loseUnsettled s).pending = s.pending := by
  unfold loseUnsettled
  (repeat' split) <;> simp

@[simp] theorem judgeContacts_frame (s : State) :
    (judgeContacts s).time = s.time ∧ (judgeContacts s).pins = s.pins ∧ (judgeContacts s).loader = s.loader ∧
    (judgeContacts s).free = s.free ∧ (judgeContacts s).pending = s.pending := by
  unfold judgeContacts
  (repeat' split) <;> simp

@[simp] theorem quietTarget_frame (s : State) :
    (quietTarget s).time = s.time ∧ (quietTarget s).pins = s.pins ∧ (quietTarget s).loader = s.loader ∧
    (quietTarget s).pack = s.pack ∧ (quietTarget s).charge = s.charge ∧ (quietTarget s).line = s.line ∧
    (quietTarget s).table = s.table ∧ (quietTarget s).report = s.report ∧ (quietTarget s).hold = s.hold ∧
    (quietTarget s).attach = s.attach ∧ (quietTarget s).power = s.power ∧ (quietTarget s).free = s.free ∧
    (quietTarget s).pending = s.pending := by
  unfold quietTarget
  dsimp only
  (repeat' split) <;> simp

@[simp] theorem quiet_frame (p : PowerState) (s : State) :
    (quiet p s).time = s.time ∧ (quiet p s).pins = s.pins ∧ (quiet p s).loader = s.loader ∧
    (quiet p s).free = s.free ∧ (quiet p s).pending = s.pending := by
  unfold quiet
  (repeat' split) <;> simp

@[simp] theorem orderBreak_frame (s : State) :
    (orderBreak s).time = s.time ∧ (orderBreak s).pins = s.pins ∧ (orderBreak s).loader = s.loader ∧
    (orderBreak s).pack = s.pack ∧ (orderBreak s).allow = s.allow ∧ (orderBreak s).drive = s.drive ∧
    (orderBreak s).dirt = s.dirt ∧ (orderBreak s).charge = s.charge ∧ (orderBreak s).table = s.table ∧
    (orderBreak s).report = s.report ∧ (orderBreak s).hold = s.hold ∧ (orderBreak s).attach = s.attach ∧
    (orderBreak s).power = s.power ∧ (orderBreak s).free = s.free ∧ (orderBreak s).pending = s.pending := by
  unfold orderBreak
  simp

@[simp] theorem orderStartScan_frame (s : State) :
    (orderStartScan s).time = s.time ∧ (orderStartScan s).pins = s.pins ∧ (orderStartScan s).loader = s.loader ∧
    (orderStartScan s).allow = s.allow ∧ (orderStartScan s).drive = s.drive ∧ (orderStartScan s).dirt = s.dirt ∧
    (orderStartScan s).charge = s.charge ∧ (orderStartScan s).line = s.line ∧ (orderStartScan s).table = s.table ∧
    (orderStartScan s).report = s.report ∧ (orderStartScan s).hold = s.hold ∧
    (orderStartScan s).attach = s.attach ∧ (orderStartScan s).power = s.power ∧ (orderStartScan s).free = s.free ∧
    (orderStartScan s).pending = s.pending := by
  unfold orderStartScan
  simp

@[simp] theorem startDozeTimers_frame (s : State) :
    (startDozeTimers s).time = s.time ∧ (startDozeTimers s).pins = s.pins ∧ (startDozeTimers s).loader = s.loader ∧
    (startDozeTimers s).allow = s.allow ∧ (startDozeTimers s).drive = s.drive ∧ (startDozeTimers s).dirt = s.dirt ∧
    (startDozeTimers s).charge = s.charge ∧ (startDozeTimers s).table = s.table ∧
    (startDozeTimers s).report = s.report ∧ (startDozeTimers s).hold = s.hold ∧
    (startDozeTimers s).attach = s.attach ∧ (startDozeTimers s).power = s.power ∧
    (startDozeTimers s).free = s.free ∧ (startDozeTimers s).pending = s.pending := by
  unfold startDozeTimers
  simp

@[simp] theorem wake_frame (s : State) :
    (wake s).time = s.time ∧ (wake s).pins = s.pins ∧ (wake s).loader = s.loader ∧ (wake s).free = s.free ∧
    (wake s).pending = s.pending := by
  unfold wake
  simp

@[simp] theorem wakeByLevel_frame (s : State) :
    (wakeByLevel s).time = s.time ∧ (wakeByLevel s).pins = s.pins ∧ (wakeByLevel s).loader = s.loader ∧
    (wakeByLevel s).free = s.free ∧ (wakeByLevel s).pending = s.pending := by
  unfold wakeByLevel
  (repeat' split) <;> simp

@[simp] theorem enterSleep_frame (s : State) :
    (enterSleep s).time = s.time ∧ (enterSleep s).pins = s.pins ∧ (enterSleep s).loader = s.loader ∧
    (enterSleep s).free = s.free ∧ (enterSleep s).pending = s.pending := by
  unfold enterSleep
  simp

@[simp] theorem enterShip_frame (s : State) :
    (enterShip s).time = s.time ∧ (enterShip s).pins = s.pins ∧ (enterShip s).loader = s.loader ∧
    (enterShip s).free = s.free ∧ (enterShip s).pending = s.pending := by
  unfold enterShip
  simp

@[simp] theorem endStarting_frame (s : State) :
    (endStarting s).time = s.time ∧ (endStarting s).pins = s.pins ∧ (endStarting s).loader = s.loader ∧
    (endStarting s).free = s.free ∧ (endStarting s).pending = s.pending := by
  unfold endStarting
  simp

@[simp] theorem giveShipOrder_frame (s : State) :
    (giveShipOrder s).time = s.time ∧ (giveShipOrder s).pins = s.pins ∧ (giveShipOrder s).loader = s.loader ∧
    (giveShipOrder s).free = s.free ∧ (giveShipOrder s).pending = s.pending := by
  unfold giveShipOrder
  dsimp only
  (repeat' split) <;> simp

@[simp] theorem thenShip_frame (b : Bool) (s : State) :
    (thenShip b s).time = s.time ∧ (thenShip b s).pins = s.pins ∧ (thenShip b s).loader = s.loader ∧
    (thenShip b s).free = s.free ∧ (thenShip b s).pending = s.pending := by
  unfold thenShip
  (repeat' split) <;> simp

@[simp] theorem putReport_frame (p : List Byte) (s : State) :
    (putReport p s).time = s.time ∧ (putReport p s).pins = s.pins ∧ (putReport p s).loader = s.loader ∧
    (putReport p s).free = s.free ∧ (putReport p s).pending = s.pending := by
  unfold putReport
  simp

@[simp] theorem conflictEvidence_frame (s : State) :
    (conflictEvidence s).time = s.time ∧ (conflictEvidence s).pins = s.pins ∧
    (conflictEvidence s).loader = s.loader ∧ (conflictEvidence s).table = s.table ∧
    (conflictEvidence s).free = s.free ∧ (conflictEvidence s).pending = s.pending := by
  unfold conflictEvidence
  simp

@[simp] theorem sensorJudge_frame (s : State) :
    (sensorJudge s).time = s.time ∧ (sensorJudge s).pins = s.pins ∧ (sensorJudge s).loader = s.loader ∧
    (sensorJudge s).allow = s.allow ∧ (sensorJudge s).drive = s.drive ∧ (sensorJudge s).dirt = s.dirt ∧
    (sensorJudge s).charge = s.charge ∧ (sensorJudge s).line = s.line ∧ (sensorJudge s).table = s.table ∧
    (sensorJudge s).report = s.report ∧ (sensorJudge s).hold = s.hold ∧ (sensorJudge s).attach = s.attach ∧
    (sensorJudge s).power = s.power ∧ (sensorJudge s).free = s.free ∧ (sensorJudge s).pending = s.pending := by
  unfold sensorJudge
  simp

@[simp] theorem startValue_frame (s : State) :
    (startValue s).time = s.time ∧ (startValue s).pins = s.pins ∧ (startValue s).loader = s.loader ∧
    (startValue s).allow = s.allow ∧ (startValue s).drive = s.drive ∧ (startValue s).dirt = s.dirt ∧
    (startValue s).charge = s.charge ∧ (startValue s).line = s.line ∧ (startValue s).table = s.table ∧
    (startValue s).report = s.report ∧ (startValue s).hold = s.hold ∧ (startValue s).attach = s.attach ∧
    (startValue s).power = s.power ∧ (startValue s).free = s.free ∧ (startValue s).pending = s.pending := by
  unfold startValue
  (repeat' split) <;> simp

@[simp] theorem emptyRest_frame (s : State) :
    (emptyRest s).time = s.time ∧ (emptyRest s).pins = s.pins ∧ (emptyRest s).loader = s.loader ∧
    (emptyRest s).allow = s.allow ∧ (emptyRest s).drive = s.drive ∧ (emptyRest s).dirt = s.dirt ∧
    (emptyRest s).charge = s.charge ∧ (emptyRest s).line = s.line ∧ (emptyRest s).table = s.table ∧
    (emptyRest s).report = s.report ∧ (emptyRest s).hold = s.hold ∧ (emptyRest s).attach = s.attach ∧
    (emptyRest s).power = s.power ∧ (emptyRest s).free = s.free ∧ (emptyRest s).pending = s.pending := by
  unfold emptyRest
  (repeat' split) <;> simp

@[simp] theorem balance_frame (s : State) :
    (balance s).time = s.time ∧ (balance s).pins = s.pins ∧ (balance s).loader = s.loader ∧
    (balance s).allow = s.allow ∧ (balance s).drive = s.drive ∧ (balance s).dirt = s.dirt ∧
    (balance s).charge = s.charge ∧ (balance s).line = s.line ∧ (balance s).table = s.table ∧
    (balance s).report = s.report ∧ (balance s).hold = s.hold ∧ (balance s).attach = s.attach ∧
    (balance s).power = s.power ∧ (balance s).free = s.free ∧ (balance s).pending = s.pending := by
  unfold balance
  (repeat' split) <;> simp

@[simp] theorem packReasons_frame (s : State) :
    (packReasons s).time = s.time ∧ (packReasons s).pins = s.pins ∧ (packReasons s).loader = s.loader ∧
    (packReasons s).pack = s.pack ∧ (packReasons s).allow = s.allow ∧ (packReasons s).drive = s.drive ∧
    (packReasons s).dirt = s.dirt ∧ (packReasons s).charge = s.charge ∧ (packReasons s).line = s.line ∧
    (packReasons s).table = s.table ∧ (packReasons s).report = s.report ∧ (packReasons s).attach = s.attach ∧
    (packReasons s).power = s.power ∧ (packReasons s).free = s.free ∧ (packReasons s).pending = s.pending := by
  unfold packReasons
  simp

@[simp] theorem raiseSome_frame (f : Option Flag) (s : State) :
    (raiseSome f s).time = s.time ∧ (raiseSome f s).pins = s.pins ∧ (raiseSome f s).loader = s.loader ∧
    (raiseSome f s).pack = s.pack ∧ (raiseSome f s).allow = s.allow ∧ (raiseSome f s).drive = s.drive ∧
    (raiseSome f s).dirt = s.dirt ∧ (raiseSome f s).charge = s.charge ∧ (raiseSome f s).table = s.table ∧
    (raiseSome f s).hold = s.hold ∧ (raiseSome f s).attach = s.attach ∧ (raiseSome f s).power = s.power ∧
    (raiseSome f s).free = s.free ∧ (raiseSome f s).pending = s.pending := by
  cases f <;> simp [raiseSome]

@[simp] theorem acceptScan_frame (r : ScanReading) (s : State) :
    (acceptScan r s).time = s.time ∧ (acceptScan r s).pins = s.pins ∧ (acceptScan r s).loader = s.loader ∧
    (acceptScan r s).allow = s.allow ∧ (acceptScan r s).drive = s.drive ∧ (acceptScan r s).dirt = s.dirt ∧
    (acceptScan r s).charge = s.charge ∧ (acceptScan r s).table = s.table ∧ (acceptScan r s).hold = s.hold ∧
    (acceptScan r s).attach = s.attach ∧ (acceptScan r s).power = s.power ∧ (acceptScan r s).free = s.free ∧ (acceptScan r s).pending = s.pending := by
  unfold acceptScan
  simp

@[simp] theorem rejectScan_frame (s : State) :
    (rejectScan s).time = s.time ∧ (rejectScan s).pins = s.pins ∧ (rejectScan s).loader = s.loader ∧
    (rejectScan s).allow = s.allow ∧ (rejectScan s).drive = s.drive ∧ (rejectScan s).dirt = s.dirt ∧
    (rejectScan s).charge = s.charge ∧ (rejectScan s).line = s.line ∧ (rejectScan s).table = s.table ∧
    (rejectScan s).report = s.report ∧ (rejectScan s).hold = s.hold ∧ (rejectScan s).attach = s.attach ∧
    (rejectScan s).power = s.power ∧ (rejectScan s).free = s.free ∧ (rejectScan s).pending = s.pending := by
  unfold rejectScan
  simp

@[simp] theorem evict_frame (n : Notice) (s : State) :
    (evict n s).time = s.time ∧ (evict n s).pins = s.pins ∧ (evict n s).loader = s.loader ∧
    (evict n s).free = s.free ∧ (evict n s).pending = s.pending := by
  unfold evict
  split <;> simp

/-- The table after an eviction is the table without the record evicted, where there is one (R151, R155). -/
theorem evict_table (n : Notice) (s : State) :
    (evict n s).table = ((s.table.evicts n).map fun old => s.table.remove old.station).getD s.table := by
  unfold evict
  split <;> simp_all [setTable]

/-- A notice that evicts nothing finds the state as it was (R151). -/
theorem evict_none (n : Notice) (s : State) (h : s.table.evicts n = none) : evict n s = s := by
  simp [evict, h]

@[simp] theorem scanTemps_frame (r : ScanReading) (s : State) :
    (scanTemps r s).time = s.time ∧ (scanTemps r s).pins = s.pins ∧ (scanTemps r s).loader = s.loader ∧
    (scanTemps r s).table = s.table ∧ (scanTemps r s).free = s.free ∧ (scanTemps r s).pending = s.pending := by
  unfold scanTemps
  split <;> simp

@[simp] theorem scanCharge_frame (r : ScanReading) (s0 s : State) :
    (scanCharge r s0 s).time = s.time ∧ (scanCharge r s0 s).pins = s.pins ∧ (scanCharge r s0 s).loader = s.loader ∧
    (scanCharge r s0 s).table = s.table ∧ (scanCharge r s0 s).free = s.free ∧
    (scanCharge r s0 s).pending = s.pending := by
  unfold scanCharge
  split <;> simp

/-- What a handling can do (R120, R134): nothing without a notice of the kind at the front of the queue; else the
events of the notice's entry on the state without it, or TABLE_FULL. -/
theorem handledBy_cases (kind : Notice → Bool) (act : Notice → Table → State → State) (s t : State)
    (h : handledBy kind act s = .next t) :
    (s.handling kind = none ∧ t = s) ∨
    ∃ n, s.handling kind = some n ∧
      ((∃ tb, (dropOldest s).table.enter n (dropOldest s).now = some tb ∧ t = act n tb (evict n (dropOldest s))) ∨
       ((dropOldest s).table.enter n (dropOldest s).now = none ∧ t = asEvent (raise .tableFull) (dropOldest s))) := by
  unfold handledBy enterNotice at h
  split at h
  · split at h <;> simp_all
  · simp_all

/-- What the levels of the contacts do in SLEEP (R187): levels that stand already change nothing, others wake. -/
theorem contactsAsleep_cases (h1 h2 : Bool) (s : State) :
    ((s.pins.hd1High = h1 ∧ s.pins.hd2High = h2) ∧ contactsAsleep h1 h2 s = s) ∨
    ((s.pins.hd1High ≠ h1 ∨ s.pins.hd2High ≠ h2) ∧ contactsAsleep h1 h2 s = wake (setContacts h1 h2 s)) := by
  unfold contactsAsleep
  split <;> simp_all
  by_cases h : s.pins.hd1High = h1 <;> simp_all

end Sys2Proof.Machine
end

