-- ==== Sys2Proof/Tests/Slice0.lean ====
section
/-! SUPPORT. Tests: the ill-formed terms that the well-formedness checks refuse, the manual's worked figures, and one
witness for each statement that has hypotheses. -/

namespace Sys2Proof.Tests

open Sys2Proof Sys2Proof.Machine Sys2Proof.Safety

/-! ### The well-formedness checks refuse -/

/-- A scan reading of seven cells near 3,780 mV whose reference lies at its lower limit. -/
def aScan : ScanReading :=
  { cells := [15120, 15121, 15122, 15123, 15124, 15125, 15126], code1 := 2390, code2 := 2391, dock := 0,
    rail := 100, shunt := 1000, shuntMore := [1001], reference := 9800 }

theorem test_wellFormed_accepts :
    Instr.wellFormed (.scanCompletion aScan) = true ∧ Instr.wellFormed (.noticeReceived [0x21, 1, 1, 0xC6]) = true ∧
    Instr.wellFormed (.configLoadEnd none) = true ∧ Instr.wellFormed (.recordStale 14) = true := by decide

theorem test_wellFormed_block_length : Instr.wellFormed (.configLoadEnd (some [1, 2])) = false := by decide
theorem test_wellFormed_cell_count :
    Instr.wellFormed (.scanCompletion { aScan with cells := [15120] }) = false := by decide
theorem test_wellFormed_code1 : Instr.wellFormed (.scanCompletion { aScan with code1 := 4096 }) = false := by decide
theorem test_wellFormed_code2 : Instr.wellFormed (.scanCompletion { aScan with code2 := 4096 }) = false := by decide
theorem test_wellFormed_dock_rise : Instr.wellFormed (.dockInputRise 5000) = false := by decide
theorem test_wellFormed_dock_fall : Instr.wellFormed (.dockInputFall 5001) = false := by decide
theorem test_wellFormed_notice_short : Instr.wellFormed (.noticeReceived [0x21, 1, 1]) = false := by decide
theorem test_wellFormed_notice_long :
    Instr.wellFormed (.noticeReceived [0x21, 13, 0, 0, 0, 0, 0, 0, 0, 0, 0, 0, 0, 0, 0, 0]) = false := by decide
theorem test_wellFormed_notice_bare : Instr.wellFormed (.noticeReceived [0x21]) = false := by decide
theorem test_wellFormed_stale_station :
    Instr.wellFormed (.recordStale 0) = false ∧ Instr.wellFormed (.recordStale 15) = false := by decide
theorem test_wellFormed_removed_station :
    Instr.wellFormed (.recordAgeRemoval 0) = false ∧ Instr.wellFormed (.recordAgeRemoval 15) = false := by decide
theorem test_wellFormed_head_contact : Instr.wellFormed (.headContactHigh false false) = false := by decide
theorem test_wellFormed_rail_short : Instr.wellFormed (.headRailShort 4000) = false := by decide
theorem test_wellFormed_length : Instr.wellFormed (.lengthTooGreat 12) = false := by decide

/-! ### No row of the table gives bits -/

theorem test_no_word_decodes : decodeTableWord 8 0 = none ∧ decodeTableWord 16 0x0203 = none := by decide

/-! ### The manual's worked figures -/

/-- Chapter 1, "compensation under load" and "the charge count". -/
theorem test_compensation : compensated 3150 18000 20 = 3510 ∧ compensated 3160 18000 20 = 3520 := by decide

/-- Chapter 1, "a thermistor reading". -/
theorem test_thermistor :
    thermTemp defaultTherm 2100 = 34 ∧ thermTemp defaultTherm 2240 = 29 ∧
    codeFaulty 4050 = true ∧ codeFaulty 4000 = false := by decide

/-- Chapter 1, "the charge count": 3,780 mV gives 55 %. -/
theorem test_start_value : ocvPercent 3780 0 defaultOcv = 55 := by decide

/-- Chapter 2, "a hot pack under load": I_T down the table of temperatures. -/
theorem test_temperature_limit :
    [61, 63, 66, 68, 69, 70, -22].map (tempLimit defaultSettings) =
      [18000, 14000, 8000, 4000, 2000, 0, 0] := by decide

/-- Chapter 2: the rest of the same case, from the pack limit to the motor's allowance. -/
theorem test_allowance_stages :
    [18000, 14000, 8000, 4000, 2000, 0].map (fun lim =>
      allowance defaultSettings (motorLimit lim (reserve (accessoryShare defaultSettings lim) 1200 1000) 150)
        22260 false) = [370, 281, 148, 58, 14, 0] := by decide

/-- Chapter 2: AUTO at level 8 asks 390 W; the slew of "a start and a run-up". -/
theorem test_mode_and_target :
    wantedPower defaultSettings .auto 8 34 false = 390 ∧
    newTarget defaultSettings false false 390 370 420 = 370 ∧
    [0, 60, 110, 410, 450].map (newTarget defaultSettings false false 450 450) = [60, 110, 160, 450, 450] ∧
    newTarget defaultSettings false false 100 450 450 = 100 := by decide

/-- Chapter 2, "LOW_ALLOWANCE at the end of a charge". -/
theorem test_low_allowance :
    lowAfter defaultSettings 72 false = false ∧ lowAfter defaultSettings 58 false = true ∧
    lowAfter defaultSettings 79 true = true ∧ lowAfter defaultSettings 80 true = false := by decide

/-- Chapter 3, "one step at 114,285 rpm" and "a start". -/
theorem test_speed_and_delay :
    speedOf 700 = 114285 ∧ commutationDelay 700 10 = 280 ∧ speedOf 13222 = 6050 ∧ commutationDelay 13222 10 = 5289 ∧
    goodIn 700 349 = false ∧ goodIn 700 350 = true ∧ goodIn 700 1050 = true ∧ goodIn 700 1051 = false := by decide

/-- Chapter 3, "a start". -/
theorem test_ramp :
    [0, 800000, 1600000, 2400000].map forcedInterval = [40000, 31667, 23333, 15000] ∧
    [0, 800000, 1600000, 2400000].map (rampDuty 96 120) = [96, 117, 138, 159] ∧
    rampDuty 96 120 2576000 = 163 := by decide

/-- A drive regulated at a period of 1,200. -/
def regulated (duty target : Nat) : Drive :=
  { Drive.reset with state := .run, period := 1200, bufDuty := duty, target := target, speed := 100000 }

/-- Chapter 3, "regulation". -/
theorem test_regulation :
    regulate defaultSettings (regulated 900 420) 1176 450 = 893 ∧
    regulate defaultSettings (regulated 900 250) 1176 392 = 573 ∧
    regulate defaultSettings (regulated 573 250) 1176 246 = 574 ∧
    regulate defaultSettings (regulated 574 370) 1176 246 = 582 ∧
    regulate defaultSettings (regulated 130 60) 1176 110 = 120 ∧
    regulate defaultSettings { regulated 574 370 with speed := 125001 } 1176 246 = 566 := by decide

/-- Chapter 4, "one impact, sample by sample": samples 0 to 14 leave one record and the detector DEAD. -/
theorem test_impact :
    let d := ([10, 30, 70, 120, 90, 50, 80, 40, 20, 15, 30, 18, 12, 9, 8] : List Nat).foldl
      (fun d v => d.sample defaultSettings v) { Dirt.reset with det := .ready }
    d.queue = [⟨2, 8, 1, 0⟩] ∧ d.det = .dead ∧ (d.sample defaultSettings 26).det = .dead ∧
    ((d.sample defaultSettings 26).sample defaultSettings 31).det = .ready := by decide

/-- Chapter 4, "classifying against the default table". -/
theorem test_classify :
    ([⟨2, 8, 1, 0⟩, ⟨1, 12, 0, 0⟩, ⟨3, 20, 3, 0⟩, ⟨3, 45, 6, 0⟩, ⟨3, 25, 7, 0⟩, ⟨2, 60, 2, 0⟩, ⟨1, 25, 1, 0⟩,
      ⟨3, 40, 0, 0⟩] : List Impact).map (fun r => classify r 0 defaultClasses) =
      [(some 1, 3), (some 0, 1), (some 1, 3), (some 2, 6), (some 2, 6), (some 3, 2), (none, 0), (none, 0)] := by
  decide

/-- Chapter 4, "one window". -/
theorem test_window_score :
    headPart 1 ⟨40, 200, false⟩ = 20 ∧
    ({ Dirt.reset with windowSum := 21, tally := 5 } : Dirt).windowScore defaultSettings 20 = 51 ∧
    rawLevel defaultDirt 51 = 4 := by decide

/-- Chapter 4, "the level rising and falling". -/
theorem test_level_sequence :
    (([51, 30, 25, 60, 12, 12, 8, 5, 3, 3] : List Nat).foldl (fun (acc : Dirt × List (Nat × Nat)) score =>
        let d := acc.1.levelAfter (rawLevel defaultDirt score)
        (d, acc.2 ++ [(d.fall, d.level)])) ({ Dirt.reset with level := 3 }, [])).2 =
      [(0, 4), (1, 4), (2, 4), (0, 5), (1, 5), (2, 5), (3, 5), (4, 5), (0, 4), (1, 4)] := by decide

/-- Chapter 5, "crossing between windows": each line's window before, temperature and window after. -/
theorem test_windows :
    ([(some 1, 44), (some 1, 46), (some 1, 47), (some 2, 52), (some 2, 53), (none, 51), (none, 50), (some 2, 43),
      (some 2, 42)] : List (Option Nat × Int)).map (fun p => reviewWindow defaultWindows p.1 p.2) =
      [some 1, some 1, some 2, some 2, none, none, some 2, some 2, some 1] ∧
    reviewWindow defaultWindows (some 0) (-2) = some 0 ∧ reviewWindow defaultWindows (some 0) (-3) = none := by
  decide

/-- Chapter 5, "the first ask": the echo band around 29,700 mV and 2,000 mA. -/
theorem test_echo_band :
    within2 29106 29700 = true ∧ within2 29105 29700 = false ∧ within2 30294 29700 = true ∧
    within2 30295 29700 = false ∧ within2 1960 2000 = true ∧ within2 1959 2000 = false := by decide

/-- Chapter 6, "the check of a QUERY". -/
theorem test_check_steps :
    crcStep 0x00 0x89 = 0xB6 ∧ crcStep 0xB6 0x02 = 0x05 ∧ crcStep 0x05 0x03 = 0x12 ∧ crcStep 0x12 0x00 = 0x7E := by
  decide

/-- The whole check, and the notice on the wire. -/
theorem test_check_notice : noticeChars 8 9 [0x03, 0x00] = [0x89, 0x02, 0x03, 0x00, 0x7E] := by
  decide +kernel

/-- Chapter 7, "flags in flight": CHARGE_DONE, RX_OVERRUN and STATION_LOST through attempts A, B and C. -/
theorem test_flags_in_flight :
    [FlagState.set.carry, FlagState.set.carry, FlagState.clear.carry] = [.carried, .carried, .clear] ∧
    [FlagState.carried.raised, FlagState.clear.raised] = [.carriedAgain, .set] ∧
    [FlagState.carried.completed, FlagState.carriedAgain.completed, FlagState.set.completed] = [.clear, .set, .set] ∧
    [FlagState.carried.lost, FlagState.carriedAgain.lost, FlagState.clear.lost] = [.set, .set, .clear] := by decide

/-! ### Steps -/

/-- The machine awake with the default configuration, all else as after reset. -/
def w : State :=
  { State.reset with power := ⟨.awake, none, none⟩, loader := ⟨defaultSettings, false, false⟩ }

/-- The next state of a command, or the reset state where there is none. -/
def after (c : Instr) (s : State) : State :=
  match exec c s with
  | .next t => t
  | .fault _ => .reset
  | .refused _ => .reset

/-- A scan in progress, no reason standing, the line IDLE. -/
def quietScan : State :=
  { w with
    pack := { w.pack with scan := .rest, packState := .good, sensor := false, ocvPending := false }
    allow := { w.allow with low := false }
    hold := { w.hold with
      stopSuction := false
      stopCharge := false
      reasons := { w.hold.reasons with sensor := false, lowAllowance := false } }
    line := { w.line with state := .idle } }

/-- A table with a REQUEST from station 2 whose trigger is held. -/
def heldTable : Table := (Table.reset.enter ⟨2, 2, [1, 3, 0, 0]⟩ 0).getD .reset

/-- A table with a DRAW from head station 5 and a HEAD_DIRT from station 4. -/
def headTable : Table :=
  (((Table.reset.enter ⟨5, 4, [0, 3, 0xE8, 0, 0]⟩ 0).getD .reset).enter ⟨6, 4, [0, 20, 0, 100]⟩ 0).getD .reset

/-- A table with a FRESH dock record that shows READY at 31,000 mV and 3,000 mA. -/
def readyTable : Table := (Table.reset.enter ⟨3, 6, [1, 0x79, 0x18, 0x0B, 0xB8, 0, 0, 0, 0, 0, 0]⟩ 0).getD .reset

/-- A full table whose STALE dock record, of station 6, stands before a READY dock at station 5. -/
def twoDocks : Table :=
  let t := ([⟨3, 5, [1, 0x79, 0x18, 0x0B, 0xB8]⟩, ⟨3, 6, [0]⟩, ⟨1, 7, [0]⟩, ⟨1, 8, [0]⟩, ⟨1, 9, [0]⟩, ⟨1, 10, [0]⟩] :
    List Notice).foldl (fun t n => (t.enter n 0).getD t) Table.reset
  t.update 6 fun r => { r with stale := true }

/-- A FRESH handle with its trigger held, and a STALE one, heard later, with its trigger released. -/
def twoHandles : Table :=
  let t := ([⟨2, 3, [1, 3, 0, 0]⟩, ⟨2, 2, [0, 3, 0, 0]⟩] : List Notice).foldl (fun t n => (t.enter n 0).getD t) Table.reset
  t.update 2 fun r => { r with stale := true }

/-- A table whose records are all taken. -/
def fullTable : Table := [2, 3, 4, 5, 6, 7].foldl (fun t st => (t.enter ⟨1, st, [0]⟩ 0).getD t) Table.reset

/-- Chapter 3, "one step at 114,285 rpm": the crossing keeps step_avg at 700 and schedules tick 1,000,640. -/
theorem test_crossing :
    let s := { w with
      time := { w.time with ticks := 1000000 },
      drive := { Drive.reset with
        state := .run, step := 1, ring := List.replicate 6 700, stepAvg := 700, armed := true, tC := 1000000,
        tRef := 999660, deadline := some 1001400 } }
    let t := after (.comparatorCapture 360 (floating 1).1 (floating 1).2) s
    t.drive.stepAvg = 700 ∧ t.drive.compare = some 1000640 ∧ t.drive.crossed = true := by decide

/-- Chapter 3, "a start", time 0 and 150 ms: run 418 in ALIGN at duty 96, then RAMP in step 2 with I = 40,000. -/
theorem test_start :
    let t := driveTarget 60 { w with drive := { Drive.reset with period := 1200, runNumber := 417, runs := 9 } }
    t.drive.state = .align ∧ t.drive.runNumber = 418 ∧ t.drive.runs = 10 ∧ t.drive.bufDuty = 96 ∧
    (after .alignTimerExpiry t).drive.state = .ramp ∧ (after .alignTimerExpiry t).drive.step = 2 ∧
    (after .alignTimerExpiry t).drive.forced = 40000 := by decide

/-- Chapter 9, "a motor fault with the trigger held": the eighth cutoff. -/
theorem test_overcurrent :
    let s := { w with
      drive := { Drive.reset with state := .run, cutoffs := 8, runNumber := 418, speed := 92345 },
      table := heldTable }
    let t := after .overcurrent s
    t.drive.state = .fault ∧ t.hold.reasons.driveFault = true ∧
    t.hold.history.map (fun e => (e.kind, e.run, e.speed)) = [(.overcurrent, 418, 92)] := by decide

/-- Chapter 10, "an overdraw": the latch stands and the rail is off. -/
theorem test_overdraw :
    let t := after .overdrawTimerExpiry { w with attach := { w.attach with
      head := .seated, rail := true, excess := true, overdrawTimer := some 4000000 } }
    t.hold.reasons.overdraw = true ∧ t.attach.rail = false ∧ t.attach.excess = false := by decide

/-- Chapter 9, "a full history": a read with argument 15 names place 7. -/
theorem test_fault_query :
    let e (k : Nat) : FaultEntry := ⟨.overdraw, k, 0, 0, 0, 0⟩
    let s := { w with
      loader := ⟨{ defaultSettings with serviceStations := 0x200 }, false, false⟩,
      line := { w.line with state := .busy, rx := [⟨8, 9, [6, 15]⟩] },
      hold := { w.hold with history := [e 402, e 401, e 400, e 399, e 398, e 397, e 396, e 311] } }
    (after .fault s).line.report.slot.waiting.map (·.take 5) = some [6, 15, 0x60, 0x01, 0x37] := by decide

/-- Chapter 7, "a service visit": MASTER_ON from a station outside the set is refused, and the hold is unchanged. -/
theorem test_master_refused :
    let t := after .masterOn { w with line := { w.line with state := .busy, rx := [⟨8, 11, [16, 0]⟩] } }
    t.hold.reasons.master = false ∧ t.line.report.slot.waiting = some [16, 0, 3] := by decide

/-- Chapter 8, "a handle falls silent": the stale handle's request is not active, and the record goes later. -/
theorem test_handle_stale :
    let t := after (.recordStale 2) { w with table := heldTable }
    t.table.triggerHeld = false ∧ (t.table.find 2).isSome = true ∧
    ((after (.recordAgeRemoval 2) t).table.find 2).isSome = false := by decide

/-- R119, R134: a notice whose check agrees reaches the receive queue; one whose check does not is dropped. -/
theorem test_notice_received :
    let s := { w with line := { w.line with state := .busy, reception := some [] } }
    (after (.noticeReceived [0x89, 0x02, 0x03, 0x00, 0x7E]) s).line.rx = [⟨8, 9, [3, 0]⟩] ∧
    (after (.noticeReceived [0x89, 0x02, 0x03, 0x00, 0x7F]) s).line.rx = [] := by decide +kernel

/-- R180, R181: a memory that does not answer gives the defaults, and the start scan is ordered. -/
theorem test_load_default :
    let t := after (.configLoadEnd none) State.reset
    t.cfg = defaultSettings ∧ t.loader.loading = false := by decide

/-- R115: an edge whose start bit reads recessive at 5 µs begins no character; one that reads dominant does. -/
theorem test_glitch :
    let s := { w with line := { w.line with state := .idle } }
    (after (.lineFallingEdge (some 40)) s).line.reception = none ∧ (after (.lineFallingEdge (some 41)) s).line.reception = some [] ∧
    (after (.lineFallingEdge (some 40)) s).line.state = .busy := by decide

/-- R127: a release after 2 ms of dominance is no break; one just before it empties the receive queue. -/
theorem test_break_limit :
    let s := { w with
      time := { w.time with ticks := 15999 },
      line := { w.line with state := .inBreak, dominantFrom := some 0, rx := [⟨8, 9, [3, 0]⟩] } }
    (after .breakTaken s).line.rx = [] ∧
    (after .breakTaken { s with time := { s.time with ticks := 16000 } }).line.rx = [⟨8, 9, [3, 0]⟩] := by
  decide

/-- R38: at 40 kHz two period starts in a row lie 200 ticks apart, 1,200 counts of 48 MHz. -/
theorem test_period_grid :
    let s := { w with drive := { w.drive with period := 1200 } }
    let t := after (.periodStart 20000 0) s
    t.time.ticks = 200 ∧ (after (.periodStart 20000 0) t).time.ticks = 400 := by decide

/-- The machine awake with the wand line stuck. -/
def stuckLine : State := { w with line := { w.line with state := .stuck, stuck := true } }

/-- R129: an edge in STUCK told to last 100 ticks carries the recovery to 1 ms after its release. -/
theorem test_stuck_recovery :
    let t := after .stuckRecovery (after (.lineFallingEdge (some 100)) stuckLine)
    t.line.state = .idle ∧ t.time.ticks = 8100 := by decide

/-- R42: readings below 14,000 mV period after period run on from the first of them. -/
theorem test_undervoltage_runs_on :
    let s := { w with drive := { w.drive with state := .coast, period := 1200 } }
    let t := after (.periodStart 13900 0 (some 50)) s
    t.drive.uvSince = some 150 ∧ (after (.periodStart 13900 0) t).drive.uvSince = some 150 ∧
    (after (.periodStart 14000 0) t).drive.uvSince = none := by decide

/-- R131, R164, R165, R172: PACK_COLD and then LOW_ALLOWANCE of one scan put HOLD twice: the first goes out at once. -/
theorem test_two_holds_at_a_scan :
    let t := after (.scanCompletion { aScan with code1 := 3700, code2 := 3700 }) quietScan
    t.hold.reasons.packCold = true ∧ t.hold.reasons.lowAllowance = true ∧
    t.line.hold.slot = .inFlightReplaced [4] [] := by decide +kernel

/-- R151, R155, R110: the STALE dock record leaves first, BULK begins by the dock behind it, and the FAULT ends it. -/
theorem test_eviction_before_entry :
    let t := after .supply { w with
      line := { w.line with state := .busy, rx := [⟨3, 13, [3]⟩] }
      table := twoDocks
      charge := { w.charge with phase := .paused, window := some 1 }
      hold := { w.hold with stopCharge := false } }
    t.charge.phase = .fault ∧ t.hold.history.map (·.kind) = [.dockFault] := by decide

/-- R147, R166, R172: a refused action whose entry clears DRIVE_FAULT puts HOLD once: its attempt begins, and no other
HOLD waits behind it. -/
theorem test_one_hold_at_a_refused_action :
    let t := after .masterOn { w with
      line := { w.line with state := .idle, rx := [⟨8, 2, [16, 0]⟩] }
      table := twoHandles
      hold := { w.hold with reasons := { w.hold.reasons with driveFault := true } } }
    t.hold.reasons.driveFault = false ∧ t.line.hold.slot = .inFlight [17] := by decide +kernel

/-- R187: a report of contact levels that stand already leaves the unit asleep; a change of one wakes it. -/
theorem test_contacts_asleep :
    let s := { w with power := ⟨.sleep, none, none⟩ }
    (after (.headContactHigh true true) s).power.state = .sleep ∧
    (after (.headContactHigh true false) s).power.state = .doze := by decide

/-- Chapter 10, "power-on with the head seated", 15.2 ms: the break is taken at the 6224's release, where no other station
is told to hold the line. -/
theorem test_own_break_released :
    let s := { w with
      time := ⟨2400, 0, 2400⟩
      line := { w.line with state := .inBreak, breakOwed := true, dominantFrom := some 0 } }
    s.due = some .breakTaken ∧ { s with line := { s.line with risesAt := some 2401 } }.due = none := by decide

/-! ### Witnesses: states and operands that meet the hypotheses of the statements -/

set_option linter.unusedVariables false

theorem witness_StepRunsFrontCommand :
    ∃ (s : State) (c : Instr) (rest : List Instr), s.pending = c :: rest :=
  ⟨{ w with pending := [.lineIdle, .ident] }, .lineIdle, [.ident], by decide⟩

theorem witness_IdleStep :
    (∃ (s : State) (c : Instr), s.pending = [] ∧ s.due = some c) ∧
    (∃ (s : State), s.pending = [] ∧ s.due = none) :=
  ⟨⟨{ w with attach := { w.attach with seatTimer := some 0 } }, .seatTimerExpiry, by decide⟩,
   ⟨w, by decide⟩⟩

theorem witness_OutputsFollowReasons :
    ∃ (s : State) (t : State), ((lawLoading s ∧ undockedAsleep s ∧ lawLive s ∧ lawOutputs s)) ∧ step s = .next t :=
  ⟨State.reset, idle State.reset, by decide, rfl⟩

theorem witness_ShareAndAllowanceLaws :
    ∃ (s : State) (t : State), ((lawLoading s ∧ lawShare s ∧ lawAllowance s)) ∧ step s = .next t :=
  ⟨State.reset, idle State.reset, by decide, rfl⟩

theorem witness_TargetLaw :
    ∃ (s : State) (t : State), ((lawLoading s ∧ powersRaised s ∧ lawTarget s)) ∧ step s = .next t :=
  ⟨State.reset, idle State.reset, by decide, rfl⟩

theorem witness_DutyLaw :
    ∃ (s : State) (t : State), ((lawLoading s ∧ driveTimers s.drive ∧ lawDuty s)) ∧ step s = .next t :=
  ⟨State.reset, idle State.reset, by decide, rfl⟩

theorem witness_ImpactAndLevelLaws :
    ∃ (s : State) (t : State), ((lawLoading s ∧ driveTimers s.drive ∧ dirtTimers s ∧ dirtTable s ∧ lawImpacts s ∧
      lawLevel s)) ∧ step s = .next t :=
  ⟨State.reset, idle State.reset, by decide, rfl⟩

theorem witness_AskLaw :
    ∃ (s : State) (t : State), ((lawLoading s ∧ regulationTimer s ∧ lawAsk s)) ∧ step s = .next t :=
  ⟨State.reset, idle State.reset, by decide, rfl⟩

theorem witness_SwitchAndRailLaws :
    ∃ (s : State) (t : State), ((driveTimers s.drive ∧ lawSwitch s ∧ lawRail s ∧ lawBleeds s)) ∧ step s = .next t :=
  ⟨State.reset, idle State.reset, by decide, rfl⟩

theorem witness_StationLaws :
    ∃ (s : State) (t : State), ((lawLoading s ∧ lawReceive s ∧ lawTable s ∧ lawIdle s)) ∧ step s = .next t :=
  ⟨State.reset, idle State.reset, by decide, rfl⟩

theorem witness_ChargeLatchAndQueueLaws :
    ∃ (s : State) (t : State), ((lawLoading s ∧ ocvTable s ∧ lawCharge s ∧ lawLatch s ∧ lawHistory s ∧
      lawSamples s)) ∧ step s = .next t :=
  ⟨State.reset, idle State.reset, by decide, rfl⟩

theorem witness_AwakeLaw :
    ∃ (s : State) (t : State), ((driveTimers s.drive ∧ lawAwake s ∧ lawStarting s)) ∧ step s = .next t :=
  ⟨State.reset, idle State.reset, by decide, rfl⟩

theorem witness_TemperatureAndVoltageLimits :
    ∃ (s : State), s.activeCells ≠ [] :=
  ⟨w, by decide⟩

theorem witness_SlewedTarget :
    ∃ (s : State) (prev : Nat) (raw : Nat), s.cfg.pRunMin ≤ raw ∧ (prev = 0 ∨ s.cfg.pRunMin ≤ prev) :=
  ⟨w, 110, 450, by decide⟩

theorem witness_RawDirtLevel :
    ∃ (th : List Nat), th.length = 10 ∧ ascending th = true :=
  ⟨defaultDirt, by decide⟩

theorem witness_ConfigLoadEndFixesConfiguration :
    (∃ (s : State), s.loader.loading = true) ∧
    (∃ (s : State), s.loader.loading = true) ∧
    (∃ (s : State), s.loader.loading = false) :=
  ⟨⟨State.reset, by decide⟩,
   ⟨State.reset, by decide⟩,
   ⟨w, by decide⟩⟩

theorem witness_ScanTimerConversionsAndDelivery :
    (∃ (s : State) (d : Nat), s.pack.scanTimer = some d) ∧
    (∃ (s : State), s.pack.scan = .cells) ∧
    (∃ (s : State), s.pack.scan ≠ .cells) ∧
    (∃ (s : State) (d : Nat), s.pack.deliveryTimer = some d) :=
  ⟨⟨{ w with pack := { w.pack with scanTimer := some 80000 } }, 80000, by decide⟩,
   ⟨{ w with pack := { w.pack with scan := .cells } }, by decide⟩,
   ⟨w, by decide⟩,
   ⟨{ w with pack := { w.pack with deliveryTimer := some 5, q := 4500 } }, 5, by decide⟩⟩

theorem witness_RejectedScanKeepsReadings :
    (∃ (s : State) (r : ScanReading), s.pack.scan ≠ .none ∧ (r.reference < 9800 ∨ 10200 < r.reference)) ∧
    (∃ (s : State), s.pack.scan = .none) :=
  ⟨⟨{ w with pack := { w.pack with scan := .rest } }, { aScan with reference := 9799 }, by decide⟩,
   ⟨w, by decide⟩⟩

theorem witness_AcceptedScanTakesReadings :
    (∃ (s : State) (r : ScanReading), s.pack.scan ≠ .none ∧ (9800 ≤ r.reference ∧ r.reference ≤ 10200) ∧
      s.pack.cells.length = 7 ∧ r.cells.length = 7 ∧ s.cfg.cells ≤ 7) ∧
    (∃ (s : State) (r : ScanReading), s.pack.scan ≠ .none ∧ (9800 ≤ r.reference ∧ r.reference ≤ 10200)) ∧
    (∃ (s : State) (r : ScanReading), s.pack.scan ≠ .none ∧ (9800 ≤ r.reference ∧ r.reference ≤ 10200) ∧
      lawBleeds s) ∧
    (∃ (th : List Nat), th.length = 11 ∧ ascending th = true) ∧
    (∃ (th : List Nat) (k : Nat) (code : Nat), th.length = 9 ∧ descending th = true ∧ k < 8 ∧
      (k = 0 ∨ code ≤ th.getD k 0) ∧ (k = 7 ∨ th.getD (k + 1) 0 < code)) ∧
    (∃ (th : List Nat) (k : Nat) (code : Nat), th.length = 9 ∧ descending th = true ∧ k < 8 ∧
      (k = 0 ∨ code ≤ th.getD k 0) ∧ (k = 7 ∨ th.getD (k + 1) 0 < code)) ∧
    (∃ (th : List Nat) (k : Nat) (code : Nat), th.length = 9 ∧ descending th = true ∧ k < 8 ∧
      (k = 0 ∨ code ≤ th.getD k 0) ∧ (k = 7 ∨ th.getD (k + 1) 0 < code)) :=
  ⟨⟨{ w with pack := { w.pack with scan := .rest } }, aScan, by decide⟩,
   ⟨{ w with pack := { w.pack with scan := .rest } }, aScan, by decide⟩,
   ⟨{ w with pack := { w.pack with scan := .rest }, charge := { w.charge with
     phase := .topoff, window := some 1 } }, aScan, by decide⟩,
   ⟨defaultOcv, by decide⟩,
   ⟨defaultTherm, 3, 2100, by decide⟩,
   ⟨defaultTherm, 0, 4000, by decide⟩,
   ⟨defaultTherm, 7, 50, by decide⟩⟩

theorem witness_AllowanceAtScan :
    (∃ (s : State), s.pack.scan ≠ .none ∧ lawOutputs s ∧ s.charge.phase = .undocked ∧ s.charge.switch = false) ∧
    (∃ (s : State), s.pack.scan ≠ .none) ∧
    (∃ (s : State), s.pack.scan ≠ .none) ∧
    (∃ (s : State), s.pack.scan ≠ .none ∧ s.drive.state = .stopped) ∧
    (∃ (s : State), s.pack.scan ≠ .none ∧ lawOutputs s ∧ s.drive.state.driven = true) ∧
    (∃ (s : State), s.pack.scan ≠ .none ∧ lawOutputs s ∧ lawAsk s ∧
      (s.drive.state = .coast ∨ s.drive.state = .fault)) :=
  ⟨⟨{ w with pack := { w.pack with scan := .rest } }, by decide⟩,
   ⟨{ w with pack := { w.pack with scan := .rest }, charge := { w.charge with
     phase := .bulk, switch := true } }, by decide⟩,
   ⟨{ w with pack := { w.pack with scan := .rest }, attach := { w.attach with
     head := .seated, rail := true } }, by decide⟩,
   ⟨{ w with pack := { w.pack with scan := .rest } }, by decide⟩,
   ⟨{ w with pack := { w.pack with scan := .rest }, drive := { w.drive with state := .run } }, by decide⟩,
   ⟨{ w with pack := { w.pack with scan := .rest }, drive := { w.drive with
     state := .coast, restart := true } }, by decide⟩⟩

theorem witness_PwmPeriodAndTrip :
    (∃ (s : State), s.drive.period ≠ 0 ∧ s.power.state.ticking = true) ∧
    (∃ (s : State), (s.drive.period = 0 ∨ s.power.state.ticking = false)) ∧
    (∃ (s : State) (ma : Nat), s.drive.state.driven = true ∧ s.legsOn = true ∧ s.cfg.iTrip * 1000 < ma) ∧
    (∃ (s : State) (ma : Nat), (s.drive.state.driven = false ∨ s.legsOn = false ∨ ma ≤ s.cfg.iTrip * 1000)) :=
  ⟨⟨{ w with drive := { w.drive with period := 1200, state := .run, cutEarly := true, bufDuty := 300 } }, by decide⟩,
   ⟨State.reset, by decide⟩,
   ⟨{ w with drive := { w.drive with
     period := 1200, state := .run, gatesOn := true, appDuty := 300 } }, 45001, by decide⟩,
   ⟨w, 45000, by decide⟩⟩

theorem witness_OvercurrentAndUndervoltEnterFault :
    (∃ (s : State), s.drive.state.driven = true ∧ 8 ≤ s.drive.cutoffs ∧ s.table.triggerHeld = true) ∧
    (∃ (s : State), s.drive.state.driven = true ∧ 8 ≤ s.drive.cutoffs ∧ s.table.triggerHeld = false) ∧
    (∃ (s : State) (u : Nat), (s.drive.state.driven = true ∨ s.drive.state = .coast) ∧ s.drive.uvSince = some u ∧
      s.table.triggerHeld = true) ∧
    (∃ (s : State) (u : Nat), (s.drive.state.driven = true ∨ s.drive.state = .coast) ∧ s.drive.uvSince = some u ∧
      s.table.triggerHeld = false) ∧
    (∃ (s : State), (s.drive.state.driven = false ∨ s.drive.cutoffs < 8)) ∧
    (∃ (s : State), (s.drive.state = .stopped ∨ s.drive.state = .fault ∨ s.drive.uvSince = none)) :=
  ⟨⟨{ w with drive := { w.drive with state := .run, cutoffs := 8 }, table := heldTable }, by decide⟩,
   ⟨{ w with drive := { w.drive with state := .run, cutoffs := 8 } }, by decide⟩,
   ⟨{ w with drive := { w.drive with state := .coast, uvSince := some 7 }, table := heldTable }, 7, by decide⟩,
   ⟨{ w with drive := { w.drive with state := .align, uvSince := some 7 } }, 7, by decide⟩,
   ⟨w, by decide⟩,
   ⟨w, by decide⟩⟩

theorem witness_CommutationsInRampAndRun :
    (∃ (s : State) (d : Nat), s.drive.alignTimer = some d) ∧
    (∃ (s : State) (d : Nat) (e : Nat), s.drive.forcedTimer = some d ∧ s.drive.rampTimer = some e ∧ d ≤ e) ∧
    (∃ (s : State) (d : Nat) (e : Nat), s.drive.forcedTimer = some d ∧ s.drive.rampTimer = some e ∧ e < d) ∧
    (∃ (s : State) (d : Nat), s.drive.compare = some d) ∧
    (∃ (s : State) (d : Nat), s.drive.deadline = some d) :=
  ⟨⟨{ w with drive := { w.drive with state := .align, alignTimer := some 1200000 } }, 1200000, by decide⟩,
   ⟨{ w with drive := { w.drive with
     state := .ramp, forcedTimer := some 40000, rampTimer := some 3200000 } }, 40000, 3200000, by decide⟩,
   ⟨{ w with drive := { w.drive with
     state := .ramp, forcedTimer := some 3200001, rampTimer := some 3200000 } }, 3200001, 3200000, by decide⟩,
   ⟨{ w with drive := { w.drive with state := .run, step := 6, compare := some 640 } }, 640, by decide⟩,
   ⟨{ w with drive := { w.drive with state := .run, stepAvg := 700, deadline := some 1400 } }, 1400, by decide⟩⟩

theorem witness_CrossingInRun :
    (∃ (s : State) (after : Nat) (ph : MotorPhase) (ed : Edge), s.drive.state = .run ∧ s.inStep after = true ∧
      s.drive.armed = true ∧ s.drive.crossed = false ∧ floating s.drive.step = (ph, ed) ∧
        s.drive.stepAvg / 4 ≤ ((runTo (s.now + after) s).counter - s.drive.tC).toNat ∧
          (1 ≤ ((runTo (s.now + after) s).counter - s.drive.tRef).toNat ∧
            s.drive.stepAvg / 2 ≤ ((runTo (s.now + after) s).counter - s.drive.tRef).toNat ∧
              ((runTo (s.now + after) s).counter - s.drive.tRef).toNat ≤ 3 * s.drive.stepAvg / 2)) ∧
    (∃ (s : State) (after : Nat) (ph : MotorPhase) (ed : Edge), s.drive.state = .run ∧ s.inStep after = true ∧
      s.drive.armed = true ∧ s.drive.crossed = false ∧ floating s.drive.step = (ph, ed) ∧
        s.drive.stepAvg / 4 ≤ ((runTo (s.now + after) s).counter - s.drive.tC).toNat ∧
          (((runTo (s.now + after) s).counter - s.drive.tRef).toNat = 0 ∨
            ((runTo (s.now + after) s).counter - s.drive.tRef).toNat < s.drive.stepAvg / 2 ∨
              3 * s.drive.stepAvg / 2 < ((runTo (s.now + after) s).counter - s.drive.tRef).toNat)) ∧
    (∃ (s : State) (after : Nat) (ph : MotorPhase) (ed : Edge), s.drive.state = .run ∧ s.inStep after = true ∧
      (s.drive.armed = false ∨ s.drive.crossed = true ∨ floating s.drive.step ≠ (ph, ed) ∨
        ((runTo (s.now + after) s).counter - s.drive.tC).toNat < s.drive.stepAvg / 4)) ∧
    (∃ (s : State) (after : Nat), ((s.drive.state ≠ .run ∧ s.drive.state ≠ .ramp) ∨ s.inStep after = false)) :=
  ⟨⟨{ w with drive := { w.drive with
    state := .run, ring := [700, 700, 700, 700, 700, 700], stepAvg := 700, armed := true, deadline := some 1400 } },
    1050, .c, .rising, by decide⟩,
   ⟨{ w with drive := { w.drive with
     state := .run, ring := [700, 700, 700, 700, 700, 700], stepAvg := 700, armed := true,
     deadline := some 1400 } }, 349, .c, .rising, by decide⟩,
   ⟨{ w with drive := { w.drive with
     state := .run, stepAvg := 700, armed := true, deadline := some 1400 } }, 174, .c, .rising, by decide⟩,
   ⟨{ w with drive := { w.drive with state := .run, deadline := some 1400 } }, 1401, by decide⟩⟩

theorem witness_CrossingInRamp :
    (∃ (s : State) (after : Nat) (ph : MotorPhase) (ed : Edge), s.drive.state = .ramp ∧ s.inStep after = true ∧
      s.drive.armed = true ∧ s.drive.crossed = false ∧ floating s.drive.step = (ph, ed) ∧
        s.drive.forced / 4 ≤ ((runTo (s.now + after) s).counter - s.drive.tC).toNat ∧
          ((runTo (s.now + after) s).counter - s.drive.tC).toNat ≤ 3 * s.drive.forced / 4 ∧
            s.drive.goodCrossings < 11) ∧
    (∃ (s : State) (after : Nat) (ph : MotorPhase) (ed : Edge), s.drive.state = .ramp ∧ s.inStep after = true ∧
      s.drive.armed = true ∧ s.drive.crossed = false ∧ floating s.drive.step = (ph, ed) ∧
        3 * s.drive.forced / 4 < ((runTo (s.now + after) s).counter - s.drive.tC).toNat) ∧
    (∃ (s : State) (after : Nat) (ph : MotorPhase) (ed : Edge), s.drive.state = .ramp ∧ s.inStep after = true ∧
      s.drive.armed = true ∧ s.drive.crossed = false ∧ floating s.drive.step = (ph, ed) ∧
        s.drive.forced / 4 ≤ ((runTo (s.now + after) s).counter - s.drive.tC).toNat ∧
          ((runTo (s.now + after) s).counter - s.drive.tC).toNat ≤ 3 * s.drive.forced / 4 ∧
            11 ≤ s.drive.goodCrossings) ∧
    (∃ (s : State) (after : Nat) (ph : MotorPhase) (ed : Edge), s.drive.state = .ramp ∧ s.inStep after = true ∧
      (s.drive.armed = false ∨ s.drive.crossed = true ∨ floating s.drive.step ≠ (ph, ed) ∨
        ((runTo (s.now + after) s).counter - s.drive.tC).toNat < s.drive.forced / 4)) ∧
    (∃ (s : State) (after : Nat), s.drive.state = .ramp ∧
      s.drive.rampTimer.any (fun e => decide (e < s.now + after)) = true) :=
  ⟨⟨{ w with drive := { w.drive with
    state := .ramp, forced := 40000, armed := true, goodCrossings := 10, forcedTimer := some 40000 } }, 30000, .c,
    .rising, by decide⟩,
   ⟨{ w with drive := { w.drive with
     state := .ramp, forced := 40000, armed := true, goodCrossings := 10, forcedTimer := some 40000 } }, 30001, .c,
     .rising, by decide⟩,
   ⟨{ w with drive := { w.drive with
     state := .ramp, forced := 40000, armed := true, goodCrossings := 11, forcedTimer := some 40000 } }, 10000, .c,
     .rising, by decide⟩,
   ⟨{ w with drive := { w.drive with
     state := .ramp, forced := 40000, armed := true, forcedTimer := some 40000 } }, 9999, .c, .rising, by decide⟩,
   ⟨{ w with drive := { w.drive with
     state := .ramp, forced := 40000, armed := true, forcedTimer := some 40000, rampTimer := some 9999 } }, 10000,
     by decide⟩⟩

theorem witness_DesyncAndFailedRamp :
    (∃ (s : State), s.drive.state = .run ∧ 3 ≤ s.drive.badSteps ∧ s.drive.desyncs < 5) ∧
    (∃ (s : State), s.drive.state = .run ∧ 3 ≤ s.drive.badSteps ∧ 5 ≤ s.drive.desyncs ∧ s.table.triggerHeld = true) ∧
    (∃ (s : State), s.drive.state = .run ∧ 3 ≤ s.drive.badSteps ∧ 5 ≤ s.drive.desyncs ∧ s.table.triggerHeld = false) ∧
    (∃ (s : State) (d : Nat), s.drive.rampTimer = some d ∧ 2 ≤ s.drive.rampFailures ∧ s.table.triggerHeld = false) ∧
    (∃ (s : State) (d : Nat), s.drive.rampTimer = some d ∧ s.drive.rampFailures < 2) ∧
    (∃ (s : State) (d : Nat), s.drive.rampTimer = some d ∧ 2 ≤ s.drive.rampFailures ∧ s.table.triggerHeld = true) ∧
    (∃ (s : State), (s.drive.state ≠ .run ∨ s.drive.badSteps < 3)) :=
  ⟨⟨{ w with drive := { w.drive with state := .run, badSteps := 3, desyncs := 4, target := 60 } }, by decide⟩,
   ⟨{ w with drive := { w.drive with state := .run, badSteps := 3, desyncs := 5 }, table := heldTable }, by decide⟩,
   ⟨{ w with drive := { w.drive with state := .run, badSteps := 3, desyncs := 5 } }, by decide⟩,
   ⟨{ w with drive := { w.drive with state := .ramp, rampTimer := some 9, rampFailures := 2 } }, 9, by decide⟩,
   ⟨{ w with drive := { w.drive with state := .ramp, rampTimer := some 9, rampFailures := 1 } }, 9, by decide⟩,
   ⟨{ w with drive := { w.drive with
     state := .ramp, rampTimer := some 9, rampFailures := 2 }, table := heldTable }, 9, by decide⟩,
   ⟨w, by decide⟩⟩

theorem witness_ControlExpiryRegulates :
    (∃ (s : State) (d : Nat), s.drive.controlTimer = some d ∧ s.drive.powerCount ≠ 0) ∧
    (∃ (s : State) (d : Nat), s.drive.controlTimer = some d ∧ s.drive.powerCount = 0) :=
  ⟨⟨{ w with drive := { w.drive with
    state := .run, controlTimer := some 8000, powerSum := 900000000, powerCount := 2, target := 360 } }, 8000,
    by decide⟩,
   ⟨{ w with drive := { w.drive with state := .run, controlTimer := some 8000 } }, 8000, by decide⟩⟩

theorem witness_BlockedMarkAndRunSeconds :
    (∃ (s : State) (u : Nat), s.drive.blocked = false ∧ s.drive.blockedSetSince = some u) ∧
    (∃ (s : State) (u : Nat), s.drive.blocked = true ∧ s.drive.blockedClearSince = some u) ∧
    (∃ (s : State), 1000 ≤ s.drive.runFraction) ∧
    (∃ (s : State), (s.drive.blocked = true ∨ s.drive.blockedSetSince = none)) ∧
    (∃ (s : State), (s.drive.blocked = false ∨ s.drive.blockedClearSince = none)) ∧
    (∃ (s : State), s.drive.runFraction < 1000) :=
  ⟨⟨{ w with drive := { w.drive with state := .run, blockedSetSince := some 3 } }, 3, by decide⟩,
   ⟨{ w with drive := { w.drive with state := .run, blocked := true, blockedClearSince := some 3 } }, 3, by decide⟩,
   ⟨{ w with drive := { w.drive with runFraction := 1000 } }, by decide⟩,
   ⟨w, by decide⟩,
   ⟨w, by decide⟩,
   ⟨w, by decide⟩⟩

theorem witness_CoastEnds :
    (∃ (s : State) (d : Nat), s.drive.coastTimer = some d ∧ s.drive.restart = true ∧ s.drive.target ≠ 0) ∧
    (∃ (s : State) (d : Nat), s.drive.coastTimer = some d ∧ s.drive.restart = false ∧ s.drive.target ≠ 0) ∧
    (∃ (s : State) (d : Nat), s.drive.coastTimer = some d ∧ s.drive.target = 0) :=
  ⟨⟨{ w with drive := { w.drive with
    state := .coast, coastTimer := some 9, restart := true, target := 1 } }, 9, by decide⟩,
   ⟨{ w with drive := { w.drive with
     state := .coast, coastTimer := some 9, runNumber := 65535, target := 1 } }, 9, by decide⟩,
   ⟨{ w with drive := { w.drive with state := .coast, coastTimer := some 9 } }, 9, by decide⟩⟩

theorem witness_ImpactSamples :
    (∃ (s : State) (d : Nat) (v : Byte), s.dirt.sampleAt = some d ∧ s.dirt.det = .ready ∧ s.cfg.thLow ≤ v.toNat) ∧
    (∃ (s : State) (d : Nat) (v : Byte), s.dirt.sampleAt = some d ∧
      (s.dirt.det = .ready ∧ v.toNat < s.cfg.thLow ∨ s.dirt.det = .off)) ∧
    (∃ (s : State) (d : Nat) (v : Byte), s.dirt.sampleAt = some d ∧ (s.dirt.det = .above ∨ s.dirt.det = .trailing) ∧
      s.cfg.thLow ≤ v.toNat) ∧
    (∃ (s : State) (d : Nat) (v : Byte), s.dirt.sampleAt = some d ∧ s.dirt.det = .above ∧ v.toNat < s.cfg.thLow) ∧
    (∃ (s : State) (d : Nat) (v : Byte), s.dirt.sampleAt = some d ∧ s.dirt.det = .trailing ∧ v.toNat < s.cfg.thLow ∧
      s.dirt.below < 3) ∧
    (∃ (s : State) (d : Nat) (v : Byte), s.dirt.sampleAt = some d ∧ s.dirt.det = .trailing ∧ v.toNat < s.cfg.thLow ∧
      3 ≤ s.dirt.below ∧ s.dirt.duration < 3) ∧
    (∃ (s : State) (d : Nat) (v : Byte), s.dirt.sampleAt = some d ∧ s.dirt.det = .trailing ∧ v.toNat < s.cfg.thLow ∧
      3 ≤ s.dirt.below ∧ 3 ≤ s.dirt.duration) ∧
    (∃ (s : State) (d : Nat), s.dirt.sampleAt = some d ∧ s.dirt.det = .dead) :=
  ⟨⟨{ w with dirt := { w.dirt with det := .ready, sampleAt := some 80 } }, 80, 24, by decide⟩,
   ⟨{ w with dirt := { w.dirt with det := .ready, sampleAt := some 80 } }, 80, 23, by decide⟩,
   ⟨{ w with dirt := { w.dirt with
     det := .above, sampleAt := some 80, duration := 255, peak := 2 } }, 80, 64, by decide⟩,
   ⟨{ w with dirt := { w.dirt with det := .above, sampleAt := some 80 } }, 80, 23, by decide⟩,
   ⟨{ w with dirt := { w.dirt with det := .trailing, below := 2, sampleAt := some 80 } }, 80, 23, by decide⟩,
   ⟨{ w with dirt := { w.dirt with
     det := .trailing, below := 3, duration := 2, sampleAt := some 80 } }, 80, 0, by decide⟩,
   ⟨{ w with dirt := { w.dirt with
     det := .trailing, below := 3, duration := 3, sampleAt := some 80 } }, 80, 0, by decide⟩,
   ⟨{ w with dirt := { w.dirt with det := .dead, dead := 1, sampleAt := some 80 } }, 80, by decide⟩⟩

theorem witness_ScoringTakesFirstMatch :
    (∃ (s : State) (r : Impact) (rest : List Impact), s.dirt.queue = r :: rest) ∧
    (∃ (s : State), s.dirt.queue = []) ∧
    (∃ (r : Impact) (es : List ClassEntry) (k : Nat), (classify r 0 es).1 = some k) ∧
    (∃ (r : Impact) (es : List ClassEntry), (classify r 0 es).1 = none) :=
  ⟨⟨{ w with dirt := { w.dirt with queue := [⟨3, 20, 3, 0⟩] } }, ⟨3, 20, 3, 0⟩, [], by decide⟩,
   ⟨w, by decide⟩,
   ⟨⟨3, 20, 3, 0⟩, defaultClasses, 1, by decide⟩,
   ⟨⟨1, 25, 1, 0⟩, defaultClasses, by decide⟩⟩

theorem witness_WindowExpiryScores :
    (∃ (s : State) (d : Nat), s.dirt.windowTimer = some d ∧ s.table.usableHeadDirt = none) ∧
    (∃ (s : State) (d : Nat) (st : Nat) (p : HeadDirtPart), s.dirt.windowTimer = some d ∧
      s.table.usableHeadDirt = some (st, p)) :=
  ⟨⟨{ w with dirt := { w.dirt with
    windowTimer := some 800000, windowSum := 3, level := 1, fall := 4 } }, 800000, by decide +kernel⟩,
   ⟨{ w with dirt := { w.dirt with
     windowTimer := some 800000 }, table := headTable }, 800000, 4, ⟨20, 100, false⟩, by decide +kernel⟩⟩

theorem witness_DockInputEdges :
    (∃ (s : State) (mv : Nat), 5000 < mv ∧ s.running = true ∧ s.attach.dock = .undocked) ∧
    (∃ (s : State) (mv : Nat), 5000 < mv ∧
      (s.running = true ∧ s.attach.dock ≠ .undocked ∨ s.power.state = .starting)) ∧
    (∃ (s : State) (mv : Nat), 5000 < mv ∧ (s.power.state = .sleep ∨ s.power.state = .ship)) ∧
    (∃ (s : State) (mv : Nat), mv ≤ 5000 ∧ s.running = true ∧ s.attach.dock = .settling) ∧
    (∃ (s : State) (mv : Nat), mv < 3000 ∧ s.running = true ∧ s.attach.dock = .docked) ∧
    (∃ (s : State) (mv : Nat), 3000 ≤ mv ∧ mv ≤ 5000 ∧ s.running = true ∧ s.attach.dock = .docked) ∧
    (∃ (s : State) (mv : Nat), mv ≤ 5000 ∧ (s.running = false ∨ s.attach.dock = .undocked)) :=
  ⟨⟨w, 5001, by decide⟩,
   ⟨State.reset, 5001, by decide⟩,
   ⟨{ w with power := ⟨.ship, none, none⟩ }, 5001, by decide⟩,
   ⟨{ w with attach := { w.attach with dock := .settling, settleTimer := some 9 } }, 5000, by decide⟩,
   ⟨{ w with charge := { w.charge with phase := .bulk }, attach := { w.attach with
     dock := .docked } }, 2999, by decide⟩,
   ⟨{ w with attach := { w.attach with dock := .docked } }, 3000, by decide⟩,
   ⟨w, 0, by decide⟩⟩

theorem witness_SettleTimerDocks :
    ∃ (s : State) (d : Nat), s.attach.settleTimer = some d :=
  ⟨{ w with attach := { w.attach with dock := .settling, settleTimer := some 9 } }, 9, by decide⟩

theorem witness_AskTimers :
    (∃ (s : State) (d : Nat), s.charge.resendTimer = some d) ∧
    (∃ (s : State) (d : Nat), s.charge.echoTimer = some d ∧ s.charge.phase.charging = true ∧
      s.charge.awaiting = true) ∧
    (∃ (s : State) (d : Nat) (x : ChargeWindow), s.charge.regTimer = some d ∧ s.charge.phase = .topoff ∧
      s.window = some x ∧ s.charge.awaiting = false) ∧
    (∃ (s : State) (d : Nat), s.charge.regTimer = some d ∧ s.charge.awaiting = true) :=
  ⟨⟨{ w with charge := { w.charge with phase := .bulk, resendTimer := some 9 } }, 9, by decide⟩,
   ⟨{ w with charge := { w.charge with phase := .bulk, awaiting := true, echoTimer := some 9 } }, 9, by decide⟩,
   ⟨{ w with charge := { w.charge with
     phase := .topoff, window := some 1, regTimer := some 9, ask := ⟨true, 29700, 2500⟩ } }, 9,
     ⟨true, 10, 44, 2500, 4200⟩, by decide⟩,
   ⟨{ w with charge := { w.charge with phase := .topoff, awaiting := true, regTimer := some 9 } }, 9, by decide⟩⟩

theorem witness_ChargeControllerAtScan :
    (∃ (s : State) (r : ScanReading) (x : ChargeWindow), s.pack.scan ≠ .none ∧
      (9800 ≤ r.reference ∧ r.reference ≤ 10200) ∧
        (s.hold.stopCharge = false ∧ (scanPack r s).hold.stopCharge = false) ∧
          (reviewWindow s.cfg.windows s.charge.window (scanPack r s).pack.tPack).bind (s.cfg.windows[·]?) = some x ∧
            x.iChg ≠ 0 ∧ s.table.dockReady = true ∧ s.fullV x.vCell ≤ s.table.dockMaxV ∧
              s.charge.supplyLost = false ∧ s.charge.causes.unresponsive = false ∧
                (¬ (s.pack.scanSwitchClosed = true ∧
                  (scanPack r s).pack.dockReading + 100 ≤ (scanPack r s).pack.vPack))) ∧
    (∃ (s : State) (r : ScanReading) (x : ChargeWindow), s.pack.scan ≠ .none ∧
      (9800 ≤ r.reference ∧ r.reference ≤ 10200) ∧
        (s.hold.stopCharge = false ∧ (scanPack r s).hold.stopCharge = false) ∧
          (reviewWindow s.cfg.windows s.charge.window (scanPack r s).pack.tPack).bind (s.cfg.windows[·]?) = some x ∧
            x.iChg ≠ 0 ∧ s.table.dockReady = true ∧ s.fullV x.vCell ≤ s.table.dockMaxV ∧
              s.charge.supplyLost = false ∧ s.charge.causes.unresponsive = false ∧
                (¬ (s.pack.scanSwitchClosed = true ∧
                  (scanPack r s).pack.dockReading + 100 ≤ (scanPack r s).pack.vPack))) ∧
    (∃ (s : State) (r : ScanReading) (x : ChargeWindow), s.pack.scan ≠ .none ∧
      (9800 ≤ r.reference ∧ r.reference ≤ 10200) ∧
        (s.hold.stopCharge = false ∧ (scanPack r s).hold.stopCharge = false) ∧
          (reviewWindow s.cfg.windows s.charge.window (scanPack r s).pack.tPack).bind (s.cfg.windows[·]?) = some x ∧
            x.iChg ≠ 0 ∧ s.table.dockReady = true ∧ s.fullV x.vCell ≤ s.table.dockMaxV ∧
              s.charge.supplyLost = false ∧ s.charge.causes.unresponsive = false ∧
                (¬ (s.pack.scanSwitchClosed = true ∧
                  (scanPack r s).pack.dockReading + 100 ≤ (scanPack r s).pack.vPack))) ∧
    (∃ (s : State) (r : ScanReading) (x : ChargeWindow), s.pack.scan ≠ .none ∧
      (9800 ≤ r.reference ∧ r.reference ≤ 10200) ∧
        (s.hold.stopCharge = false ∧ (scanPack r s).hold.stopCharge = false) ∧
          (reviewWindow s.cfg.windows s.charge.window (scanPack r s).pack.tPack).bind (s.cfg.windows[·]?) = some x ∧
            x.iChg ≠ 0 ∧ s.table.dockReady = true ∧ s.fullV x.vCell ≤ s.table.dockMaxV ∧
              s.charge.supplyLost = false ∧ s.charge.causes.unresponsive = false ∧
                (¬ (s.pack.scanSwitchClosed = true ∧
                  (scanPack r s).pack.dockReading + 100 ≤ (scanPack r s).pack.vPack))) ∧
    (∃ (s : State) (r : ScanReading) (x : ChargeWindow), s.pack.scan ≠ .none ∧
      (9800 ≤ r.reference ∧ r.reference ≤ 10200) ∧
        (s.hold.stopCharge = false ∧ (scanPack r s).hold.stopCharge = false) ∧
          (reviewWindow s.cfg.windows s.charge.window (scanPack r s).pack.tPack).bind (s.cfg.windows[·]?) = some x ∧
            x.iChg ≠ 0 ∧ s.table.dockReady = true ∧ s.fullV x.vCell ≤ s.table.dockMaxV ∧
              s.charge.supplyLost = false ∧ s.charge.causes.unresponsive = false ∧
                (¬ (s.pack.scanSwitchClosed = true ∧
                  (scanPack r s).pack.dockReading + 100 ≤ (scanPack r s).pack.vPack))) ∧
    (∃ (s : State) (r : ScanReading) (x : ChargeWindow), s.pack.scan ≠ .none ∧
      (9800 ≤ r.reference ∧ r.reference ≤ 10200) ∧
        (s.hold.stopCharge = false ∧ (scanPack r s).hold.stopCharge = false) ∧
          (reviewWindow s.cfg.windows s.charge.window (scanPack r s).pack.tPack).bind (s.cfg.windows[·]?) = some x ∧
            x.iChg ≠ 0 ∧ s.table.dockReady = true ∧ s.fullV x.vCell ≤ s.table.dockMaxV ∧
              s.charge.supplyLost = false ∧ s.charge.causes.unresponsive = false ∧
                (¬ (s.pack.scanSwitchClosed = true ∧
                  (scanPack r s).pack.dockReading + 100 ≤ (scanPack r s).pack.vPack))) ∧
    (∃ (s : State) (r : ScanReading), s.pack.scan ≠ .none ∧ (9800 ≤ r.reference ∧ r.reference ≤ 10200) ∧
      (s.hold.stopCharge = false ∧ (scanPack r s).hold.stopCharge = false) ∧ s.charge.phase.charging = true ∧
        (((reviewWindow s.cfg.windows s.charge.window (scanPack r s).pack.tPack).bind (s.cfg.windows[·]?)).all (·.iChg = 0) = true ∨ s.table.dockReady = false ∨ s.pack.scanSwitchClosed = true ∧ (scanPack r s).pack.dockReading + 100 ≤ (scanPack r s).pack.vPack)) ∧
    (∃ (s : State) (r : ScanReading), s.pack.scan ≠ .none ∧ (9800 ≤ r.reference ∧ r.reference ≤ 10200) ∧
      (s.hold.stopCharge = false ∧ (scanPack r s).hold.stopCharge = false) ∧ s.charge.phase.charging = true ∧
        (((reviewWindow s.cfg.windows s.charge.window (scanPack r s).pack.tPack).bind (s.cfg.windows[·]?)).all (·.iChg = 0) = true ∨ s.table.dockReady = false ∨ s.pack.scanSwitchClosed = true ∧ (scanPack r s).pack.dockReading + 100 ≤ (scanPack r s).pack.vPack)) ∧
    (∃ (s : State) (r : ScanReading), s.pack.scan ≠ .none ∧ (9800 ≤ r.reference ∧ r.reference ≤ 10200) ∧
      (s.hold.stopCharge = false ∧ (scanPack r s).hold.stopCharge = false) ∧ s.charge.phase.charging = true ∧
        (((reviewWindow s.cfg.windows s.charge.window (scanPack r s).pack.tPack).bind (s.cfg.windows[·]?)).all (·.iChg = 0) = true ∨ s.table.dockReady = false ∨ s.pack.scanSwitchClosed = true ∧ (scanPack r s).pack.dockReading + 100 ≤ (scanPack r s).pack.vPack)) ∧
    (∃ (s : State) (r : ScanReading), s.pack.scan ≠ .none ∧ (9800 ≤ r.reference ∧ r.reference ≤ 10200) ∧
      becameHigh s.activeCells (scanPack r s).activeCells = true ∧
        (s.charge.phase.charging = true ∨ s.charge.phase = .paused)) ∧
    (∃ (s : State) (r : ScanReading), s.pack.scan ≠ .none ∧ (9800 ≤ r.reference ∧ r.reference ≤ 10200) ∧
      (s.charge.phase = .undocked ∨ s.charge.phase = .fault)) ∧
    (∃ (s : State) (r : ScanReading), s.pack.scan ≠ .none ∧ (r.reference < 9800 ∨ 10200 < r.reference) ∧
      (scanPack r s).hold.stopCharge = s.hold.stopCharge) :=
  ⟨⟨{ w with pack := { w.pack with scan := .rest }, charge := { w.charge with
    phase := .precharge, window := some 1 }, hold := { w.hold with stopCharge := false }, table := readyTable },
    aScan, ⟨true, 10, 44, 2500, 4200⟩, by decide⟩,
   ⟨{ w with pack := { w.pack with scan := .rest }, charge := { w.charge with
     phase := .bulk, window := some 1 }, hold := { w.hold with stopCharge := false }, table := readyTable }, aScan,
     ⟨true, 10, 44, 2500, 4200⟩, by decide⟩,
   ⟨{ w with pack := { w.pack with scan := .rest }, charge := { w.charge with
     phase := .done, window := some 1 }, hold := { w.hold with stopCharge := false }, table := readyTable }, aScan,
     ⟨true, 10, 44, 2500, 4200⟩, by decide⟩,
   ⟨{ w with pack := { w.pack with scan := .rest }, charge := { w.charge with
     phase := .waiting, window := some 1 }, hold := { w.hold with stopCharge := false }, table := readyTable },
     { aScan with cells := [11980, 15121, 15122, 15123, 15124, 15125, 15126] }, ⟨true, 10, 44, 2500, 4200⟩, by decide⟩,
   ⟨{ w with pack := { w.pack with scan := .rest }, charge := { w.charge with
     phase := .paused, window := some 1 }, hold := { w.hold with stopCharge := false }, table := readyTable },
     aScan, ⟨true, 10, 44, 2500, 4200⟩, by decide⟩,
   ⟨{ w with pack := { w.pack with scan := .rest }, charge := { w.charge with
     phase := .topoff, window := some 1 }, hold := { w.hold with stopCharge := false }, table := readyTable },
     aScan, ⟨true, 10, 44, 2500, 4200⟩, by decide⟩,
   ⟨{ w with pack := { w.pack with scan := .rest }, charge := { w.charge with
     phase := .bulk, window := some 1 }, hold := { w.hold with stopCharge := false }, table := readyTable },
     { aScan with code1 := 700, code2 := 700 }, by decide⟩,
   ⟨{ w with pack := { w.pack with scan := .rest }, charge := { w.charge with
     phase := .bulk, window := some 1 }, hold := { w.hold with stopCharge := false } }, aScan, by decide⟩,
   ⟨{ w with pack := { w.pack with scan := .rest, scanSwitchClosed := true }, charge := { w.charge with
     phase := .topoff, window := some 1 }, hold := { w.hold with stopCharge := false }, table := readyTable },
     aScan, by decide⟩,
   ⟨{ w with pack := { w.pack with scan := .rest }, charge := { w.charge with
     phase := .bulk, window := some 1 }, hold := { w.hold with stopCharge := false }, table := readyTable },
     { aScan with cells := [17200, 15121, 15122, 15123, 15124, 15125, 15126] }, by decide⟩,
   ⟨{ w with pack := { w.pack with scan := .rest }, charge := { w.charge with phase := .fault }, hold := { w.hold with
     stopCharge := false } }, aScan, by decide⟩,
   ⟨{ w with pack := { w.pack with scan := .rest }, charge := { w.charge with phase := .bulk }, hold := { w.hold with
     stopCharge := true } }, { aScan with reference := 9799 }, by decide⟩⟩

theorem witness_ChargeEndsInDoneOrFault :
    (∃ (s : State) (a : Nat) (d : Nat), s.charge.termination = ⟨a, some d⟩ ∧ 0 < s.cfg.capacity) ∧
    (∃ (s : State) (d : Nat), s.charge.precharge.endsAt (sec 1800) = some d) ∧
    (∃ (s : State) (d : Nat), s.charge.total.endsAt (sec 14400) = some d) :=
  ⟨⟨{ w with charge := { w.charge with
    phase := .topoff, termination := ⟨0, some 1⟩, completions := 65535 } }, 0, 1, by decide⟩,
   ⟨{ w with charge := { w.charge with phase := .precharge, precharge := ⟨5, some 1⟩ } }, 14399999996, by decide⟩,
   ⟨{ w with charge := { w.charge with phase := .bulk, total := ⟨0, some 1⟩ } }, 115200000001, by decide⟩⟩

theorem witness_NoticeReceivedQueuesOrRefuses :
    (∃ (s : State) (cs : List Byte) (n : Notice), s.receiving = true ∧ noticeShape cs = true ∧
      parseNotice cs = some n ∧ crc8 cs.dropLast = cs.getLastD 0 ∧ 1 ≤ n.cls ∧ 1 ≤ n.station ∧ n.station ≤ 14 ∧
        n.station ≠ s.cfg.station ∧ s.line.rx.length < 4) ∧
    (∃ (s : State) (cs : List Byte) (n : Notice), s.receiving = true ∧ noticeShape cs = true ∧
      parseNotice cs = some n ∧ crc8 cs.dropLast = cs.getLastD 0 ∧ 1 ≤ n.cls ∧ 1 ≤ n.station ∧ n.station ≤ 14 ∧
        n.station ≠ s.cfg.station ∧ 4 ≤ s.line.rx.length) ∧
    (∃ (s : State) (cs : List Byte) (n : Notice), s.receiving = true ∧ noticeShape cs = true ∧
      parseNotice cs = some n ∧ crc8 cs.dropLast = cs.getLastD 0 ∧ 1 ≤ n.cls ∧ 1 ≤ n.station ∧ n.station ≤ 14 ∧
        n.station = s.cfg.station) ∧
    (∃ (s : State) (cs : List Byte) (n : Notice), s.receiving = true ∧ noticeShape cs = true ∧
      parseNotice cs = some n ∧ (crc8 cs.dropLast ≠ cs.getLastD 0 ∨ n.cls = 0 ∨ n.station = 0 ∨ 14 < n.station)) ∧
    (∃ (s : State) (cs : List Byte), (s.receiving = false ∨ noticeShape cs = false)) :=
  ⟨⟨{ w with line := { w.line with
    state := .busy, reception := some [] } }, noticeChars 1 2 [1], ⟨1, 2, [1]⟩, by decide +kernel⟩,
   ⟨{ w with line := { w.line with
     state := .busy, reception := some [], rx := [⟨1, 2, []⟩, ⟨1, 2, []⟩, ⟨1, 2, []⟩, ⟨1, 2, []⟩] } },
     noticeChars 15 14 [], ⟨15, 14, []⟩, by decide +kernel⟩,
   ⟨{ w with line := { w.line with
     state := .busy, reception := some [] } }, noticeChars 1 1 [], ⟨1, 1, []⟩, by decide +kernel⟩,
   ⟨{ w with line := { w.line with
     state := .busy, reception := some [] } }, noticeChars 1 15 [], ⟨1, 15, []⟩, by decide +kernel⟩,
   ⟨w, [], by decide +kernel⟩⟩

theorem witness_HandledNoticesEnterTheTable :
    (∃ (s : State) (c : Instr) (n : Notice) (rest : List Notice) (tb : Table), Handles s n rest tb n.cls ∧
      ((c, n.cls) ∈ [(Instr.hold, 1), (Instr.draw, 5), (Instr.headDirt, 6)] ∨ c = .otherClassNotice ∧
        n.cls ∈ [4, 7, 9, 10, 11, 12, 13, 14, 15])) ∧
    (∃ (s : State) (c : Instr) (n : Notice) (rest : List Notice) (tb : Table), Handles s n rest tb n.cls ∧
      ((c, n.cls) ∈ [(Instr.hold, 1), (Instr.draw, 5), (Instr.headDirt, 6)] ∨ c = .otherClassNotice ∧
        n.cls ∈ [4, 7, 9, 10, 11, 12, 13, 14, 15])) ∧
    (∃ (s : State) (c : Instr) (n : Notice) (rest : List Notice) (tb : Table), Handles s n rest tb n.cls ∧
      ((c, n.cls) ∈ [(Instr.hold, 1), (Instr.draw, 5), (Instr.headDirt, 6)] ∨ c = .otherClassNotice ∧
        n.cls ∈ [4, 7, 9, 10, 11, 12, 13, 14, 15])) ∧
    (∃ (s : State) (c : Instr) (n : Notice) (rest : List Notice) (tb : Table), Handles s n rest tb n.cls ∧
      ((c, n.cls) ∈ [(Instr.hold, 1), (Instr.draw, 5), (Instr.headDirt, 6)] ∨ c = .otherClassNotice ∧
        n.cls ∈ [4, 7, 9, 10, 11, 12, 13, 14, 15])) ∧
    (∃ (s : State) (c : Instr) (n : Notice) (rest : List Notice) (tb : Table), Handles s n rest tb 2 ∧ c = .request) ∧
    (∃ (s : State) (c : Instr) (n : Notice) (rest : List Notice) (tb : Table), Handles s n rest tb 2 ∧ c = .request ∧
      s.hold.reasons.driveFault = true ∧ tb.wish ≠ s.table.wish ∧ tb.triggerHeld = false) :=
  ⟨⟨{ w with line := { w.line with
    rx := [⟨1, 2, [1]⟩] } }, .hold, ⟨1, 2, [1]⟩, [], (w.table.enter ⟨1, 2, [1]⟩ 0).getD .reset, by decide⟩,
   ⟨{ w with line := { w.line with
     rx := [⟨5, 4, [0, 3, 0xE8, 0, 0]⟩] } }, .draw, ⟨5, 4, [0, 3, 0xE8, 0, 0]⟩, [],
     (w.table.enter ⟨5, 4, [0, 3, 0xE8, 0, 0]⟩ 0).getD .reset, by decide⟩,
   ⟨{ w with line := { w.line with
     rx := [⟨6, 4, [0, 20, 0, 100]⟩] } }, .headDirt, ⟨6, 4, [0, 20, 0, 100]⟩, [],
     (w.table.enter ⟨6, 4, [0, 20, 0, 100]⟩ 0).getD .reset, by decide⟩,
   ⟨{ w with line := { w.line with
     rx := [⟨15, 14, []⟩] } }, .otherClassNotice, ⟨15, 14, []⟩, [], (w.table.enter ⟨15, 14, []⟩ 0).getD .reset,
     by decide⟩,
   ⟨{ w with line := { w.line with
     rx := [⟨2, 2, [1, 4, 0xFF, 0xFF]⟩] } }, .request, ⟨2, 2, [1, 4, 0xFF, 0xFF]⟩, [],
     (w.table.enter ⟨2, 2, [1, 4, 0xFF, 0xFF]⟩ 0).getD .reset, by decide⟩,
   ⟨{ w with line := { w.line with rx := [⟨2, 2, [0]⟩] }, hold := { w.hold with
     reasons := { w.hold.reasons with driveFault := true } }, drive := { w.drive with state := .fault } }, .request,
     ⟨2, 2, [0]⟩, [], (w.table.enter ⟨2, 2, [0]⟩ 0).getD .reset, by decide⟩⟩

theorem witness_SupplyTestsEcho :
    (∃ (s : State) (n : Notice) (rest : List Notice) (tb : Table), Handles s n rest tb 3 ∧
      (n.supplyPart.state ≠ .fault ∨ (evict n s).charge.phase.charging = false)) ∧
    (∃ (s : State) (n : Notice) (rest : List Notice) (tb : Table), Handles s n rest tb 3 ∧
      n.supplyPart.state = .fault ∧ (evict n s).charge.phase.charging = true) ∧
    (∃ (s : State) (n : Notice) (rest : List Notice) (tb : Table) (old : Record) (x : ChargeWindow), Handles s n rest tb 3 ∧ n.supplyPart.state = .fault ∧ s.charge.phase = .paused ∧ s.table.evicts n = some old ∧ s.table.dockRecord = some old ∧ (s.table.remove old.station).dockReady = true ∧ s.liveWindow = some x ∧ s.fullV x.vCell ≤ (s.table.remove old.station).dockMaxV ∧ s.charge.supplyLost = false ∧ s.charge.causes.unresponsive = false ∧ (evict n s).hold.stopCharge = false) :=
  ⟨⟨{ w with line := { w.line with
    rx := [⟨3, 6, [1, 0x75, 0x30, 0x0B, 0xB8, 0, 0, 0, 0, 0, 0]⟩] } },
    ⟨3, 6, [1, 0x75, 0x30, 0x0B, 0xB8, 0, 0, 0, 0, 0, 0]⟩, [], (w.table.enter ⟨3, 6, [1, 0x75, 0x30, 0x0B, 0xB8, 0, 0, 0, 0, 0, 0]⟩ 0).getD .reset, by decide⟩,
   ⟨{ w with line := { w.line with rx := [⟨3, 6, [3]⟩] }, charge := { w.charge with
     phase := .bulk, ask := ⟨true, 29700, 2500⟩ } }, ⟨3, 6, [3]⟩, [], (w.table.enter ⟨3, 6, [3]⟩ 0).getD .reset,
     by decide⟩,
   ⟨{ w with line := { w.line with state := .busy, rx := [⟨3, 13, [3]⟩] }, table := twoDocks, charge := { w.charge with
     phase := .paused, window := some 1 }, hold := { w.hold with stopCharge := false } }, ⟨3, 13, [3]⟩, [],
     (twoDocks.enter ⟨3, 13, [3]⟩ 0).getD .reset, (twoDocks.find 6).getD (.blank 6), ⟨true, 10, 44, 2500, 4200⟩, by decide⟩⟩

theorem witness_FullTableRefuses :
    ∃ (s : State) (c : Instr) (n : Notice) (rest : List Notice), s.running = true ∧ s.line.rx = n :: rest ∧
      s.table.enter n s.now = none ∧
        ((c, n.cls) ∈ [(Instr.hold, 1), (Instr.request, 2), (Instr.supply, 3), (Instr.draw, 5), (Instr.headDirt, 6)] ∨
      c = .otherClassNotice ∧ n.cls ∈ [4, 7, 9, 10, 11, 12, 13, 14, 15] ∨
      n.cls = 8 ∧ (c, n.item) ∈ [(Instr.ident, 0), (Instr.runs, 1), (Instr.modeTime, 2), (Instr.chargeCounts, 3),
        (Instr.cellsA, 4), (Instr.cellsB, 5), (Instr.fault, 6), (Instr.sample, 7), (Instr.holds, 8), (Instr.table, 9),
        (Instr.masterOn, 16), (Instr.masterOff, 17), (Instr.clearHistory, 18), (Instr.ship, 19)] ∨
      n.cls = 8 ∧ c = .unknownItem ∧ (9 < n.item ∧ n.item < 16 ∨ 19 < n.item)) :=
  ⟨{ w with line := { w.line with
    rx := [⟨8, 9, [10, 0]⟩] }, table := fullTable }, .unknownItem, ⟨8, 9, [10, 0]⟩, [], by decide⟩

theorem witness_TableEntryRule :
    (∃ (tb : Table) (u : Table) (n : Notice) (now : Nat), (tb.records.map (·.station)).Nodup ∧
      tb.enter n now = some u) ∧
    (∃ (tb : Table) (n : Notice) (old : Record), (tb.records.map (·.station)).Nodup ∧ tb.records.length ≤ 6 ∧
      tb.evicts n = some old) :=
  ⟨⟨.reset, (Table.reset.enter ⟨2, 3, [1, 1]⟩ 7).getD .reset, ⟨2, 3, [1, 1]⟩, 7, by decide⟩,
   ⟨twoDocks, ⟨3, 13, [3]⟩, (twoDocks.find 6).getD (.blank 6), by decide⟩⟩

theorem witness_QueriesAnswerTheirValues :
    (∃ (s : State) (n : Notice) (rest : List Notice) (tb : Table), Handles s n rest tb 8 ∧ n.item = 0 ∧
      (s.report.shipAnswer ≠ .waiting ∨ s.report.shipPending = none)) ∧
    (∃ (s : State) (n : Notice) (rest : List Notice) (tb : Table), Handles s n rest tb 8 ∧ n.item = 1 ∧
      (s.report.shipAnswer ≠ .waiting ∨ s.report.shipPending = none)) ∧
    (∃ (s : State) (n : Notice) (rest : List Notice) (tb : Table), Handles s n rest tb 8 ∧ n.item = 2 ∧
      (s.report.shipAnswer ≠ .waiting ∨ s.report.shipPending = none)) ∧
    (∃ (s : State) (n : Notice) (rest : List Notice) (tb : Table), Handles s n rest tb 8 ∧ n.item = 3 ∧
      (s.report.shipAnswer ≠ .waiting ∨ s.report.shipPending = none)) ∧
    (∃ (s : State) (n : Notice) (rest : List Notice) (tb : Table), Handles s n rest tb 8 ∧ n.item = 4 ∧
      (s.report.shipAnswer ≠ .waiting ∨ s.report.shipPending = none)) ∧
    (∃ (s : State) (n : Notice) (rest : List Notice) (tb : Table), Handles s n rest tb 8 ∧ n.item = 5 ∧
      (s.report.shipAnswer ≠ .waiting ∨ s.report.shipPending = none)) ∧
    (∃ (s : State) (n : Notice) (rest : List Notice) (tb : Table), Handles s n rest tb 8 ∧ n.item = 8 ∧
      (s.report.shipAnswer ≠ .waiting ∨ s.report.shipPending = none)) ∧
    (∃ (s : State) (n : Notice) (rest : List Notice) (tb : Table), Handles s n rest tb 8 ∧ n.item = 6 ∧
      (s.report.shipAnswer ≠ .waiting ∨ s.report.shipPending = none)) ∧
    (∃ (s : State) (n : Notice) (rest : List Notice) (tb : Table), Handles s n rest tb 8 ∧ n.item = 7 ∧
      (s.report.shipAnswer ≠ .waiting ∨ s.report.shipPending = none)) ∧
    (∃ (s : State) (n : Notice) (rest : List Notice) (tb : Table), Handles s n rest tb 8 ∧ n.item = 9 ∧
      (s.report.shipAnswer ≠ .waiting ∨ s.report.shipPending = none)) ∧
    (∃ (s : State) (n : Notice) (rest : List Notice) (tb : Table), Handles s n rest tb 8 ∧
      ((9 < n.item ∧ n.item < 16) ∨ 19 < n.item) ∧ (s.report.shipAnswer ≠ .waiting ∨ s.report.shipPending = none)) :=
  ⟨⟨{ w with line := { w.line with
    rx := [⟨8, 9, [0, 3]⟩] } }, ⟨8, 9, [0, 3]⟩, [], (w.table.enter ⟨8, 9, [0, 3]⟩ 0).getD .reset, by decide⟩,
   ⟨{ w with line := { w.line with
     rx := [⟨8, 9, [1, 3]⟩] } }, ⟨8, 9, [1, 3]⟩, [], (w.table.enter ⟨8, 9, [1, 3]⟩ 0).getD .reset, by decide⟩,
   ⟨{ w with line := { w.line with
     rx := [⟨8, 9, [2, 3]⟩] } }, ⟨8, 9, [2, 3]⟩, [], (w.table.enter ⟨8, 9, [2, 3]⟩ 0).getD .reset, by decide⟩,
   ⟨{ w with line := { w.line with
     rx := [⟨8, 9, [3, 3]⟩] } }, ⟨8, 9, [3, 3]⟩, [], (w.table.enter ⟨8, 9, [3, 3]⟩ 0).getD .reset, by decide⟩,
   ⟨{ w with line := { w.line with
     rx := [⟨8, 9, [4, 3]⟩] } }, ⟨8, 9, [4, 3]⟩, [], (w.table.enter ⟨8, 9, [4, 3]⟩ 0).getD .reset, by decide⟩,
   ⟨{ w with line := { w.line with
     rx := [⟨8, 9, [5, 3]⟩] } }, ⟨8, 9, [5, 3]⟩, [], (w.table.enter ⟨8, 9, [5, 3]⟩ 0).getD .reset, by decide⟩,
   ⟨{ w with line := { w.line with
     rx := [⟨8, 9, [8, 3]⟩] } }, ⟨8, 9, [8, 3]⟩, [], (w.table.enter ⟨8, 9, [8, 3]⟩ 0).getD .reset, by decide⟩,
   ⟨{ w with line := { w.line with
     rx := [⟨8, 9, [6, 3]⟩] } }, ⟨8, 9, [6, 3]⟩, [], (w.table.enter ⟨8, 9, [6, 3]⟩ 0).getD .reset, by decide⟩,
   ⟨{ w with line := { w.line with
     rx := [⟨8, 9, [7, 0]⟩] } }, ⟨8, 9, [7, 0]⟩, [], (w.table.enter ⟨8, 9, [7, 0]⟩ 0).getD .reset, by decide⟩,
   ⟨{ w with line := { w.line with
     rx := [⟨8, 9, [9, 3]⟩] } }, ⟨8, 9, [9, 3]⟩, [], (w.table.enter ⟨8, 9, [9, 3]⟩ 0).getD .reset, by decide⟩,
   ⟨{ w with line := { w.line with
     rx := [⟨8, 9, [20, 0]⟩] } }, ⟨8, 9, [20, 0]⟩, [], (w.table.enter ⟨8, 9, [20, 0]⟩ 0).getD .reset, by decide⟩⟩

theorem witness_ActionsServeTheServiceSet :
    (∃ (s : State) (n : Notice) (rest : List Notice) (tb : Table), Handles s n rest tb 8 ∧ n.item = 16 ∧
      s.report.shipAnswer ≠ .waiting ∧ s.cfg.serviceStations.getLsbD n.station = true) ∧
    (∃ (s : State) (n : Notice) (rest : List Notice) (tb : Table), Handles s n rest tb 8 ∧ n.item = 17 ∧
      s.report.shipAnswer ≠ .waiting ∧ s.cfg.serviceStations.getLsbD n.station = true) ∧
    (∃ (s : State) (n : Notice) (rest : List Notice) (tb : Table), Handles s n rest tb 8 ∧ n.item = 18 ∧
      s.report.shipAnswer ≠ .waiting ∧ s.cfg.serviceStations.getLsbD n.station = true) ∧
    (∃ (s : State) (n : Notice) (rest : List Notice) (tb : Table), Handles s n rest tb 8 ∧ n.item = 19 ∧
      s.report.shipAnswer ≠ .waiting ∧ (s.cfg.serviceStations.getLsbD n.station = true ∧ s.attach.dock ≠ .docked)) ∧
    (∃ (s : State) (n : Notice) (rest : List Notice) (tb : Table), Handles s n rest tb 8 ∧ n.item = 16 ∧
      s.report.shipAnswer ≠ .waiting ∧ s.cfg.serviceStations.getLsbD n.station = false) ∧
    (∃ (s : State) (n : Notice) (rest : List Notice) (tb : Table), Handles s n rest tb 8 ∧ n.item = 17 ∧
      s.report.shipAnswer ≠ .waiting ∧ s.cfg.serviceStations.getLsbD n.station = false) ∧
    (∃ (s : State) (n : Notice) (rest : List Notice) (tb : Table), Handles s n rest tb 8 ∧ n.item = 18 ∧
      s.report.shipAnswer ≠ .waiting ∧ s.cfg.serviceStations.getLsbD n.station = false) ∧
    (∃ (s : State) (n : Notice) (rest : List Notice) (tb : Table), Handles s n rest tb 8 ∧ n.item = 19 ∧
      s.report.shipAnswer ≠ .waiting ∧ (s.cfg.serviceStations.getLsbD n.station = false ∨ s.attach.dock = .docked)) ∧
    (∃ (s : State) (n : Notice) (rest : List Notice) (tb : Table), Handles s n rest tb 8 ∧
      (n.item = 16 ∨ n.item = 17 ∨ n.item = 18) ∧ s.cfg.serviceStations.getLsbD n.station = false ∧
        s.report.shipAnswer ≠ .waiting ∧ s.table.evicts n = none ∧ s.mayBegin = true ∧ s.line.hold.slot = .empty) :=
  ⟨⟨{ w with line := { w.line with rx := [⟨8, 9, [16, 0]⟩] }, loader := { w.loader with
    cfg := { defaultSettings with serviceStations := 0x0200 } } }, ⟨8, 9, [16, 0]⟩, [],
    (w.table.enter ⟨8, 9, [16, 0]⟩ 0).getD .reset, by decide⟩,
   ⟨{ w with line := { w.line with rx := [⟨8, 9, [17, 0]⟩] }, loader := { w.loader with
     cfg := { defaultSettings with serviceStations := 0x0200 } } }, ⟨8, 9, [17, 0]⟩, [],
     (w.table.enter ⟨8, 9, [17, 0]⟩ 0).getD .reset, by decide⟩,
   ⟨{ w with line := { w.line with rx := [⟨8, 9, [18, 0]⟩] }, loader := { w.loader with
     cfg := { defaultSettings with serviceStations := 0x0200 } } }, ⟨8, 9, [18, 0]⟩, [],
     (w.table.enter ⟨8, 9, [18, 0]⟩ 0).getD .reset, by decide⟩,
   ⟨{ w with line := { w.line with rx := [⟨8, 9, [19, 0]⟩] }, loader := { w.loader with
     cfg := { defaultSettings with serviceStations := 0x0200 } } }, ⟨8, 9, [19, 0]⟩, [],
     (w.table.enter ⟨8, 9, [19, 0]⟩ 0).getD .reset, by decide⟩,
   ⟨{ w with line := { w.line with
     rx := [⟨8, 9, [16, 0]⟩] } }, ⟨8, 9, [16, 0]⟩, [], (w.table.enter ⟨8, 9, [16, 0]⟩ 0).getD .reset, by decide⟩,
   ⟨{ w with line := { w.line with
     rx := [⟨8, 9, [17, 0]⟩] } }, ⟨8, 9, [17, 0]⟩, [], (w.table.enter ⟨8, 9, [17, 0]⟩ 0).getD .reset, by decide⟩,
   ⟨{ w with line := { w.line with
     rx := [⟨8, 9, [18, 0]⟩] } }, ⟨8, 9, [18, 0]⟩, [], (w.table.enter ⟨8, 9, [18, 0]⟩ 0).getD .reset, by decide⟩,
   ⟨{ w with line := { w.line with rx := [⟨8, 9, [19, 0]⟩] }, attach := { w.attach with
     dock := .docked } }, ⟨8, 9, [19, 0]⟩, [], (w.table.enter ⟨8, 9, [19, 0]⟩ 0).getD .reset, by decide⟩,
   ⟨{ w with line := { w.line with state := .idle, rx := [⟨8, 2, [16, 0]⟩] }, table := twoHandles, hold := { w.hold with
     reasons := { w.hold.reasons with driveFault := true } } }, ⟨8, 2, [16, 0]⟩, [],
     (twoHandles.enter ⟨8, 2, [16, 0]⟩ 0).getD .reset, by decide⟩⟩

theorem witness_LineEdgesAndDiscards :
    (∃ (s : State) (low : Option Nat), s.running = true ∧ s.line.ownBreak = none ∧
      low.all (fun x => decide (40 < x)) = true ∧ s.line.state = .idle) ∧
    (∃ (s : State) (low : Option Nat), s.running = true ∧ s.line.ownBreak = none ∧
      low.all (fun x => decide (40 < x)) = true ∧ s.line.state = .idle) ∧
    (∃ (s : State) (low : Option Nat), s.running = true ∧ s.line.ownBreak = none ∧
      low.all (fun x => decide (40 < x)) = true ∧ s.line.state ≠ .idle) ∧
    (∃ (s : State) (low : Option Nat), s.running = true ∧ s.line.ownBreak = none ∧
      low.all (fun x => decide (40 < x)) = true ∧ s.line.state ≠ .idle) ∧
    (∃ (s : State) (low : Option Nat) (n : Nat), s.running = true ∧ s.line.ownBreak = none ∧ low = some n ∧ n ≤ 40) ∧
    (∃ (s : State), s.power.state = .sleep) ∧
    (∃ (s : State), (s.power.state = .starting ∨ s.power.state = .ship ∨ s.running = true ∧
      s.line.ownBreak.isSome = true)) ∧
    (∃ (s : State), s.receiving = true) ∧
    (∃ (s : State), s.receiving = false) ∧
    (∃ (s : State) (len : Byte), s.receiving = true ∧ 12 < len.toNat) ∧
    (∃ (s : State) (len : Byte), (s.receiving = false ∨ len.toNat ≤ 12)) :=
  ⟨⟨{ w with line := { w.line with state := .idle } }, some 41, by decide⟩,
   ⟨{ w with line := { w.line with state := .idle } }, none, by decide⟩,
   ⟨{ w with line := { w.line with state := .busy } }, some 41, by decide⟩,
   ⟨{ w with line := { w.line with state := .stuck } }, some 41, by decide⟩,
   ⟨{ w with line := { w.line with state := .idle } }, some 40, 40, by decide⟩,
   ⟨{ w with power := ⟨.sleep, none, none⟩ }, by decide⟩,
   ⟨State.reset, by decide⟩,
   ⟨{ w with line := { w.line with state := .busy, reception := some [] } }, by decide⟩,
   ⟨w, by decide⟩,
   ⟨{ w with line := { w.line with state := .busy, reception := some [] } }, 13, by decide⟩,
   ⟨{ w with line := { w.line with state := .busy, reception := some [] } }, 12, by decide⟩⟩

theorem witness_IdleBeginsAttempt :
    (∃ (s : State), s.mayIdle = true ∧ s.line.unsettled = none ∧ s.line.nextSlot = none) ∧
    (∃ (s : State) (id : SlotId) (p : List Byte), s.mayIdle = true ∧ s.line.unsettled = none ∧
      s.line.nextSlot = some (id, p)) :=
  ⟨⟨{ w with line := { w.line with state := .busy, recessiveFrom := some 0 } }, by decide⟩,
   ⟨{ w with line := { w.line with
     state := .busy, report := ⟨.pending [20, 0, 2], 1⟩ } }, .report, [20, 0, 2], by decide⟩⟩

theorem witness_BitErrorsSettleAtIdle :
    (∃ (s : State) (a : Attempt), s.line.attempt = some a ∧ s.now < a.start + 800 ∧ s.lossDropsShip = false ∧
      s.line.state = .busy) ∧
    (∃ (s : State) (a : Attempt), s.line.attempt = some a ∧ a.start + 800 ≤ s.now) ∧
    (∃ (s : State) (a : Attempt), s.line.attempt = some a ∧ s.lossDropsShip = false ∧ s.line.state = .busy) ∧
    (∃ (s : State) (x : Unsettled), s.mayIdle = true ∧ s.line.unsettled = some x ∧ (s.line.slot x.slot).errors < 2) ∧
    (∃ (s : State) (x : Unsettled), s.mayIdle = true ∧ s.line.unsettled = some x ∧ (s.line.slot x.slot).errors < 2) ∧
    (∃ (s : State) (x : Unsettled), s.mayIdle = true ∧ s.line.unsettled = some x ∧ (s.line.slot x.slot).errors < 2) ∧
    (∃ (s : State) (x : Unsettled), s.mayIdle = true ∧ s.line.unsettled = some x ∧ (s.line.slot x.slot).errors < 2) ∧
    (∃ (s : State) (x : Unsettled), s.mayIdle = true ∧ s.line.unsettled = some x ∧ 2 ≤ (s.line.slot x.slot).errors ∧
      s.dropsShip x = false) ∧
    (∃ (s : State) (x : Unsettled), s.mayIdle = true ∧ s.line.unsettled = some x ∧ 2 ≤ (s.line.slot x.slot).errors ∧
      s.dropsShip x = false) ∧
    (∃ (s : State) (x : Unsettled), s.mayIdle = true ∧ s.line.unsettled = some x ∧ 2 ≤ (s.line.slot x.slot).errors ∧
      s.dropsShip x = false) ∧
    (∃ (s : State) (x : Unsettled), s.mayIdle = true ∧ s.line.unsettled = some x ∧ 2 ≤ (s.line.slot x.slot).errors ∧
      s.dropsShip x = false) ∧
    (∃ (s : State) (x : Unsettled), s.mayIdle = true ∧ s.line.unsettled = some x ∧ 2 ≤ (s.line.slot x.slot).errors ∧
      s.dropsShip x = false) ∧
    (∃ (s : State) (x : Unsettled), s.mayIdle = true ∧ s.line.unsettled = some x ∧ 2 ≤ (s.line.slot x.slot).errors ∧
      s.dropsShip x = false) ∧
    (∃ (s : State) (x : Unsettled), s.mayIdle = true ∧ s.line.unsettled = some x ∧ 2 ≤ (s.line.slot x.slot).errors ∧
      s.dropsShip x = false) :=
  ⟨⟨{ w with line := { w.line with
    state := .busy, hold := ⟨.inFlight [1], 2⟩, attempt := some ⟨.hold, 0, []⟩ } }, ⟨.hold, 0, []⟩, by decide⟩,
   ⟨{ w with line := { w.line with
     attempt := some ⟨.hold, 0, []⟩ }, time := ⟨800, 0, 800⟩ }, ⟨.hold, 0, []⟩, by decide⟩,
   ⟨{ w with line := { w.line with
     state := .busy, state_ := ⟨.inFlightReplaced [] [], 0⟩, attempt := some ⟨.state, 0, []⟩ } }, ⟨.state, 0, []⟩,
     by decide⟩,
   ⟨{ w with line := { w.line with
     state := .busy, hold := ⟨.pending [1], 1⟩, unsettled := some ⟨.hold, false⟩ } }, ⟨.hold, false⟩, by decide⟩,
   ⟨{ w with line := { w.line with
     state := .busy, ask := ⟨.pending [1], 0⟩, unsettled := some ⟨.ask, true⟩ } }, ⟨.ask, true⟩, by decide⟩,
   ⟨{ w with line := { w.line with
     state := .busy, state_ := ⟨.pending [1], 1⟩, unsettled := some ⟨.state, false⟩ } }, ⟨.state, false⟩, by decide⟩,
   ⟨{ w with line := { w.line with
     state := .busy, report := ⟨.pending [1], 0⟩, unsettled := some ⟨.report, false⟩ } }, ⟨.report, false⟩,
     by decide⟩,
   ⟨{ w with line := { w.line with
     state := .busy, report := ⟨.pending [1], 2⟩, unsettled := some ⟨.report, false⟩ } }, ⟨.report, false⟩,
     by decide⟩,
   ⟨{ w with line := { w.line with
     state := .busy, ask := ⟨.pending [1], 2⟩, unsettled := some ⟨.ask, false⟩ } }, ⟨.ask, false⟩, by decide⟩,
   ⟨{ w with line := { w.line with
     state := .busy, ask := ⟨.pending [1], 2⟩, unsettled := some ⟨.ask, true⟩ } }, ⟨.ask, true⟩, by decide⟩,
   ⟨{ w with line := { w.line with
     state := .busy, state_ := ⟨.pending [1], 2⟩, unsettled := some ⟨.state, false⟩ } }, ⟨.state, false⟩, by decide⟩,
   ⟨{ w with line := { w.line with
     state := .busy, state_ := ⟨.pending [1], 2⟩, unsettled := some ⟨.state, true⟩ } }, ⟨.state, true⟩, by decide⟩,
   ⟨{ w with line := { w.line with
     state := .busy, hold := ⟨.pending [1], 2⟩, unsettled := some ⟨.hold, true⟩ } }, ⟨.hold, true⟩, by decide⟩,
   ⟨{ w with line := { w.line with
     state := .busy, report := ⟨.pending [1], 2⟩, unsettled := some ⟨.report, true⟩ } }, ⟨.report, true⟩, by decide⟩⟩

theorem witness_AttemptCompletionAndShipOrder :
    (∃ (s : State) (a : Attempt), s.line.attempt = some a ∧ (s.sendsShip a = false ∨ s.report.shipPending = none) ∧
      s.line.state = .busy) ∧
    (∃ (s : State) (a : Attempt) (v : Nat), s.line.attempt = some a ∧ s.sendsShip a = true ∧
      s.report.shipPending = some v ∧ s.running = true) ∧
    (∃ (s : State) (v : Nat), s.report.shipPending = some v ∧ s.running = true) ∧
    (∃ (s : State) (v : Nat) (c : Instr) (n : Notice) (rest : List Notice) (tb : Table), Handles s n rest tb 8 ∧
      lawIdle s ∧ ((c, n.item) ∈ [(Instr.ident, 0), (Instr.runs, 1), (Instr.modeTime, 2), (Instr.chargeCounts, 3),
        (Instr.cellsA, 4), (Instr.cellsB, 5), (Instr.fault, 6), (Instr.sample, 7), (Instr.holds, 8), (Instr.table, 9),
        (Instr.masterOn, 16), (Instr.masterOff, 17), (Instr.clearHistory, 18), (Instr.ship, 19)] ∨
      c = .unknownItem ∧ (9 < n.item ∧ n.item < 16 ∨ 19 < n.item)) ∧ s.report.shipAnswer = .waiting ∧
        s.report.shipPending = some v) ∧
    (∃ (s : State) (v : Nat) (c : Instr), s.lossDropsShip = true ∧ s.report.shipPending = some v ∧ s.running = true ∧
      (c = .bitError ∨ c = .headerLoss ∧ s.inHeader = true ∨ c = .breakTaken ∧ s.mayTakeBreak = true ∨
      c = .lineStuck ∧ s.line.state = .inBreak ∧ (s.line.dominantEnds 16000).isSome = true)) ∧
    (∃ (s : State) (v : Nat) (c : Instr), s.lossDropsShip = true ∧ s.report.shipPending = some v ∧ s.running = true ∧
      (c = .bitError ∨ c = .headerLoss ∧ s.inHeader = true ∨ c = .breakTaken ∧ s.mayTakeBreak = true ∨
      c = .lineStuck ∧ s.line.state = .inBreak ∧ (s.line.dominantEnds 16000).isSome = true)) ∧
    (∃ (s : State) (v : Nat) (c : Instr), s.lossDropsShip = true ∧ s.report.shipPending = some v ∧ s.running = true ∧
      (c = .bitError ∨ c = .headerLoss ∧ s.inHeader = true ∨ c = .breakTaken ∧ s.mayTakeBreak = true ∨
      c = .lineStuck ∧ s.line.state = .inBreak ∧ (s.line.dominantEnds 16000).isSome = true)) ∧
    (∃ (s : State) (v : Nat) (c : Instr), s.lossDropsShip = true ∧ s.report.shipPending = some v ∧ s.running = true ∧
      (c = .bitError ∨ c = .headerLoss ∧ s.inHeader = true ∨ c = .breakTaken ∧ s.mayTakeBreak = true ∨
      c = .lineStuck ∧ s.line.state = .inBreak ∧ (s.line.dominantEnds 16000).isSome = true)) ∧
    (∃ (s : State) (v : Nat) (x : Unsettled), s.mayIdle = true ∧ s.line.unsettled = some x ∧
      2 ≤ (s.line.slot x.slot).errors ∧ s.dropsShip x = true ∧ s.report.shipPending = some v) :=
  ⟨⟨{ w with line := { w.line with
    state := .busy, hold := ⟨.inFlight [1], 2⟩, attempt := some ⟨.hold, 0, [1, 2, 3, 4]⟩ } },
    ⟨.hold, 0, [1, 2, 3, 4]⟩, by decide⟩,
   ⟨{ w with report := ⟨clearFlags, some 0, .flying⟩, line := { w.line with
     state := .busy, report := ⟨.inFlight [19, 0, 0], 0⟩, attempt := some ⟨.report, 0, []⟩ } }, ⟨.report, 0, []⟩, 0, by decide⟩,
   ⟨{ w with report := ⟨clearFlags, some 3, .waiting⟩ }, 3, by decide⟩,
   ⟨{ w with report := ⟨clearFlags, some 0, .waiting⟩, line := { w.line with
     rx := [⟨8, 9, [0, 0]⟩], report := ⟨.pending [19, 0, 0], 0⟩ } }, 0,
     .ident, ⟨8, 9, [0, 0]⟩, [], (w.table.enter ⟨8, 9, [0, 0]⟩ 0).getD .reset, by decide⟩,
   ⟨{ w with report := ⟨clearFlags, some 0, .flying⟩, time := ⟨2000, 0, 2000⟩, line := { w.line with
     state := .inBreak, dominantFrom := some 0, report := ⟨.inFlightReplaced [19, 0, 0] [0], 0⟩,
     attempt := some ⟨.report, 2000, []⟩ } }, 0,
     .bitError, by decide⟩,
   ⟨{ w with report := ⟨clearFlags, some 0, .flying⟩, time := ⟨2000, 0, 2000⟩, line := { w.line with
     state := .inBreak, dominantFrom := some 0, report := ⟨.inFlightReplaced [19, 0, 0] [0], 0⟩,
     attempt := some ⟨.report, 2000, []⟩ } }, 0,
     .headerLoss, by decide⟩,
   ⟨{ w with report := ⟨clearFlags, some 0, .flying⟩, time := ⟨2000, 0, 2000⟩, line := { w.line with
     state := .inBreak, dominantFrom := some 0, report := ⟨.inFlightReplaced [19, 0, 0] [0], 0⟩,
     attempt := some ⟨.report, 2000, []⟩ } }, 0,
     .breakTaken, by decide⟩,
   ⟨{ w with report := ⟨clearFlags, some 0, .flying⟩, time := ⟨2000, 0, 2000⟩, line := { w.line with
     state := .inBreak, dominantFrom := some 0, report := ⟨.inFlightReplaced [19, 0, 0] [0], 0⟩,
     attempt := some ⟨.report, 2000, []⟩ } }, 0,
     .lineStuck, by decide⟩,
   ⟨{ w with report := ⟨clearFlags, some 0, .waiting⟩, line := { w.line with
     state := .busy, report := ⟨.pending [19, 0, 0], 2⟩, unsettled := some ⟨.report, false⟩ } }, 0, ⟨.report, false⟩, by decide⟩⟩

theorem witness_BreaksStuckLineAndStart :
    (∃ (s : State) (d : Nat), s.line.state = .busy ∧ s.line.dominantFrom = some d ∧
      s.line.risesAt.all (fun x => decide (d + 1040 ≤ x)) = true) ∧
    (∃ (s : State), s.line.state ≠ .busy) ∧
    (∃ (s : State) (d : Nat) (e : Nat), s.line.dominantFrom = some d ∧ s.line.risesAt = some e ∧ e < d + 1040) ∧
    (∃ (s : State) (d : Nat), s.line.ownBreak = some d ∧ s.power.state ≠ .starting) ∧
    (∃ (s : State) (d : Nat), s.line.ownBreak = some d ∧ s.power.state = .starting ∧ lawStarting s) ∧
    (∃ (s : State), s.mayTakeBreak = true ∧ s.lossDropsShip = false) ∧
    (∃ (s : State), s.mayTakeBreak = true ∧ s.lossDropsShip = false) ∧
    (∃ (s : State) (d : Nat) (e : Nat), s.line.dominantFrom = some d ∧ s.line.risesAt.getD s.now = e ∧
      (e < d + 1040 ∨ d + 16000 ≤ e)) ∧
    (∃ (s : State) (d : Nat), s.line.state = .inBreak ∧ s.line.dominantFrom = some d ∧
      s.line.risesAt.all (fun x => decide (d + 16000 ≤ x)) = true ∧ s.lossDropsShip = false) ∧
    (∃ (s : State), s.line.state ≠ .inBreak) ∧
    (∃ (s : State) (d : Nat) (e : Nat), s.line.dominantFrom = some d ∧ s.line.risesAt = some e ∧ e < d + 16000) ∧
    (∃ (s : State), s.line.state = .stuck ∧ s.line.ownBreak = none) ∧
    (∃ (s : State), s.line.state = .stuck ∧ s.line.ownBreak = none) ∧
    (∃ (s : State), (s.line.state ≠ .stuck ∨ s.line.ownBreak.isSome = true)) ∧
    (∃ (s : State) (d : Nat), s.line.conflict = some d) :=
  ⟨⟨{ w with line := { w.line with state := .busy, dominantFrom := some 0 } }, 0, by decide⟩,
   ⟨w, by decide⟩,
   ⟨{ w with line := { w.line with
     state := .busy, dominantFrom := some 0, risesAt := some 1039 } }, 0, 1039, by decide⟩,
   ⟨{ w with line := { w.line with state := .busy, ownBreak := some 2400 } }, 2400, by decide⟩,
   ⟨{ State.reset with line := { Line.reset with state := .busy, ownBreak := some 2400 } }, 2400, by decide⟩,
   ⟨{ w with line := { w.line with
     state := .inBreak, dominantFrom := some 0 }, time := ⟨15999, 0, 15999⟩ }, by decide⟩,
   ⟨{ w with line := { w.line with state := .inBreak, dominantFrom := some 0, risesAt := some 1040 } }, by decide⟩,
   ⟨{ w with line := { w.line with
     state := .inBreak, dominantFrom := some 0 }, time := ⟨16000, 0, 16000⟩ }, 0, 16000, by decide⟩,
   ⟨{ w with line := { w.line with state := .inBreak, dominantFrom := some 0 } }, 0, by decide⟩,
   ⟨w, by decide⟩,
   ⟨{ w with line := { w.line with
     state := .inBreak, dominantFrom := some 0, risesAt := some 15999 } }, 0, 15999, by decide⟩,
   ⟨{ w with line := { w.line with state := .stuck, stuck := true } }, by decide⟩,
   ⟨{ w with line := { w.line with state := .stuck, stuck := true, recessiveFrom := some 41 } }, by decide⟩,
   ⟨w, by decide⟩,
   ⟨{ w with line := { w.line with conflict := some 9 } }, 9, by decide⟩⟩

theorem witness_CadencesPutNotices :
    (∃ (s : State) (d : Nat), s.line.stateCadence = some d) ∧
    (∃ (s : State) (d : Nat), s.line.holdoff = true ∧ s.line.lastStatePut = some d) ∧
    (∃ (s : State) (d : Nat), s.line.holdCadence = some d ∧ s.running = true) ∧
    (∃ (s : State), s.pack.scan ≠ .none ∧ s.running = true) ∧
    (∃ (s : State) (r : ScanReading), s.pack.scan ≠ .none ∧ s.mayBegin = true ∧ s.line.hold.slot = .empty ∧
      ((scanPack r s).hold.reasons ≠ s.hold.reasons ∨
      asEvent (scanPack r) s = scanPack r s ∧
        (scanTemps r (scanPack r s)).hold.reasons ≠ (scanPack r s).hold.reasons) ∧
          (completeScan r s).allow.low ≠ s.allow.low) ∧
    (∃ (s : State) (r : ScanReading), s.pack.scan ≠ .none ∧ s.mayBegin = true ∧ s.line.hold.slot = .empty ∧
      ((scanPack r s).hold.reasons ≠ s.hold.reasons ∨
      asEvent (scanPack r) s = scanPack r s ∧
        (scanTemps r (scanPack r s)).hold.reasons ≠ (scanPack r s).hold.reasons) ∧
          (completeScan r s).allow.low ≠ s.allow.low) ∧
    (∃ (s : State) (d : Nat), s.dirt.windowTimer = some d ∧ s.running = true) ∧
    (∃ (s : State) (d : Nat), s.dirt.windowTimer = some d ∧ s.running = true) ∧
    (∃ (s : State) (d : Nat), s.dirt.windowTimer = some d ∧ s.running = true) ∧
    (∃ (s : State) (d : Nat), s.attach.seatTimer = some d ∧ s.running = true) ∧
    (∃ (s : State) (d : Nat), s.attach.seatTimer = some d ∧ s.running = true) ∧
    (∃ (s : State) (d : Nat), s.attach.seatTimer = some d ∧ s.running = true) ∧
    (∃ (s : State), s.pack.scan ≠ .none ∧ s.running = true) :=
  ⟨⟨{ w with line := { w.line with stateCadence := some 9 } }, 9, by decide⟩,
   ⟨{ w with line := { w.line with holdoff := true, lastStatePut := some 9 } }, 9, by decide⟩,
   ⟨{ w with line := { w.line with holdCadence := some 9 } }, 9, by decide⟩,
   ⟨{ w with pack := { w.pack with scan := .rest }, line := { w.line with state := .idle } }, by decide⟩,
   ⟨{ w with pack := { w.pack with scan := .rest }, line := { w.line with state := .idle } }, aScan, by decide⟩,
   ⟨quietScan, { aScan with code1 := 3700, code2 := 3700 }, by decide⟩,
   ⟨{ w with dirt := { w.dirt with windowTimer := some 9, windowSum := 500 }, line := { w.line with
     state := .busy, state_ := ⟨.pending [], 0⟩ } }, 9, by decide⟩,
   ⟨{ w with dirt := { w.dirt with windowTimer := some 9, windowSum := 500 }, line := { w.line with
     state := .busy, state_ := ⟨.inFlight [], 0⟩ } }, 9, by decide⟩,
   ⟨{ w with dirt := { w.dirt with windowTimer := some 9, windowSum := 500 }, line := { w.line with
     state := .busy, lastStatePut := some 0 } }, 9, by decide⟩,
   ⟨{ w with attach := { w.attach with head := .settling, seatTimer := some 9 }, line := { w.line with
     state := .busy, state_ := ⟨.pending [], 0⟩ } }, 9, by decide⟩,
   ⟨{ w with attach := { w.attach with head := .settling, seatTimer := some 9 }, line := { w.line with
     state := .busy, state_ := ⟨.inFlight [], 0⟩ } }, 9, by decide⟩,
   ⟨{ w with attach := { w.attach with head := .settling, seatTimer := some 9 }, line := { w.line with
     state := .busy, lastStatePut := some 0 } }, 9, by decide⟩,
   ⟨{ w with pack := { w.pack with scan := .rest }, line := { w.line with state := .idle } }, by decide⟩⟩

theorem witness_RecordsAgeAndLeave :
    (∃ (s : State) (st : Nat) (r : Record), s.table.find st = some r ∧ r.stale = false) ∧
    (∃ (s : State) (st : Nat) (r : Record), s.table.find st = some r) ∧
    (∃ (s : State) (st : Nat), s.table.find st = none) ∧
    (∃ (s : State) (st : Nat), s.table.find st = none) :=
  ⟨⟨{ w with table := heldTable }, 2, (heldTable.find 2).getD (.blank 2), by decide⟩,
   ⟨{ w with table := heldTable }, 2, (heldTable.find 2).getD (.blank 2), by decide⟩,
   ⟨w, 2, by decide⟩,
   ⟨w, 2, by decide⟩⟩

theorem witness_HeadContactsSettleAndRemove :
    (∃ (s : State), s.running = true ∧ s.attach.head = .removed) ∧
    (∃ (s : State), (s.running = true ∧ s.attach.head ≠ .removed ∨ s.power.state = .starting ∨
      s.power.state = .ship)) ∧
    (∃ (s : State), s.power.state = .sleep ∧ (s.pins.hd1High = true ∨ s.pins.hd2High = true)) ∧
    (∃ (s : State) (h1 : Bool) (h2 : Bool), (h1 = true ∨ h2 = true) ∧ s.running = true ∧ s.attach.head = .settling) ∧
    (∃ (s : State) (h1 : Bool) (h2 : Bool), (h1 = true ∨ h2 = true) ∧ s.running = true ∧ s.attach.head = .seated) ∧
    (∃ (s : State) (h1 : Bool) (h2 : Bool), (h1 = true ∨ h2 = true) ∧
      (s.running = true ∧ s.attach.head = .removed ∨ s.power.state = .starting ∨ s.power.state = .ship)) ∧
    (∃ (s : State) (h1 : Bool) (h2 : Bool), (h1 = true ∨ h2 = true) ∧ s.power.state = .sleep ∧
      (s.pins.hd1High ≠ h1 ∨ s.pins.hd2High ≠ h2)) ∧
    (∃ (s : State) (h1 : Bool) (h2 : Bool), s.power.state = .sleep ∧ s.pins.hd1High = h1 ∧ s.pins.hd2High = h2) :=
  ⟨⟨w, by decide⟩,
   ⟨State.reset, by decide⟩,
   ⟨{ w with power := ⟨.sleep, none, none⟩ }, by decide⟩,
   ⟨{ w with attach := { w.attach with head := .settling, seatTimer := some 9 } }, false, true, by decide⟩,
   ⟨{ w with attach := { w.attach with head := .seated, rail := true }, table := headTable }, true, false, by decide⟩,
   ⟨w, true, true, by decide⟩,
   ⟨{ w with power := ⟨.sleep, none, none⟩ }, true, false, by decide⟩,
   ⟨{ w with power := ⟨.sleep, none, none⟩ }, true, true, by decide⟩⟩

theorem witness_HeadRailSeatShortAndOverdraw :
    (∃ (s : State) (d : Nat), s.attach.seatTimer = some d) ∧
    (∃ (s : State) (d : Nat), s.attach.railTimer = some d) ∧
    (∃ (s : State) (ma : Nat), s.attach.rail = true ∧ 4000 < ma ∧ s.hold.reasons.headShort = false) ∧
    (∃ (s : State) (ma : Nat), (s.attach.rail = false ∨ ma ≤ 4000 ∨ s.hold.reasons.headShort = true)) ∧
    (∃ (s : State) (d : Nat), s.attach.overdrawTimer = some d ∧ s.hold.reasons.overdraw = false) ∧
    (∃ (s : State) (d : Nat), s.attach.overdrawTimer = some d ∧ s.hold.reasons.overdraw = true) :=
  ⟨⟨{ w with attach := { w.attach with head := .settling, seatTimer := some 9 } }, 9, by decide⟩,
   ⟨{ w with attach := { w.attach with head := .seated, railTimer := some 9 } }, 9, by decide⟩,
   ⟨{ w with attach := { w.attach with head := .seated, rail := true } }, 4001, by decide⟩,
   ⟨{ w with attach := { w.attach with rail := true } }, 4000, by decide⟩,
   ⟨{ w with attach := { w.attach with
     head := .seated, rail := true, excess := true, overdrawTimer := some 9 } }, 9, by decide⟩,
   ⟨{ w with attach := { w.attach with overdrawTimer := some 9 }, hold := { w.hold with
     reasons := { w.hold.reasons with overdraw := true } } }, 9, by decide⟩⟩

theorem witness_SleepShipAndWake :
    (∃ (s : State) (d : Nat), s.power.dozeTimer = some d ∧ s.pins.dockMv ≤ 5000) ∧
    (∃ (s : State) (d : Nat), s.power.dozeTimer = some d ∧ s.pins.dockMv ≤ 5000) ∧
    (∃ (s : State) (d : Nat), s.power.dozeTimer = some d ∧ 5000 < s.pins.dockMv) ∧
    (∃ (s : State) (d : Nat), s.power.shipTimer = some d ∧ s.pins.dockMv ≤ 5000) ∧
    (∃ (s : State) (d : Nat), s.power.shipTimer = some d ∧ 5000 < s.pins.dockMv) ∧
    (∃ (s : State) (e : Edge), s.power.state = .sleep ∧
      (s.cfg.wakeEdge = .both ∨ s.cfg.wakeEdge = .falling ∧ e = .falling ∨ s.cfg.wakeEdge = .rising ∧ e = .rising)) ∧
    (∃ (s : State) (e : Edge), (s.power.state ≠ .sleep ∨ s.cfg.wakeEdge = .falling ∧ e = .rising ∨
      s.cfg.wakeEdge = .rising ∧ e = .falling)) ∧
    (∃ (s : State) (fell : Nat) (rose : Nat) (told : Option Nat), s.power.state = .sleep ∧
      s.line.pulse = some ⟨fell, told⟩ ∧ told.getD s.time.steady = rose ∧ fell + 1040 ≤ rose ∧ rose < fell + 16000) ∧
    (∃ (s : State) (fell : Nat) (rose : Nat) (told : Option Nat), s.power.state = .sleep ∧
      s.line.pulse = some ⟨fell, told⟩ ∧ told.getD s.time.steady = rose ∧ fell + 1040 ≤ rose ∧ rose < fell + 16000) ∧
    (∃ (s : State) (fell : Nat) (rose : Nat) (told : Option Nat), s.line.pulse = some ⟨fell, told⟩ ∧
      told.getD s.time.steady = rose ∧ (rose < fell + 1040 ∨ fell + 16000 ≤ rose)) ∧
    (∃ (s : State), (s.power.state ≠ .sleep ∨ s.line.pulse = none)) :=
  ⟨⟨{ w with power := ⟨.doze, some 9, some 600⟩ }, 9, by decide⟩,
   ⟨{ w with power := ⟨.doze, some 9, none⟩, line := { w.line with
     state := .inBreak, dominantFrom := some 2 } }, 9, by decide⟩,
   ⟨{ w with power := ⟨.doze, some 9, none⟩, pins := ⟨true, true, 5001⟩ }, 9, by decide⟩,
   ⟨{ w with power := ⟨.doze, none, some 600⟩ }, 600, by decide⟩,
   ⟨{ w with power := ⟨.doze, none, some 600⟩, pins := ⟨true, true, 5001⟩ }, 600, by decide⟩,
   ⟨{ w with power := ⟨.sleep, none, none⟩ }, .falling, by decide⟩,
   ⟨{ w with power := ⟨.sleep, none, none⟩ }, .rising, by decide⟩,
   ⟨{ w with power := ⟨.sleep, none, none⟩, line := { Line.reset with
     pulse := some ⟨0, some 1040⟩ } }, 0, 1040, some 1040, by decide⟩,
   ⟨{ w with power := ⟨.sleep, none, none⟩, time := ⟨0, 0, 15999⟩, line := { Line.reset with
     pulse := some ⟨0, none⟩ } }, 0, 15999, none, by decide⟩,
   ⟨{ w with power := ⟨.sleep, none, none⟩, line := { Line.reset with
     pulse := some ⟨0, some 16000⟩ } }, 0, 16000, some 16000, by decide⟩,
   ⟨w, by decide⟩⟩

theorem witness_NoTimerNoEffect :
    (∃ (s : State) (c : Instr), s.pack.scanTimer = none ∧ c = .scanTimerExpiry) ∧
    (∃ (s : State) (c : Instr) (q : Int), s.pack.deliveryTimer = none ∧ c = .chargeDelivery q) ∧
    (∃ (s : State) (c : Instr), s.drive.alignTimer = none ∧ c = .alignTimerExpiry) ∧
    (∃ (s : State) (c : Instr), s.drive.forcedTimer = none ∧ c = .forcedCommutation) ∧
    (∃ (s : State) (c : Instr), s.drive.compare = none ∧ c = .commutationCompareExpiry) ∧
    (∃ (s : State) (c : Instr), s.drive.deadline = none ∧ c = .missedCrossingDeadline) ∧
    (∃ (s : State) (c : Instr), s.drive.rampTimer = none ∧ c = .rampTimerExpiry) ∧
    (∃ (s : State) (c : Instr), s.drive.controlTimer = none ∧ c = .controlExpiry) ∧
    (∃ (s : State) (c : Instr), s.drive.coastTimer = none ∧ c = .coastTimerExpiry) ∧
    (∃ (s : State) (c : Instr) (v : Byte), s.dirt.sampleAt = none ∧ c = .envelopeSample v) ∧
    (∃ (s : State) (c : Instr), s.dirt.windowTimer = none ∧ c = .windowExpiry) ∧
    (∃ (s : State) (c : Instr), s.attach.settleTimer = none ∧ c = .settleTimerExpiry) ∧
    (∃ (s : State) (c : Instr), s.charge.resendTimer = none ∧ c = .resendTimerExpiry) ∧
    (∃ (s : State) (c : Instr), s.charge.echoTimer = none ∧ c = .echoTimerExpiry) ∧
    (∃ (s : State) (c : Instr), s.charge.regTimer = none ∧ c = .regulationExpiry) ∧
    (∃ (s : State) (c : Instr), s.charge.termination.since = none ∧ c = .terminationTimerExpiry) ∧
    (∃ (s : State) (c : Instr), s.charge.precharge.since = none ∧ c = .prechargeTimerExpiry) ∧
    (∃ (s : State) (c : Instr), s.charge.total.since = none ∧ c = .totalTimerExpiry) ∧
    (∃ (s : State) (c : Instr), s.line.attempt = none ∧ c = .headerLoss) ∧
    (∃ (s : State) (c : Instr), s.line.attempt = none ∧ c = .bitError) ∧
    (∃ (s : State) (c : Instr), s.line.attempt = none ∧ c = .attemptCompletion) ∧
    (∃ (s : State) (c : Instr), s.report.shipPending = none ∧ c = .shipOrderTimeout) ∧
    (∃ (s : State) (c : Instr), s.line.ownBreak = none ∧ c = .ownBreakRelease) ∧
    (∃ (s : State) (c : Instr), s.line.conflict = none ∧ c = .conflictTimerExpiry) ∧
    (∃ (s : State) (c : Instr), s.line.stateCadence = none ∧ c = .stateCadenceExpiry) ∧
    (∃ (s : State) (c : Instr), s.line.lastStatePut = none ∧ c = .holdoffExpiry) ∧
    (∃ (s : State) (c : Instr), s.line.holdCadence = none ∧ c = .holdCadenceExpiry) ∧
    (∃ (s : State) (c : Instr), s.attach.seatTimer = none ∧ c = .seatTimerExpiry) ∧
    (∃ (s : State) (c : Instr), s.attach.railTimer = none ∧ c = .railOnTimerExpiry) ∧
    (∃ (s : State) (c : Instr), s.attach.overdrawTimer = none ∧ c = .overdrawTimerExpiry) ∧
    (∃ (s : State) (c : Instr), s.power.dozeTimer = none ∧ c = .dozeTimerExpiry) ∧
    (∃ (s : State) (c : Instr), s.power.shipTimer = none ∧ c = .shipTimerExpiry) ∧
    (∃ (s : State) (c : Instr), (s.running = false ∨ s.line.rx = []) ∧
      c ∈ [Instr.hold, .request, .supply, .draw, .headDirt, .otherClassNotice, .ident, .runs,
      .modeTime, .chargeCounts, .cellsA, .cellsB, .fault, .sample, .holds, .table, .masterOn, .masterOff, .clearHistory, .ship, .unknownItem]) ∧
    (∃ (s : State) (c : Instr), s.mayIdle = false ∧ c = .lineIdle) ∧
    (∃ (s : State) (c : Instr), s.mayTakeBreak = false ∧ c = .breakTaken) :=
  ⟨⟨w, .scanTimerExpiry, by decide⟩,
   ⟨w, .chargeDelivery 5, 5, by decide⟩,
   ⟨w, .alignTimerExpiry, by decide⟩,
   ⟨w, .forcedCommutation, by decide⟩,
   ⟨w, .commutationCompareExpiry, by decide⟩,
   ⟨w, .missedCrossingDeadline, by decide⟩,
   ⟨w, .rampTimerExpiry, by decide⟩,
   ⟨w, .controlExpiry, by decide⟩,
   ⟨w, .coastTimerExpiry, by decide⟩,
   ⟨w, .envelopeSample 255, 255, by decide⟩,
   ⟨w, .windowExpiry, by decide⟩,
   ⟨w, .settleTimerExpiry, by decide⟩,
   ⟨w, .resendTimerExpiry, by decide⟩,
   ⟨w, .echoTimerExpiry, by decide⟩,
   ⟨w, .regulationExpiry, by decide⟩,
   ⟨w, .terminationTimerExpiry, by decide⟩,
   ⟨w, .prechargeTimerExpiry, by decide⟩,
   ⟨w, .totalTimerExpiry, by decide⟩,
   ⟨w, .headerLoss, by decide⟩,
   ⟨w, .bitError, by decide⟩,
   ⟨w, .attemptCompletion, by decide⟩,
   ⟨w, .shipOrderTimeout, by decide⟩,
   ⟨w, .ownBreakRelease, by decide⟩,
   ⟨w, .conflictTimerExpiry, by decide⟩,
   ⟨w, .stateCadenceExpiry, by decide⟩,
   ⟨w, .holdoffExpiry, by decide⟩,
   ⟨w, .holdCadenceExpiry, by decide⟩,
   ⟨w, .seatTimerExpiry, by decide⟩,
   ⟨w, .railOnTimerExpiry, by decide⟩,
   ⟨w, .overdrawTimerExpiry, by decide⟩,
   ⟨w, .dozeTimerExpiry, by decide⟩,
   ⟨w, .shipTimerExpiry, by decide⟩,
   ⟨w, .ship, by decide⟩,
   ⟨w, .lineIdle, by decide⟩,
   ⟨w, .breakTaken, by decide⟩⟩

end Sys2Proof.Tests
end

section
/-! ## The line's marks under a putting and an attempt -/

namespace Sys2Proof.Proofs
open Sys2Proof.Machine Sys2Proof.Safety

@[simp] theorem onSlot_stuck (l : Line) (i : SlotId) (f : Slot → Slot) : (l.onSlot i f).stuck = l.stuck := by
  cases i <;> rfl

@[simp] theorem putSlot_stuck (i : SlotId) (w : List Byte) (s : State) :
    (putSlot i w s).line.stuck = s.line.stuck := by
  simp [putSlot]

@[simp] theorem putState_stuck (s : State) : (putState s).line.stuck = s.line.stuck := by simp [putState]

@[simp] theorem contentChange_stuck (s : State) : (contentChange s).line.stuck = s.line.stuck := by
  unfold contentChange
  (repeat' split) <;> simp

@[simp] theorem raise_stuck (f : Flag) (s : State) : (raise f s).line.stuck = s.line.stuck := by simp [raise]

@[simp] theorem putHold_stuck (s : State) : (putHold s).line.stuck = s.line.stuck := by
  unfold putHold
  split <;> simp

@[simp] theorem startAttempt_stuck (i : SlotId) (w : List Byte) (s : State) :
    (startAttempt i w s).line.stuck = s.line.stuck := by
  unfold startAttempt
  cases i <;> simp

@[simp] theorem beginAttempt_stuck (s : State) : (beginAttempt s).line.stuck = s.line.stuck := by
  unfold beginAttempt
  (repeat' split) <;> simp

@[simp] theorem tell_stuck (s0 s : State) : (Machine.tell s0 s).line.stuck = s.line.stuck := by
  unfold Machine.tell tellHold tellState
  (repeat' split) <;> simp

@[simp] theorem publish_stuck (s0 s : State) : (publish s0 s).line.stuck = s.line.stuck := by
  unfold publish
  split <;> simp

@[simp] theorem changeAsk_stuck (a : Ask) (s : State) : (changeAsk a s).line.stuck = s.line.stuck := by
  unfold changeAsk
  split <;> simp

@[simp] theorem enterAwakeOrDoze_stuck (b : Bool) (s : State) :
    (enterAwakeOrDoze b s).line.stuck = s.line.stuck := by
  unfold enterAwakeOrDoze
  (repeat' split) <;> simp

/-! ## The drive under a target -/

@[simp] theorem quietDrive_state (d : DriveState) (s : State) : (quietDrive d s).drive.state = d := by
  simp [quietDrive, Drive.quieted]

@[simp] theorem quietDrive_samples (d : DriveState) (s : State) :
    (quietDrive d s).dirt.samples = s.dirt.samples := by
  unfold quietDrive
  dsimp only
  split <;> simp [Dirt.closeRun]

@[simp] theorem enterAlign_state (s : State) : (enterAlign s).drive.state = .align := by simp [enterAlign]

@[simp] theorem startRun_state (s : State) : (startRun s).drive.state = .align := by simp [startRun]

@[simp] theorem enterCoast_state (b : Bool) (s : State) : (enterCoast b s).drive.state = .coast := by
  simp [enterCoast]

@[simp] theorem enterCoast_samples (b : Bool) (s : State) : (enterCoast b s).dirt.samples = s.dirt.samples := by
  simp [enterCoast]

/-- The entry to STOPPED ends in STOPPED, or in the ALIGN of a new run (R49). -/
theorem enterStopped_state (s : State) :
    (enterStopped s).drive.state = .stopped ∨ (enterStopped s).drive.state = .align := by
  unfold enterStopped
  dsimp only
  split <;> simp

@[simp] theorem enterStopped_samples (s : State) : (enterStopped s).dirt.samples = s.dirt.samples := by
  unfold enterStopped
  dsimp only
  split <;> simp

/-- A target neither takes the drive into FAULT nor out of it (R60). -/
@[simp] theorem driveTarget_fault (w : Nat) (s : State) :
    (driveTarget w s).drive.state = .fault ↔ s.drive.state = .fault := by
  unfold driveTarget
  cases h : s.drive.state <;> by_cases hw : w = 0 <;> simp [h, hw]

@[simp] theorem driveTarget_samples (w : Nat) (s : State) :
    (driveTarget w s).dirt.samples = s.dirt.samples := by
  unfold driveTarget
  dsimp only
  (repeat' split) <;> simp

end Sys2Proof.Proofs
end

section
/-! ## What the settling of an event leaves as it is

After an event the charge controller, the rail, the power-state controller and a zeroed target settle. `Settling` says
once what all of that leaves unchanged, so that the statements about a command need only its own effect. -/

namespace Sys2Proof.Proofs
open Sys2Proof.Machine Sys2Proof.Safety

/-- What a scan's events may do beside their own effect: readings, counts, own reasons, samples, head and dock stay;
bleeds only open; the history stays or takes an entry. -/
structure ScanSettling (s t : State) : Prop where
  frame : t.time = s.time ∧ t.pins = s.pins ∧ t.loader = s.loader ∧ t.table = s.table ∧ t.free = s.free ∧
    t.pending = s.pending
  pack : t.pack = { s.pack with
    cells := t.pack.cells, scanTimer := t.pack.scanTimer, scanSwitchClosed := t.pack.scanSwitchClosed }
  cells : t.pack.cells = s.pack.cells ∨ t.pack.cells = s.pack.cells.map unbled
  throughout : t.pack.scanSwitchClosed = s.pack.scanSwitchClosed ∨ t.pack.scanSwitchClosed = false
  own : t.hold.reasons.packHot = s.hold.reasons.packHot ∧ t.hold.reasons.packCold = s.hold.reasons.packCold ∧
    t.hold.reasons.driveFault = s.hold.reasons.driveFault ∧ t.hold.reasons.headShort = s.hold.reasons.headShort ∧
    t.hold.reasons.overdraw = s.hold.reasons.overdraw ∧ t.hold.reasons.master = s.hold.reasons.master
  history : t.hold.history = s.hold.history ∨ t.hold.history.length ≤ 8
  samples : t.dirt.samples = s.dirt.samples
  attach : t.attach.head = s.attach.head ∧ t.attach.dock = s.attach.dock
  fault : t.drive.state = .fault ↔ s.drive.state = .fault
  stuck : t.line.stuck = s.line.stuck
  bleeds : lawBleeds s → lawBleeds t

/-- The phases in which a bleed may be set (R20). -/
def bleedPhase (p : ChargePhase) : Prop := p = .topoff ∨ p = .done

/-- A settling that begins no TOPOFF and no DONE: one that stands after it stood before, with its bleeds. -/
structure Settling (s t : State) : Prop extends ScanSettling s t where
  held : bleedPhase t.charge.phase → t.charge.phase = s.charge.phase ∧ t.pack.cells = s.pack.cells

/-- Taking a bleed mark off twice is taking it off once. -/
@[simp] theorem unbled_unbled (c : Cell) : unbled (unbled c) = unbled c := rfl

@[simp] theorem map_unbled_twice (cs : List Cell) : (cs.map unbled).map unbled = cs.map unbled := by
  simp [Function.comp_def]

theorem ScanSettling.trans {s t u : State} (a : ScanSettling s t) (b : ScanSettling t u) : ScanSettling s u where
  frame := by simp [a.frame, b.frame]
  pack := by rw [b.pack, a.pack]
  cells := by
    rcases b.cells with hb | hb <;> rcases a.cells with ha | ha <;> rw [hb, ha] <;> simp
  throughout := by
    rcases b.throughout with hb | hb
    · exact hb ▸ a.throughout
    · exact .inr hb
  own := by simp [a.own, b.own]
  history := by
    rcases b.history with hb | hb
    · exact hb ▸ a.history
    · exact .inr hb
  samples := b.samples.trans a.samples
  attach := by simp [a.attach, b.attach]
  fault := b.fault.trans a.fault
  stuck := b.stuck.trans a.stuck
  bleeds := fun h => b.bleeds (a.bleeds h)

theorem Settling.trans {s t u : State} (a : Settling s t) (b : Settling t u) : Settling s u where
  toScanSettling := a.toScanSettling.trans b.toScanSettling
  held := fun h => by
    obtain ⟨hp, hc⟩ := b.held h
    obtain ⟨hp', hc'⟩ := a.held (hp ▸ h)
    exact ⟨hp.trans hp', hc.trans hc'⟩

/-- A settling that touches neither the pack nor the phase. -/
theorem Settling.of_kept {s t : State}
    (frame : t.time = s.time ∧ t.pins = s.pins ∧ t.loader = s.loader ∧ t.table = s.table ∧ t.free = s.free ∧
      t.pending = s.pending)
    (pack : t.pack = s.pack) (phase : t.charge.phase = s.charge.phase)
    (own : t.hold.reasons.packHot = s.hold.reasons.packHot ∧ t.hold.reasons.packCold = s.hold.reasons.packCold ∧
      t.hold.reasons.driveFault = s.hold.reasons.driveFault ∧ t.hold.reasons.headShort = s.hold.reasons.headShort ∧
      t.hold.reasons.overdraw = s.hold.reasons.overdraw ∧ t.hold.reasons.master = s.hold.reasons.master)
    (history : t.hold.history = s.hold.history)
    (samples : t.dirt.samples = s.dirt.samples)
    (attach : t.attach.head = s.attach.head ∧ t.attach.dock = s.attach.dock)
    (fault : t.drive.state = .fault ↔ s.drive.state = .fault) (stuck : t.line.stuck = s.line.stuck) :
    Settling s t where
  frame := frame
  pack := by rw [pack]
  cells := .inl (by rw [pack])
  throughout := .inl (by rw [pack])
  own := own
  history := .inl history
  samples := samples
  attach := attach
  fault := fault
  stuck := stuck
  bleeds := by simp [lawBleeds, pack, phase]
  held := fun _ => ⟨phase, by rw [pack]⟩

theorem Settling.refl (s : State) : Settling s s := by
  apply Settling.of_kept <;> simp

/-- What an event tells the line settles nothing. -/
theorem Settling.publish {s t : State} (s0 : State) (h : Settling s t) : Settling s (publish s0 t) :=
  h.trans (by apply Settling.of_kept <;> simp)

theorem ScanSettling.publish {s t : State} (s0 : State) (h : ScanSettling s t) : ScanSettling s (publish s0 t) :=
  h.trans (Settling.refl t |>.publish s0).toScanSettling

/-! ### The target and the switch -/

@[simp] theorem zeroTarget_fault (s : State) : (zeroTarget s).drive.state = .fault ↔ s.drive.state = .fault := by
  simp [zeroTarget]

@[simp] theorem zeroTarget_samples (s : State) : (zeroTarget s).dirt.samples = s.dirt.samples := by
  simp [zeroTarget]

theorem zeroTarget_settling (s : State) : Settling s (zeroTarget s) := by
  apply Settling.of_kept <;> simp

theorem switchClosed_settling (s : State) : Settling s (switchClosed s) := by
  have h : Settling s (s.onAllow fun a => { a with pAllow := 0 }) := by apply Settling.of_kept <;> simp
  unfold switchClosed
  dsimp only
  split
  · exact h
  · exact h.trans (zeroTarget_settling _)

theorem openBleeds_pack (s : State) : (openBleeds s).pack = { s.pack with cells := s.pack.cells.map unbled } := rfl

/-- The marks of a switch that opens or closes: "closed throughout" ends, the phase stays. -/
theorem onSwitch_settling (f : Charge → Charge) (s : State) (hf : ∀ c, (f c).phase = c.phase) :
    Settling s ((s.onPack fun p => { p with scanSwitchClosed := false }).onCharge f) := by
  constructor
  · constructor <;> simp [lawBleeds, hf]
  · simp [hf]

theorem switchJudge_settling (s : State) : Settling s (switchJudge s) := by
  unfold switchJudge
  split
  · exact .refl s
  split
  · exact (onSwitch_settling (fun c => { c with switch := true }) s fun _ => rfl).trans (switchClosed_settling _)
  · exact onSwitch_settling _ s fun _ => rfl

/-! ### The charge controller -/

theorem changeAsk_phase (a : Ask) (s : State) : (changeAsk a s).charge.phase = s.charge.phase := by
  unfold changeAsk
  split <;> simp

theorem changeAsk_settling (a : Ask) (s : State) : Settling s (changeAsk a s) := by
  apply Settling.of_kept <;> simp [changeAsk_phase]

theorem refreshAsk_settling (s : State) : Settling s (refreshAsk s) := changeAsk_settling _ s

/-- The bleeds after a change of phase: as they were in TOPOFF and DONE, else open (R20). -/
theorem enterPhase_pack (ph : ChargePhase) (s : State) :
    (enterPhase ph s).pack =
      if ph = .topoff ∨ ph = .done then s.pack else { s.pack with cells := s.pack.cells.map unbled } := by
  unfold enterPhase
  by_cases h : ph = .topoff ∨ ph = .done <;> simp [h, openBleeds_pack]

theorem enterPhase_phase (ph : ChargePhase) (s : State) : (enterPhase ph s).charge.phase = ph := by
  unfold enterPhase
  dsimp only
  split <;> simp

theorem enterPhase_scanSettling (ph : ChargePhase) (s : State) : ScanSettling s (enterPhase ph s) := by
  by_cases h : ph = .topoff ∨ ph = .done
  · constructor <;> simp [enterPhase_pack, enterPhase_phase, lawBleeds, h]
    all_goals grind
  · constructor <;> simp [enterPhase_pack, enterPhase_phase, lawBleeds, h, unbled]

/-- A phase other than TOPOFF and DONE is entered. -/
theorem enterPhase_settling {ph : ChargePhase} (h : ¬ bleedPhase ph) (s : State) : Settling s (enterPhase ph s) where
  toScanSettling := enterPhase_scanSettling ph s
  held := by simp [enterPhase_phase, h]

/-- The charge controller's record changes, and the phase does not. -/
theorem onCharge_settling (f : Charge → Charge) (s : State) (hf : (f s.charge).phase = s.charge.phase) :
    Settling s (s.onCharge f) := by
  apply Settling.of_kept <;> simp [hf]

theorem enterPaused_settling (cs : Causes) (s : State) : Settling s (enterPaused cs s) :=
  (enterPhase_settling (by simp [bleedPhase]) s).trans (onCharge_settling _ _ rfl)

theorem waitingDecision_settling (s : State) : Settling s (waitingDecision s) := by
  unfold waitingDecision
  split
  · exact .refl s
  split
  · exact enterPaused_settling _ s
  split <;> exact enterPhase_settling (by simp [bleedPhase]) s

theorem chargeReview_settling (s : State) : Settling s (chargeReview s) := by
  have pause : Settling s (if s.causesNow.any then enterPaused s.causesNow s else s) := by
    split
    · exact enterPaused_settling _ s
    · exact .refl s
  unfold chargeReview
  split
  case h_1 => exact pause
  case h_2 => exact pause
  case h_3 => exact pause
  case h_4 =>
    split
    · exact onCharge_settling _ s rfl
    · exact (enterPhase_settling (by simp [bleedPhase]) s).trans (waitingDecision_settling _)
  case h_5 => exact waitingDecision_settling s
  all_goals exact .refl s

theorem chargeSettle_settling (s : State) : Settling s (chargeSettle s) :=
  ((chargeReview_settling s).trans (refreshAsk_settling _)).trans (switchJudge_settling _)

/-! ### The rail and the power-state controller -/

/-- The rail's judgement moves neither head nor dock detect (R178). -/
@[simp] theorem railJudge_head_dock (s : State) :
    (railJudge s).attach.head = s.attach.head ∧ (railJudge s).attach.dock = s.attach.dock := by
  unfold railJudge
  rw [onAttach_attach]
  (repeat' split) <;> simp

theorem railJudge_settling (s : State) : Settling s (railJudge s) := by
  apply Settling.of_kept <;> simp

/-- Only the scan timer of the pack monitor changes. -/
theorem scanTimer_settling {s t : State}
    (frame : t.time = s.time ∧ t.pins = s.pins ∧ t.loader = s.loader ∧ t.table = s.table ∧ t.free = s.free ∧
      t.pending = s.pending)
    (pack : t.pack = { s.pack with scanTimer := t.pack.scanTimer })
    (rest : t.charge = s.charge ∧ t.hold = s.hold ∧ t.dirt = s.dirt ∧ t.attach = s.attach ∧ t.drive = s.drive)
    (stuck : t.line.stuck = s.line.stuck) : Settling s t := by
  obtain ⟨hc, hh, hd, ha, hv⟩ := rest
  have cells : t.pack.cells = s.pack.cells := by rw [pack]
  have throughout : t.pack.scanSwitchClosed = s.pack.scanSwitchClosed := by rw [pack]
  exact {
    frame := frame
    pack := by rw [pack]
    cells := .inl cells
    throughout := .inl throughout
    own := by simp [hh]
    history := .inl (by rw [hh])
    samples := by rw [hd]
    attach := by simp [ha]
    fault := by rw [hv]
    stuck := stuck
    bleeds := by simp [lawBleeds, hc, cells]
    held := fun _ => ⟨by rw [hc], cells⟩ }

theorem enterAwakeOrDoze_settling (b : Bool) (s : State) : Settling s (enterAwakeOrDoze b s) := by
  apply scanTimer_settling <;> simp
  unfold enterAwakeOrDoze
  (repeat' split) <;> simp

theorem powerTimers_settling (s : State) : Settling s (powerTimers s) := by
  apply Settling.of_kept <;> simp [powerTimers]

theorem powerJudge_settling (s : State) : Settling s (powerJudge s) := by
  unfold powerJudge
  split
  · exact (enterAwakeOrDoze_settling _ s).trans (powerTimers_settling _)
  · exact .refl s

theorem handDrive_settling (s : State) : Settling s (handDrive s) :=
  (switchJudge_settling s).trans (powerJudge_settling _)

theorem handCharge_settling (s : State) : Settling s (handCharge s) :=
  (chargeSettle_settling s).trans (powerJudge_settling _)

/-! ### The hold unit -/

theorem formHolds_settling (s : State) : Settling s (formHolds s) := by
  apply Settling.of_kept <;> simp [formHolds, State.liveReasons]

theorem handStopCharge_settling (b : Bool) (s : State) : Settling s (handStopCharge b s) := by
  unfold handStopCharge
  split
  · exact switchJudge_settling s
  · exact chargeSettle_settling s

theorem handReasons_settling (s : State) : Settling s (handReasons s) := by
  have h : ∀ u, Settling s u → Settling s (powerJudge (railJudge (handStopCharge s.hold.stopCharge u))) := fun u h =>
    ((h.trans (handStopCharge_settling _ _)).trans (railJudge_settling _)).trans (powerJudge_settling _)
  unfold handReasons
  dsimp only
  split
  · exact h _ ((formHolds_settling s).trans (zeroTarget_settling _))
  · exact h _ (formHolds_settling s)

/-! ### The parts of a scan's events -/

theorem raise_settling (f : Flag) (s : State) : Settling s (raise f s) := by
  apply Settling.of_kept <;> simp

theorem pushHistory_scanSettling (k : FaultKind) (s : State) : ScanSettling s (pushHistory k s) := by
  constructor <;> simp [pushHistory, lawBleeds]

theorem chargeFault_scanSettling (k : FaultKind) (s : State) : ScanSettling s (chargeFault k s) :=
  ((((enterPhase_settling (by simp [bleedPhase]) s).trans (refreshAsk_settling _)).trans
    (switchJudge_settling _)).trans (raise_settling _ _)).toScanSettling.trans (pushHistory_scanSettling k _)

theorem supplyGuard_settling (b : Bool) (s : State) : Settling s (supplyGuard b s) := by
  unfold supplyGuard
  split
  · exact onCharge_settling _ s rfl
  · exact .refl s

theorem windowReview_settling (s : State) : Settling s (windowReview s) := by
  unfold windowReview
  split
  · exact .refl s
  dsimp only
  split
  · exact .refl s
  have h := (onCharge_settling (fun c => { c with window := reviewWindow s.cfg.windows s.charge.window s.pack.tPack })
    s rfl).trans (chargeReview_settling _)
  split
  · split
    · exact h.trans (changeAsk_settling _ _)
    · exact h
  · exact h

/-- From BULK alone can the progress of a phase begin TOPOFF (R102); else it is a settling like any other. -/
theorem phaseProgress_settling (s : State) (h : s.charge.phase ≠ .bulk) : Settling s (phaseProgress s) := by
  unfold phaseProgress
  split
  case h_1 =>
    split
    · exact enterPhase_settling (by simp [bleedPhase]) s
    · exact .refl s
  case h_2 => contradiction
  case h_3 =>
    split
    · split
      · exact (enterPhase_settling (by simp [bleedPhase]) s).trans (waitingDecision_settling _)
      · exact .refl s
    · exact .refl s
  all_goals exact .refl s

theorem phaseProgress_scanSettling (s : State) : ScanSettling s (phaseProgress s) := by
  by_cases h : s.charge.phase = .bulk
  · simp only [phaseProgress, h]
    split
    · split
      · exact enterPhase_scanSettling _ s
      · exact (Settling.refl s).toScanSettling
    · exact (Settling.refl s).toScanSettling
  · exact (phaseProgress_settling s h).toScanSettling

theorem terminationJudge_settling (s : State) : Settling s (terminationJudge s) := by
  unfold terminationJudge
  split
  · exact onCharge_settling _ s (by split <;> rfl)
  · exact .refl s

theorem excessJudge_settling (s : State) : Settling s (excessJudge s) := by
  apply Settling.of_kept <;> simp [excessJudge]

theorem allowanceComputation_settling (s : State) : Settling s (allowanceComputation s) := by
  have h : Settling s (excessJudge (s.onAllow fun _ => s.computed)) :=
    Settling.trans (by apply Settling.of_kept <;> simp) (excessJudge_settling _)
  exact (h.trans (by apply Settling.of_kept <;> simp)).trans (handDrive_settling _)

end Sys2Proof.Proofs
end

section
/-! ## The events of a scan completion -/

namespace Sys2Proof.Proofs
open Sys2Proof.Machine Sys2Proof.Safety

/-! ### The hold unit's outputs -/

/-- Of the hold unit, a handing of reasons forms the reasons and outputs afresh, and changes nothing else. -/
theorem handReasons_hold (s : State) : (handReasons s).hold = (formHolds s).hold := by
  unfold handReasons handStopCharge
  dsimp only
  (repeat' split) <;> simp

theorem formHolds_reasons (s : State) : (formHolds s).hold.reasons = s.liveReasons := rfl

theorem formHolds_history (s : State) : (formHolds s).hold.history = s.hold.history := rfl

theorem formHolds_stopCharge (s : State) : (formHolds s).hold.stopCharge = s.liveReasons.stopsCharge := rfl

theorem switchClosed_phase (s : State) : (switchClosed s).charge.phase = s.charge.phase := by simp

theorem switchJudge_phase (s : State) : (switchJudge s).charge.phase = s.charge.phase := by
  unfold switchJudge
  (repeat' split) <;> simp

/-- The phase moves with a handing of reasons only where stop-charge has changed (R106). -/
theorem handReasons_phase (s : State) (h : s.liveReasons.stopsCharge = s.hold.stopCharge) :
    (handReasons s).charge.phase = s.charge.phase := by
  unfold handReasons handStopCharge
  dsimp only
  split <;> simp [formHolds_stopCharge, h, switchJudge_phase]

/-- A TOPOFF or DONE that is reviewed once does not become BULK: it stays, or pauses (R106). -/
theorem chargeSettle_phase_of_held (s : State) (h : bleedPhase s.charge.phase) :
    (chargeSettle s).charge.phase ≠ .bulk := by
  rw [chargeSettle, switchJudge_phase, refreshAsk, changeAsk_phase, chargeReview]
  rcases h with h | h
  · simp only [h]
    split
    · simp [enterPaused, enterPhase_phase]
    · simp [h]
  · simp [h]

theorem handReasons_phase_of_held (s : State) (h : bleedPhase s.charge.phase) :
    (handReasons s).charge.phase ≠ .bulk := by
  have hand : ∀ u, bleedPhase u.charge.phase → ∀ b, (handStopCharge b u).charge.phase ≠ .bulk := by
    intro u hu b
    unfold handStopCharge
    split
    · rw [switchJudge_phase]
      rcases hu with hu | hu <;> simp [hu]
    · exact chargeSettle_phase_of_held u hu
  unfold handReasons
  dsimp only
  split <;> simpa using hand _ (by simpa using h) _

/-! ### The charge controller at a scan -/

/-- The HIGH cell's part of `chargeScan` (R110). -/
def highFault (high : Bool) (s : State) : State :=
  if high && (s.charge.phase.charging || s.charge.phase = .paused) then chargeFault .cellHigh s else s

/-- The window's review of `chargeScan`, with what the standing causes then do (R94, R106). -/
def scanReview (s : State) : State := refreshAsk (chargeReview (windowReview s))

/-- The test of the phase of `chargeScan`, in a phase that the review has left as it was (log 43). -/
def scanProgress (before : ChargePhase) (s : State) : State :=
  if s.charge.phase = before then phaseProgress s else s

/-- The end of `chargeScan`: the ask, the switch and, in TOPOFF, the termination timer (R104). -/
def scanConclusion (before : ChargePhase) (s : State) : State :=
  let s := switchJudge (refreshAsk s)
  if before = .topoff then terminationJudge s else s

/-- `chargeScan` from its HIGH cell and its supply guard on. -/
def scanFrom (s : State) : State := scanConclusion s.charge.phase (scanProgress s.charge.phase (scanReview s))

theorem chargeScan_eq (high throughout : Bool) (s : State) :
    chargeScan high throughout s = scanFrom (supplyGuard throughout (highFault high s)) := rfl

theorem scanReview_settling (s : State) : Settling s (scanReview s) :=
  ((windowReview_settling s).trans (chargeReview_settling _)).trans (refreshAsk_settling _)

theorem scanProgress_scanSettling (p : ChargePhase) (s : State) : ScanSettling s (scanProgress p s) := by
  unfold scanProgress
  split
  · exact phaseProgress_scanSettling s
  · exact (Settling.refl s).toScanSettling

theorem scanProgress_settling {p : ChargePhase} (h : p ≠ .bulk) (s : State) : Settling s (scanProgress p s) := by
  unfold scanProgress
  split
  case isTrue hp => exact phaseProgress_settling s (hp ▸ h)
  case isFalse => exact .refl s

theorem scanConclusion_settling (p : ChargePhase) (s : State) : Settling s (scanConclusion p s) := by
  have h := (refreshAsk_settling s).trans (switchJudge_settling _)
  unfold scanConclusion
  dsimp only
  split
  · exact h.trans (terminationJudge_settling _)
  · exact h

theorem scanFrom_scanSettling (s : State) : ScanSettling s (scanFrom s) :=
  ((scanReview_settling s).toScanSettling.trans (scanProgress_scanSettling _ _)).trans
    (scanConclusion_settling _ _).toScanSettling

theorem scanFrom_settling {s : State} (h : s.charge.phase ≠ .bulk) : Settling s (scanFrom s) :=
  ((scanReview_settling s).trans (scanProgress_settling h _)).trans (scanConclusion_settling _ _)

theorem supplyGuard_phase (b : Bool) (s : State) : (supplyGuard b s).charge.phase = s.charge.phase := by
  unfold supplyGuard
  split <;> rfl

theorem chargeFault_phase (k : FaultKind) (s : State) : (chargeFault k s).charge.phase = .fault := by
  simp [chargeFault, switchJudge_phase, refreshAsk, changeAsk_phase, enterPhase_phase]

theorem highFault_scanSettling (high : Bool) (s : State) : ScanSettling s (highFault high s) := by
  unfold highFault
  split
  · exact chargeFault_scanSettling _ s
  · exact (Settling.refl s).toScanSettling

theorem chargeScan_scanSettling (high throughout : Bool) (s : State) :
    ScanSettling s (chargeScan high throughout s) :=
  ((highFault_scanSettling high s).trans (supplyGuard_settling _ _).toScanSettling).trans (scanFrom_scanSettling _)

/-- A TOPOFF or DONE that stands after the charge controller's part of a scan stood before it, with its bleeds, but for
the TOPOFF that BULK gives way to (R102). -/
theorem chargeScan_held {high throughout : Bool} {s : State} (hb : s.charge.phase ≠ .bulk)
    (h : bleedPhase (chargeScan high throughout s).charge.phase) :
    bleedPhase s.charge.phase ∧ (chargeScan high throughout s).pack.cells = s.pack.cells := by
  rw [chargeScan_eq] at h ⊢
  unfold highFault at h ⊢
  split at h
  case isTrue =>
    have held := ((supplyGuard_settling throughout _).trans
      (scanFrom_settling (by simp [supplyGuard_phase, chargeFault_phase]))).held h
    rw [held.1, chargeFault_phase] at h
    simp [bleedPhase] at h
  case isFalse hf =>
    rw [if_neg hf]
    obtain ⟨hp, hc⟩ := ((supplyGuard_settling throughout s).trans
      (scanFrom_settling (by simpa [supplyGuard_phase] using hb))).held h
    exact ⟨hp ▸ h, hc⟩

/-! ### The events of a completion -/

theorem endStartScan_settling (s : State) : Settling s (endStartScan s) := by
  unfold endStartScan
  split
  · apply Settling.of_kept <;> simp [orderBreak]
  · apply scanTimer_settling <;> simp

/-- What a start scan ends with, after the events of its completion. -/
def startScanEnd (start : Bool) (s : State) : State := if start then endStartScan s else s

theorem startScanEnd_settling (b : Bool) (s : State) : Settling s (startScanEnd b s) := by
  cases b
  · exact .refl s
  · exact endStartScan_settling s

theorem completeScan_eq (r : ScanReading) (s : State) :
    completeScan r s = startScanEnd s.pack.startScan
      (asEvent scanAllowance (asEvent (scanCharge r s) (asEvent (scanTemps r) (asEvent (scanPack r) s)))) := rfl

/-- An event that settles a state from which what it tells the line settles too. -/
theorem asEvent_settling {f : State → State} {s : State} (h : Settling s (f s)) : Settling s (asEvent f s) :=
  h.publish s

theorem asEvent_scanSettling {f : State → State} {s : State} (h : ScanSettling s (f s)) :
    ScanSettling s (asEvent f s) := h.publish s

theorem scanAllowance_settling (s : State) : Settling s (scanAllowance s) :=
  (allowanceComputation_settling s).trans (handReasons_settling _)

/-- A rejected scan is the rejection itself and what it sets off. -/
theorem completeScan_rejected (r : ScanReading) (s : State) (h : ScanReading.accepted r = false) :
    Settling (rejectScan (clearScan s)) (completeScan r s) := by
  have hp : asEvent (scanPack r) s = publish s (handReasons (rejectScan (clearScan s))) := by
    simp [asEvent, scanPack, h]
  have ht : ∀ u, scanTemps r u = u := by simp [scanTemps, h]
  have hc : ∀ u, scanCharge r s u = u := by simp [scanCharge, h]
  have quiet : ∀ f : State → State, (∀ u, f u = u) → ∀ u, Settling u (asEvent f u) := fun f hf u =>
    asEvent_settling (by rw [hf]; exact .refl u)
  rw [completeScan_eq, hp]
  exact (((((handReasons_settling _).publish s).trans (quiet _ ht _)).trans (quiet _ hc _)).trans
    (asEvent_settling (scanAllowance_settling _))).trans (startScanEnd_settling _ _)

/-! ### What a settling leaves the readers -/

theorem ScanSettling.cfg {s t : State} (h : ScanSettling s t) : t.cfg = s.cfg := by
  simp [State.cfg, h.frame]

theorem ScanSettling.tPack {s t : State} (h : ScanSettling s t) : t.pack.tPack = s.pack.tPack := by rw [h.pack]

/-- What of a cell does not depend on its bleed reads the same after a settling, cell by cell. -/
theorem ScanSettling.map_cells {α : Type} {s t : State} (h : ScanSettling s t) (f : Cell → α)
    (hf : ∀ c, f (unbled c) = f c) : t.pack.cells.map f = s.pack.cells.map f := by
  rcases h.cells with hc | hc <;> rw [hc]
  simp [Function.comp_def, hf]

theorem ScanSettling.map_activeCells {α : Type} {s t : State} (h : ScanSettling s t) (f : Cell → α)
    (hf : ∀ c, f (unbled c) = f c) : t.activeCells.map f = s.activeCells.map f := by
  rw [State.activeCells, State.activeCells, h.cfg, List.map_take, List.map_take, h.map_cells f hf]

theorem ScanSettling.any_activeCells {s t : State} (h : ScanSettling s t) (p : Cell → Bool)
    (hp : ∀ c, p (unbled c) = p c) : t.activeCells.any p = s.activeCells.any p := by
  simpa [Function.comp_def] using congrArg (List.any · id) (h.map_activeCells p hp)

/-- What stop-charge depends on stays through a settling (R170). -/
theorem ScanSettling.stopsCharge {s t : State} (h : ScanSettling s t) :
    t.liveReasons.stopsCharge = s.liveReasons.stopsCharge := by
  have sensor : t.pack.sensor = s.pack.sensor := by rw [h.pack]
  have high := h.any_activeCells (fun c => decide (c.cls = .high)) fun _ => rfl
  simp only [Reasons.stopsCharge, State.liveReasons, high, sensor, h.stuck, h.own]

/-- PACK_HOT and PACK_COLD follow from what a settling leaves (R165). -/
theorem packReasons_settling {s t : State} (h : Settling s t) : Settling (packReasons s) (packReasons t) where
  frame := by simpa using h.frame
  pack := by simpa using h.pack
  cells := by simpa using h.cells
  throughout := by simpa using h.throughout
  own := by simp [packReasons, h.own, h.tPack, h.cfg]
  history := h.history
  samples := by simpa using h.samples
  attach := by simpa using h.attach
  fault := by simpa using h.fault
  stuck := by simpa using h.stuck
  bleeds := by simpa [lawBleeds] using h.bleeds
  held := by simpa using h.held

/-- The pack monitor's and the hold unit's parts of an accepted scan. -/
def scanTaken (r : ScanReading) (s : State) : State := packReasons (acceptScan r (clearScan s))

theorem scanEvents_settling (r : ScanReading) (s : State) (h : ScanReading.accepted r = true) :
    Settling (scanTaken r s) (asEvent (scanTemps r) (asEvent (scanPack r) s)) := by
  have hp : asEvent (scanPack r) s = publish s (handReasons (acceptScan r (clearScan s))) := by
    simp [asEvent, scanPack, h]
  have ht : ∀ u, asEvent (scanTemps r) u = publish u (handReasons (packReasons u)) := by simp [asEvent, scanTemps, h]
  rw [hp, ht]
  exact ((packReasons_settling ((handReasons_settling _).publish s)).trans (handReasons_settling _)).publish _

theorem scanCharge_accepted (r : ScanReading) (s0 s : State) (h : ScanReading.accepted r = true) :
    scanCharge r s0 s =
      powerJudge (chargeScan (becameHigh s0.activeCells s.activeCells) s0.pack.scanSwitchClosed s) := by
  simp [scanCharge, h]

theorem scanCharge_scanSettling (r : ScanReading) (s0 s : State) : ScanSettling s (scanCharge r s0 s) := by
  unfold scanCharge
  split
  · exact (chargeScan_scanSettling _ _ s).trans (powerJudge_settling _).toScanSettling
  · exact (Settling.refl s).toScanSettling

/-- An accepted scan is the readings taken, PACK_HOT and PACK_COLD judged, and what they set off. -/
theorem completeScan_accepted (r : ScanReading) (s : State) (h : ScanReading.accepted r = true) :
    ScanSettling (scanTaken r s) (completeScan r s) := by
  rw [completeScan_eq]
  exact (((scanEvents_settling r s h).toScanSettling.trans (asEvent_scanSettling (scanCharge_scanSettling r s _))).trans
    (asEvent_settling (scanAllowance_settling _)).toScanSettling).trans (startScanEnd_settling _ _).toScanSettling

/-- The parts before the charge controller's do not make a TOPOFF or DONE BULK. -/
theorem scanEvents_phase (r : ScanReading) (s : State) (h : ScanReading.accepted r = true)
    (hs : bleedPhase s.charge.phase) :
    (asEvent (scanTemps r) (asEvent (scanPack r) s)).charge.phase ≠ .bulk := by
  have held : bleedPhase (acceptScan r (clearScan s)).charge.phase := by simpa [clearScan] using hs
  have first : (asEvent (scanPack r) s).charge.phase ≠ .bulk := by
    simpa [asEvent, scanPack, h] using handReasons_phase_of_held _ held
  have formed : (asEvent (scanPack r) s).liveReasons.stopsCharge = (asEvent (scanPack r) s).hold.stopCharge := by
    have settled := (handReasons_settling (acceptScan r (clearScan s))).publish s
    simp only [asEvent, scanPack, h, if_true, settled.stopsCharge, publish_frame, handReasons_hold,
      formHolds_stopCharge]
  have second := handReasons_phase (packReasons (asEvent (scanPack r) s)) formed
  simpa [asEvent_frame, scanTemps, h, second] using first

/-- A TOPOFF or DONE that an accepted scan begins and ends in keeps the bleeds that its balancing set (R19). -/
theorem completeScan_bleeds (r : ScanReading) (s : State) (h : ScanReading.accepted r = true)
    (hs : bleedPhase s.charge.phase) (ht : bleedPhase (completeScan r s).charge.phase) :
    (completeScan r s).pack.cells = (acceptScan r (clearScan s)).pack.cells := by
  have events := scanEvents_settling r s h
  have notBulk := scanEvents_phase r s h hs
  rw [completeScan_eq] at ht ⊢
  generalize asEvent (scanTemps r) (asEvent (scanPack r) s) = v at *
  obtain ⟨hp, hc⟩ := ((asEvent_settling (scanAllowance_settling _)).trans
    (startScanEnd_settling s.pack.startScan _)).held ht
  simp only [hp, asEvent_frame, scanCharge_accepted r s v h] at ht hc
  obtain ⟨hpower, hcells⟩ := (powerJudge_settling _).held ht
  obtain ⟨hv, hkept⟩ := chargeScan_held notBulk (hpower ▸ ht)
  rw [hc, hcells, hkept, (events.held hv).2]
  simp [scanTaken]

end Sys2Proof.Proofs
end

section
/-! ## A rejected scan -/

namespace Sys2Proof.Proofs
open Sys2Proof.Machine Sys2Proof.Safety

@[simp] theorem endStartScan_hold (s : State) : (endStartScan s).hold = s.hold := by
  unfold endStartScan
  split <;> simp

@[simp] theorem startScanEnd_hold (b : Bool) (s : State) : (startScanEnd b s).hold = s.hold := by
  cases b <;> simp [startScanEnd]

@[simp] theorem allowanceComputation_hold (s : State) : (allowanceComputation s).hold = s.hold := by
  simp [allowanceComputation]

/-- The SENSOR reason that stands after a completion is the pack monitor's (R164). -/
theorem completeScan_sensor (r : ScanReading) (s : State) :
    (completeScan r s).hold.reasons.sensor = (completeScan r s).pack.sensor := by
  have kept : ∀ {s t : State}, Settling s t → t.pack.sensor = s.pack.sensor := fun h => by rw [h.pack]
  rw [completeScan_eq, startScanEnd_hold, kept (startScanEnd_settling _ _)]
  simp only [asEvent_frame, scanAllowance, handReasons_hold, formHolds_reasons, kept (handReasons_settling _)]
  rfl

/-- A rejected scan pushes nothing on the fault history. -/
theorem completeScan_history_of_rejected (r : ScanReading) (s : State) (h : ScanReading.accepted r = false) :
    (completeScan r s).hold.history = s.hold.history := by
  simp [completeScan_eq, scanAllowance, scanCharge, scanTemps, scanPack, h, handReasons_hold, formHolds_history,
    clearScan]

theorem rejectScan_pack (s : State) : (rejectScan (clearScan s)).pack =
    { s.pack with
      refFails := min 255 (s.pack.refFails + 1)
      sensor := s.activeCells.any (fun c => c.cls = .openTap) || s.pack.t1.faulty || s.pack.t2.faulty ||
        decide (2 ≤ min 255 (s.pack.refFails + 1))
      scan := .none
      startScan := false
      scanSwitchClosed := false } := rfl

/-- A completion with a scan in progress answers what `completeScan` makes of it. -/
theorem exec_scanCompletion (r : ScanReading) (s : State) (h : s.pack.scan ≠ .none) :
    exec (.scanCompletion r) s = .next (completeScan r s) := by
  simp [exec, execScanCompletion, h]

/-- The blocks that no scan touches. -/
theorem ScanSettling.onlyIn {s u t : State} (h : ScanSettling u t)
    (hu : u.time = s.time ∧ u.pins = s.pins ∧ u.loader = s.loader ∧ u.table = s.table ∧ u.free = s.free ∧
      u.pending = s.pending) : OnlyIn consequent s t := by
  simp [OnlyIn, consequent, h.frame, hu]

/-- Settles O23: the rejection itself writes the count, SENSOR and the end of the scan; what it sets off is a
`Settling`. -/
theorem rejectedScanKeepsReadings : Obligations.RejectedScanKeepsReadings := by
  intro s r
  constructor
  · intro scanning outside
    have rejected : ScanReading.accepted r = false := by
      simp only [ScanReading.accepted, Bool.and_eq_false_iff, decide_eq_false_iff_not]
      omega
    have settled := completeScan_rejected r s rejected
    refine ⟨_, exec_scanCompletion r s scanning, ?_⟩
    have sensor := completeScan_sensor r s
    have history := completeScan_history_of_rejected r s rejected
    generalize completeScan r s = t at *
    have pack := settled.pack
    have own := settled.own
    have throughout : t.pack.scanSwitchClosed = false := by
      rcases settled.throughout with h | h <;> simpa [rejectScan_pack] using h
    have fails : t.pack.refFails = min 255 (s.pack.refFails + 1) := by rw [pack]; rfl
    refine ⟨fails, ?_, sensor, ?_, ?_, history, ?_, ?_, ?_, ?_, ?_⟩
    · rw [fails, pack]; rfl
    · rw [rejectScan_pack, throughout] at pack
      rw [pack]
    · simpa [rejectScan_pack] using settled.map_cells unbled fun _ => rfl
    · simpa [clearScan] using own
    · simpa [clearScan] using settled.samples
    · simpa [clearScan] using settled.attach.1
    · simpa [clearScan] using settled.attach.2
    · exact settled.onlyIn (by simp [clearScan])
  · intro idle
    exact ⟨s, by simp [exec, execScanCompletion, idle], rfl⟩

end Sys2Proof.Proofs
end

section
/-! ## The charge count, the latch, the history and the samples from step to step

`Carries` is what every operation of the unit does to these laws: the configuration stays, and the laws are passed on.
It is transitive, so each operation is a chain of the ones it is made of. -/

namespace Sys2Proof.Proofs
open Sys2Proof.Machine Sys2Proof.Safety

/-- The laws of the charge count, the DRIVE_FAULT latch, the fault history and the sample queue (R14, R15, R62, R166,
R173, R78), with the length of the OCV table that the first rests on (R16). -/
structure QueueLaws (s : State) : Prop where
  ocv : ocvTable s
  charge : lawCharge s
  latch : lawLatch s
  history : lawHistory s
  samples : lawSamples s

/-- The configuration stays and the laws are passed on. -/
structure Carries (s t : State) : Prop where
  loader : t.loader = s.loader
  laws : QueueLaws s → QueueLaws t

theorem Carries.refl (s : State) : Carries s s := ⟨rfl, id⟩

theorem Carries.trans {s t u : State} (a : Carries s t) (b : Carries t u) : Carries s u :=
  ⟨b.loader.trans a.loader, fun h => b.laws (a.laws h)⟩

/-- What the laws read is the same, or the drive has left FAULT. -/
theorem Carries.of_kept {s t : State}
    (h : t.loader = s.loader ∧ t.pack.q = s.pack.q ∧ t.pack.soc = s.pack.soc ∧
      (t.drive.state = .fault → s.drive.state = .fault) ∧ t.hold.reasons.driveFault = s.hold.reasons.driveFault ∧
      t.hold.history = s.hold.history ∧ t.dirt.samples = s.dirt.samples) : Carries s t := by
  obtain ⟨loader, q, soc, fault, latch, history, samples⟩ := h
  refine ⟨loader, fun laws => ?_⟩
  constructor
  · simpa [ocvTable, State.cfg, loader] using laws.ocv
  · simpa [lawCharge, State.qFull, State.cfg, loader, q, soc] using laws.charge
  · simpa [lawLatch, latch] using fun hf => laws.latch (fault hf)
  · simpa [lawHistory, history] using laws.history
  · simpa [lawSamples, samples] using laws.samples

theorem ScanSettling.carries {s t : State} (h : ScanSettling s t) : Carries s t := by
  have loader : t.loader = s.loader := by simp [h.frame]
  have q : t.pack.q = s.pack.q := by rw [h.pack]
  have soc : t.pack.soc = s.pack.soc := by rw [h.pack]
  refine ⟨loader, fun laws => ?_⟩
  constructor
  · simpa [ocvTable, State.cfg, loader] using laws.ocv
  · simpa [lawCharge, State.qFull, State.cfg, loader, q, soc] using laws.charge
  · simpa [lawLatch, h.own, h.fault] using laws.latch
  · rcases h.history with hh | hh
    · simpa [lawHistory, hh] using laws.history
    · exact hh
  · simpa [lawSamples, h.samples] using laws.samples

theorem Settling.carries {s t : State} (h : Settling s t) : Carries s t := h.toScanSettling.carries

/-! ### Time, events and the line -/

theorem elapse_carries (n : Nat) (s : State) : Carries s (elapse n s) := .of_kept (by simp)

theorem runTo_carries (d : Nat) (s : State) : Carries s (runTo d s) := .of_kept (by simp)

theorem runToSecond_carries (d : Nat) (s : State) : Carries s (runToSecond d s) := .of_kept (by simp)

theorem runToSteady_carries (d : Nat) (s : State) : Carries s (runToSteady d s) := by
  unfold runToSteady
  split
  · exact .refl s
  · exact elapse_carries _ s

theorem asEvent_carries {f : State → State} (hf : ∀ s, Carries s (f s)) (s : State) : Carries s (asEvent f s) :=
  (hf s).trans (.of_kept (by simp [asEvent]))

theorem raise_carries (f : Flag) (s : State) : Carries s (raise f s) := .of_kept (by simp)

/-! ### The charge count (R14 to R18) -/

/-- Q takes a value within its range, and SoC with it. -/
theorem setQ_carries {q : Nat} {s : State} (h : QueueLaws s → q ≤ s.qFull) : Carries s (setQ q s) := by
  refine ⟨by simp, fun laws => ?_⟩
  constructor
  · simpa [ocvTable, State.cfg] using laws.ocv
  · simpa [lawCharge, setQ, State.qFull, State.cfg] using h laws
  · simpa [lawLatch] using laws.latch
  · simpa [lawHistory] using laws.history
  · simpa [lawSamples] using laws.samples

/-- The per cent of a voltage on the table lies within the points of the table (R16). -/
theorem ocvPercent_le (mean : Nat) (table : List Nat) :
    ∀ base, ocvPercent mean base table ≤ base + 10 * (table.length - 1) := by
  induction table with
  | nil => simp [ocvPercent]
  | cons lo rest ih =>
    cases rest with
    | nil => simp [ocvPercent]
    | cons hi rest =>
      intro base
      rw [ocvPercent]
      have further := ih (base + 10)
      simp only [List.length_cons] at further ⊢
      split
      · omega
      · split
        · have : 10 * (mean - lo) / (hi - lo) ≤ 10 := Nat.div_le_of_le_mul (by omega)
          omega
        · omega

theorem startValue_carries (s : State) : Carries s (startValue s) := by
  unfold startValue
  split
  · have pending : Carries s (s.onPack fun p => { p with ocvPending := false }) := .of_kept (by simp)
    refine pending.trans (setQ_carries fun laws => ?_)
    have table := laws.ocv
    have percent := ocvPercent_le (s.pack.vPack / s.cfg.cells) s.cfg.ocv 0
    simp only [ocvTable, State.cfg, onPack_loader] at table percent
    have : ocvPercent (s.pack.vPack / s.cfg.cells) 0 s.cfg.ocv ≤ 100 := by simp only [State.cfg]; omega
    simp only [State.qFull, State.cfg, onPack_loader] at this ⊢
    exact Nat.div_le_of_le_mul (Nat.mul_le_mul_right _ this)
  · exact .refl s

theorem emptyRest_carries (s : State) : Carries s (emptyRest s) := by
  unfold emptyRest
  (repeat' split)
  · exact .of_kept (by simp)
  · exact Carries.trans (.of_kept (by simp)) (setQ_carries fun _ => Nat.zero_le _)
  · exact .of_kept (by simp)

theorem balance_carries (s : State) : Carries s (balance s) := by
  unfold balance
  (repeat' split)
  · exact .of_kept (by simp [openBleeds])
  · exact .of_kept (by simp)
  · exact .refl s

theorem raiseSome_carries (f : Option Flag) (s : State) : Carries s (raiseSome f s) := .of_kept (by simp)

theorem sensorJudge_carries (s : State) : Carries s (sensorJudge s) := .of_kept (by simp [sensorJudge])

theorem packReasons_carries (s : State) : Carries s (packReasons s) := .of_kept (by simp [packReasons])

theorem acceptScan_carries (r : ScanReading) (s : State) : Carries s (acceptScan r s) := by
  have readings : Carries s (s.onPack (takeReadings s.cfg r)) := .of_kept (by simp [takeReadings])
  exact ((((readings.trans (raiseSome_carries _ _)).trans (sensorJudge_carries _)).trans
    (startValue_carries _)).trans (emptyRest_carries _)).trans (balance_carries _)

theorem rejectScan_carries (s : State) : Carries s (rejectScan s) := .of_kept (by simp [rejectScan, sensorJudge])

theorem completeScan_carries (r : ScanReading) (s : State) : Carries s (completeScan r s) := by
  have clear : Carries s (clearScan s) := .of_kept (by simp [clearScan])
  cases h : ScanReading.accepted r
  · exact (clear.trans (rejectScan_carries _)).trans (completeScan_rejected r s h).carries
  · exact ((clear.trans (acceptScan_carries r _)).trans (packReasons_carries _)).trans
      (completeScan_accepted r s h).carries

theorem deliveredQ_le (q qFull : Nat) (mAs : Int) : deliveredQ q qFull mAs ≤ qFull := by
  simp only [deliveredQ, clampInt]
  omega

theorem onCharge_carries (f : Charge → Charge) (s : State) : Carries s (s.onCharge f) := .of_kept (by simp)

theorem deliver_carries (m : Int) (s : State) : Carries s (deliver m s) := by
  unfold deliver
  refine Carries.trans (Carries.trans ?_ (setQ_carries fun _ => deliveredQ_le _ _ _)) (onCharge_carries _ _)
  exact .of_kept (by simp)

/-- The charge controller's entry to DONE: Q is Q_full (R17). -/
theorem chargeDone_carries (s : State) : Carries s (chargeDone s) :=
  ((((enterPhase_scanSettling .done s).trans (refreshAsk_settling _).toScanSettling).trans
    (switchJudge_settling _).toScanSettling).carries.trans (setQ_carries fun _ => le_refl _)).trans
    (Carries.trans (.of_kept (by simp)) (raise_carries _ _))

/-! ### The drive and its latch (R61, R62, R166) -/

theorem enterStopped_fault (s : State) : (enterStopped s).drive.state ≠ .fault := by
  rcases enterStopped_state s with h | h <;> simp [h]

theorem enterStopped_carries (s : State) : Carries s (enterStopped s) :=
  .of_kept (by simp [enterStopped_fault])

theorem enterCoast_carries (b : Bool) (s : State) : Carries s (enterCoast b s) := .of_kept (by simp)

theorem enterAlign_carries (s : State) : Carries s (enterAlign s) := .of_kept (by simp)

/-- The latch takes its value beside a drive that is in FAULT only where it stands. -/
theorem onReasons_latch_carries {s u : State} {b : Bool}
    (kept : u.loader = s.loader ∧ u.pack.q = s.pack.q ∧ u.pack.soc = s.pack.soc ∧
      u.dirt.samples = s.dirt.samples)
    (history : lawHistory s → lawHistory u) (latched : u.drive.state = .fault → b = true) :
    Carries s (onReasons (fun r => { r with driveFault := b }) u) := by
  obtain ⟨loader, q, soc, samples⟩ := kept
  refine Carries.trans ⟨by simpa using loader, fun laws => ?_⟩ (handReasons_settling _).carries
  constructor
  · simpa [ocvTable, State.cfg, loader] using laws.ocv
  · simpa [lawCharge, State.qFull, State.cfg, loader, q, soc] using laws.charge
  · simpa [lawLatch] using latched
  · simpa [lawHistory] using history laws.history
  · simpa [lawSamples, samples] using laws.samples

theorem pushHistory_history (k : FaultKind) (s : State) : lawHistory (pushHistory k s) := by
  simp [lawHistory, pushHistory]

theorem driveFault_carries (k : FaultKind) (s : State) : Carries s (driveFault k s) := by
  have pushed : lawHistory (raise .driveFault (quietDrive .fault (pushHistory k s))) := by
    simpa [lawHistory] using pushHistory_history k s
  unfold driveFault
  dsimp only
  split
  · exact onReasons_latch_carries (by simp) (fun _ => pushed) fun _ => rfl
  · refine onReasons_latch_carries (by simp) (fun _ => ?_) fun h => absurd h (enterStopped_fault _)
    simpa [lawHistory] using pushed

theorem leaveFault_fault (s : State) : (leaveFault s).drive.state ≠ .fault := by
  unfold leaveFault
  split
  · exact enterStopped_fault s
  · assumption

theorem leaveFault_samples (s : State) : (leaveFault s).dirt.samples = s.dirt.samples := by
  unfold leaveFault
  split <;> simp

theorem latchTest_carries (s : State) : Carries s (latchTest s) := by
  unfold latchTest
  split
  · exact onReasons_latch_carries (by simp [leaveFault_samples]) (by simp [lawHistory])
      fun h => absurd h (leaveFault_fault s)
  · exact .refl s

theorem pushHistory_carries (k : FaultKind) (s : State) : Carries s (pushHistory k s) :=
  (pushHistory_scanSettling k s).carries

/-- A reason of the hold unit's own other than the latch takes a value. -/
theorem onReasons_carries {f : Reasons → Reasons} (hf : ∀ r, (f r).driveFault = r.driveFault) (s : State) :
    Carries s (onReasons f s) :=
  Carries.trans (.of_kept (by simp [hf])) (handReasons_settling _).carries

/-! ### The station table, the dock and the head -/

theorem handTable_carries (t0 : Table) (s : State) : Carries s (handTable t0 s) := by
  have latch : Carries s (if s.table.wish = t0.wish then s else latchTest s) := by
    split
    · exact .refl s
    · exact latchTest_carries s
  have holds : ∀ u, Carries u (if u.table.heardUnion u.cfg.holdStations = u.hold.heard then u else handReasons u) := by
    intro u
    split
    · exact .refl u
    · exact (handReasons_settling u).carries
  have dock : ∀ u, Carries u (if tellsDock t0.dockRecord u.table.dockRecord then handCharge u else powerJudge u) := by
    intro u
    split
    · exact (handCharge_settling u).carries
    · exact (powerJudge_settling u).carries
  exact (latch.trans (holds _)).trans (dock _)

theorem setTable_carries (t : Table) (s : State) : Carries s (setTable t s) :=
  Carries.trans (.of_kept (by simp)) (handTable_carries _ _)

theorem undock_carries (b : Bool) (s : State) : Carries s (undock b s) := by
  have asked : Carries s (if b && s.charge.phase.charging then putSlot .ask Ask.disabled.payload s else s) := by
    split
    · exact .of_kept (by simp)
    · exact .refl s
  exact (asked.trans (.of_kept (by simp [openBleeds]))).trans (switchJudge_settling _).carries

theorem dockIn_carries (s : State) : Carries s (dockIn s) :=
  (enterPhase_scanSettling .waiting s).carries.trans (onCharge_settling _ _ rfl).carries

theorem supplyEvent_carries (p : SupplyPart) (s : State) : Carries s (supplyEvent p s) := by
  have echoed : ∀ f, Carries s (s.onCharge f) := fun f => .of_kept (by simp)
  have faulted : ∀ u, Carries u
      (if p.state = .fault && u.charge.phase.charging then chargeFault .dockFault u else u) := by
    intro u
    split
    · exact (chargeFault_scanSettling _ u).carries
    · exact .refl u
  exact (echoed _).trans (faulted _)

theorem removal_carries (s : State) : Carries s (removal s) := by
  unfold removal
  refine Carries.trans (Carries.trans ?_ (setTable_carries _ _)) (onReasons_carries (by simp) _)
  exact .of_kept (by simp)

theorem judgeContacts_carries (s : State) : Carries s (judgeContacts s) := by
  unfold judgeContacts
  (repeat' split)
  · exact .of_kept (by simp)
  · exact .refl s
  · exact .refl s
  · exact removal_carries s
  · exact .refl s

theorem judgeDockPin_carries (s : State) : Carries s (judgeDockPin s) := .of_kept (by simp)

/-! ### SLEEP, SHIP and the wake -/

theorem quietTarget_carries (s : State) : Carries s (quietTarget s) := by
  have zeroed : Carries s ((zeroTarget s).onAllow fun a => { a with mode := .off }) :=
    (zeroTarget_settling s).carries.trans (.of_kept (by simp))
  unfold quietTarget
  dsimp only
  split
  · exact zeroed
  · exact zeroed.trans (.of_kept (by simp))

theorem quiet_carries (p : PowerState) (s : State) : Carries s (quiet p s) := by
  have pack : Carries s (s.onPack Pack.quieted) := .of_kept (by simp [Pack.quieted])
  have drive := (pack.trans (quietTarget_carries _)).trans (undock_carries false _)
  unfold quiet
  exact (drive.trans (.of_kept (by simp))).trans (formHolds_settling _).carries

theorem wake_carries (s : State) : Carries s (wake s) := by
  have started : Carries s (startDozeTimers (orderBreak (orderStartScan
      ((s.onPower fun p => { p with state := .doze }).onPack fun p => { p with direct := true })))) :=
    .of_kept (by simp [startDozeTimers, orderStartScan])
  exact (((started.trans (judgeDockPin_carries _)).trans (judgeContacts_carries _)).trans
    (railJudge_settling _).carries).trans (powerJudge_settling _).carries

theorem wakeByLevel_carries (s : State) : Carries s (wakeByLevel s) := by
  unfold wakeByLevel
  split
  · exact (wake_carries s).trans (.of_kept (by simp))
  · exact .refl s

theorem enterSleep_carries (s : State) : Carries s (enterSleep s) :=
  (quiet_carries _ s).trans (wakeByLevel_carries _)

theorem enterShip_carries (s : State) : Carries s (enterShip s) :=
  (quiet_carries _ s).trans (wakeByLevel_carries _)

theorem endStarting_carries (s : State) : Carries s (endStarting s) := by
  have timers : ∀ f g, Carries s ((startDozeTimers (s.onPower f)).onPack fun p => { p with scanTimer := g }) :=
    fun f g => .of_kept (by simp [startDozeTimers])
  exact ((((timers _ _).trans (judgeDockPin_carries _)).trans (judgeContacts_carries _)).trans
    (railJudge_settling _).carries).trans (powerJudge_settling _).carries

theorem giveShipOrder_carries (s : State) : Carries s (giveShipOrder s) := by
  have given : ∀ f, Carries s (s.onReport f) := fun f => .of_kept (by simp)
  unfold giveShipOrder
  dsimp only
  (repeat' split)
  · exact .refl s
  · exact given _
  · exact (given _).trans (enterShip_carries _)

theorem thenShip_carries (b : Bool) (s : State) : Carries s (thenShip b s) := by
  cases b
  · exact .refl s
  · exact giveShipOrder_carries s

theorem putReport_carries (p : List Byte) (s : State) : Carries s (putReport p s) :=
  Carries.trans (.of_kept (by simp)) (thenShip_carries _ _)

theorem conflictEvidence_carries (s : State) : Carries s (conflictEvidence s) :=
  Carries.trans (.of_kept (by simp)) (handReasons_settling _).carries

end Sys2Proof.Proofs
end

section
/-! ## Every command passes the laws on -/

namespace Sys2Proof.Proofs
open Sys2Proof.Machine Sys2Proof.Safety

/-- Whatever a command answers with carries the laws. -/
def AnswersCarry (o : Out) (s : State) : Prop := ∀ t, o = .next t → Carries s t

theorem answersCarry_next {s t : State} (h : Carries s t) : AnswersCarry (.next t) s := by
  intro u hu
  cases hu
  exact h

section
variable {f : State → State} (hf : ∀ s, Carries s (f s))
include hf

theorem finish_carries (s : State) : AnswersCarry (finish f s) s := answersCarry_next (asEvent_carries hf s)

theorem finishIf_carries (c : Bool) (s : State) : AnswersCarry (finishIf c f s) s := by
  cases c
  · exact answersCarry_next (.refl s)
  · exact finish_carries hf s

theorem onTimer_carries (d : Option Nat) (s : State) : AnswersCarry (onTimer d f s) s := by
  cases d with
  | none => exact answersCarry_next (.refl s)
  | some d => exact finish_carries (fun s => (runTo_carries d s).trans (hf _)) s

theorem onTimerQuietly_carries (d : Option Nat) (s : State) : AnswersCarry (onTimerQuietly d f s) s := by
  cases d with
  | none => exact answersCarry_next (.refl s)
  | some d => exact answersCarry_next ((runTo_carries d s).trans (hf _))

end

/-! ### Notices and their handling -/

theorem dropOldest_carries (s : State) : Carries s (dropOldest s) := .of_kept (by simp [dropOldest])

theorem evict_carries (n : Notice) (s : State) : Carries s (evict n s) := by
  unfold evict
  split
  · exact asEvent_carries (setTable_carries _) s
  · exact .refl s

theorem handledBy_carries {act : Notice → Table → State → State} (hact : ∀ n tb s, Carries s (act n tb s))
    (kind : Notice → Bool) (s : State) : AnswersCarry (handledBy kind act s) s := by
  intro t ht
  obtain ⟨-, rfl⟩ | ⟨n, -, ⟨tb, -, rfl⟩ | ⟨-, rfl⟩⟩ := handledBy_cases kind act s t ht
  · exact .refl t
  · exact ((dropOldest_carries s).trans (evict_carries n _)).trans (hact n tb _)
  · exact (dropOldest_carries s).trans (asEvent_carries (raise_carries _) _)

theorem handled_carries {act : Notice → Table → State → State} (hact : ∀ n tb s, Carries s (act n tb s))
    (kind : Notice → Bool) (s : State) : AnswersCarry (handled kind act s) s :=
  handledBy_carries (fun n tb => asEvent_carries (hact n tb)) kind s

theorem actEntry_carries (n : Notice) (tb : Table) (s : State) : Carries s (actEntry n tb s) := setTable_carries tb s

theorem actRequest_carries (n : Notice) (tb : Table) (s : State) : Carries s (actRequest n tb s) :=
  (setTable_carries tb s).trans (.of_kept (by simp [actRequest]))

theorem actSupply_carries (n : Notice) (tb : Table) (s : State) : Carries s (actSupply n tb s) := by
  have entered : Carries s (s.onTable fun _ => tb) := .of_kept (by simp)
  exact ((entered.trans (supplyEvent_carries _ _)).trans (handTable_carries _ _)).trans (handCharge_settling _).carries

theorem actAnswer_carries (form : Notice → State → List Byte) (n : Notice) (tb : Table) (s : State) :
    Carries s (actAnswer form n tb s) := (setTable_carries tb s).trans (putReport_carries _ _)

/-- The oldest sample leaves the queue (R79). -/
theorem dropSample_carries (s : State) : Carries s (s.onDirt fun d => { d with samples := d.samples.drop 1 }) := by
  refine ⟨rfl, fun laws => ⟨laws.ocv, laws.charge, laws.latch, laws.history, ?_⟩⟩
  have := laws.samples
  simp only [lawSamples, onDirt_dirt, List.length_drop] at this ⊢
  omega

theorem actSample_carries (n : Notice) (tb : Table) (s : State) : Carries s (actSample n tb s) :=
  ((setTable_carries tb s).trans (dropSample_carries _)).trans (putReport_carries _ _)

theorem actAction_carries {act : State → State} (hact : ∀ s, Carries s (act s)) (n : Notice) (tb : Table)
    (s : State) : Carries s (actAction act n tb s) := by
  have answered : ∀ u, Carries u (answerAction act n u) := by
    intro u
    unfold answerAction
    split
    · exact (hact u).trans (putReport_carries _ _)
    · exact putReport_carries _ u
  exact (asEvent_carries (setTable_carries tb) s).trans (asEvent_carries answered _)

theorem clearHistory_carries (s : State) : Carries s (s.onHold fun h => { h with history := [] }) :=
  ⟨rfl, fun laws => ⟨laws.ocv, laws.charge, laws.latch, Nat.zero_le 8, laws.samples⟩⟩

theorem acceptShip_carries (n : Notice) (s : State) : Carries s (acceptShip n s) := by
  have answered := putReport_carries (bareAnswer n .ok) s
  unfold acceptShip
  dsimp only
  split
  · exact answered
  · exact answered.trans (.of_kept (by simp))

theorem actShip_carries (n : Notice) (tb : Table) (s : State) : Carries s (actShip n tb s) := by
  refine (setTable_carries tb s).trans ?_
  unfold actShip
  dsimp only
  split
  · exact acceptShip_carries n _
  · exact putReport_carries _ _

theorem offerNotice_carries (n : Notice) (s : State) : Carries s (offerNotice n s) := by
  unfold offerNotice
  split
  · exact .of_kept (by simp)
  · exact raise_carries _ s

theorem receiveNotice_carries (chars : List Byte) (s : State) : Carries s (receiveNotice chars s) := by
  have judged : ∀ u, Carries u (judgeNotice chars u) := by
    intro u
    unfold judgeNotice
    (repeat' split)
    · exact conflictEvidence_carries u
    · exact offerNotice_carries _ u
    · exact .refl u
    · exact .refl u
  exact Carries.trans (.of_kept (by simp)) (judged _)

/-! ### The line -/

theorem outcome_carries (i : SlotId) (g : FlagState → FlagState) (s : State) : Carries s (outcome i g s) :=
  .of_kept (by simp)

theorem loseAttempt_carries (s : State) : Carries s (loseAttempt s) := .of_kept (by simp)

theorem loseUnsettled_carries (s : State) : Carries s (loseUnsettled s) := .of_kept (by simp)

theorem onLine_carries (f : Line → Line) (s : State) : Carries s (s.onLine f) := .of_kept (by simp)

theorem dropNotice_carries (u : Unsettled) (s : State) : Carries s (dropNotice u s) :=
  ((onLine_carries _ s).trans (conflictEvidence_carries _)).trans (thenShip_carries _ _)

theorem countError_carries (u : Unsettled) (s : State) : Carries s (countError u s) := by
  have counted := (onLine_carries (fun l => { l with unsettled := none }) s).trans (outcome_carries u.slot .lost _)
  unfold countError
  dsimp only
  split
  · exact counted.trans (onLine_carries _ _)
  · exact counted.trans (dropNotice_carries u _)

theorem becomeIdle_carries (s : State) : Carries s (becomeIdle s) := by
  have settled : ∀ u, Carries u (settle u) := by
    intro u
    unfold settle
    split
    · exact countError_carries _ u
    · exact .refl u
  exact (onLine_carries _ s).trans (settled _)

theorem loseHeader_carries (s : State) : Carries s (loseHeader s) :=
  ((loseAttempt_carries s).trans (onLine_carries _ _)).trans (thenShip_carries _ _)

theorem endErrored_carries (a : Attempt) (s : State) : Carries s (endErrored a s) := by
  have landed : ∀ u, Carries u (onAnswer a.slot .landed u) := fun u => .of_kept (by simp)
  exact ((onLine_carries _ s).trans (landed _)).trans (thenShip_carries _ _)

theorem completeAttempt_carries (a : Attempt) (s : State) : Carries s (completeAttempt a s) :=
  ((onLine_carries _ s).trans (outcome_carries _ _ _)).trans (thenShip_carries _ _)

theorem takeBreak_carries (s : State) : Carries s (takeBreak s) := by
  have held : ∀ u, Carries u (holdAtBreak u) := by
    intro u
    unfold holdAtBreak
    split
    · exact .of_kept (by simp)
    · exact .refl u
  have put : ∀ u, Carries u (putState (raise .lineReset u)) := fun u => .of_kept (by simp)
  exact (((((((loseAttempt_carries s).trans (loseUnsettled_carries _)).trans (onLine_carries _ _)).trans
    (setTable_carries _ _)).trans (put _)).trans (held _)).trans (onLine_carries _ _)).trans (thenShip_carries _ _)

theorem releaseBreak_carries (s : State) : Carries s (releaseBreak s) := by
  have started : ∀ u : State, Carries u (if u.power.state = .starting then endStarting u else u) := by
    intro u
    split
    · exact endStarting_carries u
    · exact .refl u
  exact (onLine_carries _ s).trans (started _)

theorem stickLine_carries (s : State) : Carries s (stickLine s) :=
  ((((loseAttempt_carries s).trans (loseUnsettled_carries _)).trans (onLine_carries _ _)).trans
    (handReasons_settling _).carries).trans (thenShip_carries _ _)

theorem recoverLine_carries (s : State) : Carries s (recoverLine s) :=
  (onLine_carries _ s).trans (handReasons_settling _).carries

theorem fallingEdge_carries (low : Option Nat) (s : State) : Carries s (fallingEdge low s) := by
  unfold fallingEdge
  (repeat' split) <;> first | exact onLine_carries _ s | exact .refl s

/-! ### The drive and dirt sensing -/

/-- The drive changes, and enters no FAULT. -/
theorem onDrive_carries (f : Drive → Drive) (s : State)
    (hf : (f s.drive).state = .fault → s.drive.state = .fault) : Carries s (s.onDrive f) := .of_kept (by simpa using hf)

theorem forceCommutation_carries (s : State) : Carries s (forceCommutation s) :=
  .of_kept (by simp [forceCommutation, writeDuty, commutate])

theorem enterRamp_carries (s : State) : Carries s (enterRamp s) :=
  (onDrive_carries _ s (by simp)).trans (forceCommutation_carries _)

theorem enterRun_carries (s : State) : Carries s (enterRun s) := .of_kept (by simp [enterRun, Dirt.openRun])

theorem badStep_state (d : Drive) : d.badStep.state = d.state := rfl

theorem goodInterval_state (d : Drive) (i : Nat) : (d.goodInterval i).state = d.state := rfl

theorem crossingInRun_carries (s : State) : Carries s (crossingInRun s) :=
  .of_kept (by simp [crossingInRun, apply_ite Drive.state, badStep_state, goodInterval_state])

theorem crossingInRamp_carries (off : Nat) (s : State) : Carries s (crossingInRamp off s) := by
  have entered : ∀ u : State, Carries u (if 12 ≤ u.drive.goodCrossings then enterRun u else u) := by
    intro u
    split
    · exact enterRun_carries u
    · exact .refl u
  exact (onDrive_carries _ s (by exact id)).trans (entered _)

theorem captureEdge_carries (p : MotorPhase) (e : Edge) (s : State) : Carries s (captureEdge p e s) := by
  unfold captureEdge
  (repeat' split)
  · exact crossingInRun_carries s
  · exact crossingInRamp_carries _ s
  · exact .refl s
  · exact .refl s

theorem nextForced_carries (s : State) : Carries s (nextForced s) :=
  (onDrive_carries _ s id).trans (forceCommutation_carries _)

theorem commutate_carries (s : State) : Carries s (commutate s) := onDrive_carries _ s id

theorem commutateOnCompare_carries (s : State) : Carries s (commutateOnCompare s) :=
  (commutate_carries s).trans (onDrive_carries _ _ id)

theorem missCrossing_carries (s : State) : Carries s (missCrossing s) :=
  (commutate_carries s).trans (onDrive_carries _ _ id)

/-- A failure is counted, and ends in FAULT or in a COAST with the restart mark (R53, R58). -/
theorem faultOrCoast_carries (c : Prop) [Decidable c] (k : FaultKind) (s : State) :
    Carries s (if c then driveFault k s else handDrive (enterCoast true s)) := by
  split
  · exact driveFault_carries k s
  · exact (enterCoast_carries true s).trans (handDrive_settling _).carries

theorem takeDesync_carries (s : State) : Carries s (takeDesync s) :=
  (onDrive_carries _ s id).trans (faultOrCoast_carries _ _ _)

theorem failRamp_carries (s : State) : Carries s (failRamp s) :=
  (onDrive_carries _ s id).trans (faultOrCoast_carries _ _ _)

theorem controlStep_carries (s : State) : Carries s (controlStep s) := by
  refine .of_kept ?_
  simp [controlStep, Drive.judgeBlocked, writeDuty]

theorem countSecond_state (d : Drive) (m : Mode) : (d.countSecond m).state = d.state := by
  cases m <;> rfl

theorem endCoast_carries (s : State) : Carries s (endCoast s) := by
  have ended : Carries s (if s.drive.restart ∧ s.drive.target ≠ 0 then enterAlign s else enterStopped s) := by
    split
    · exact enterAlign_carries s
    · exact enterStopped_carries s
  exact ended.trans (handDrive_settling _).carries

/-- The sample queue is written by the scoring alone (R78). -/
theorem onDirt_carries (f : Dirt → Dirt) (s : State) (hf : (f s.dirt).samples = s.dirt.samples) :
    Carries s (s.onDirt f) := .of_kept (by simpa using hf)

theorem offer_samples (d : Dirt) (r : Impact) : (d.offer r).samples = d.samples := by
  unfold Dirt.offer
  split <;> rfl

theorem endImpact_samples (d : Dirt) : d.endImpact.samples = d.samples := by
  unfold Dirt.endImpact
  dsimp only
  split
  · rfl
  · exact offer_samples d _

theorem sample_samples (d : Dirt) (c : Settings) (v : Nat) : (d.sample c v).samples = d.samples := by
  unfold Dirt.sample
  dsimp only
  (repeat' split) <;> first | rfl | exact endImpact_samples _

theorem takeSample_carries (code : Byte) (s : State) : Carries s (takeSample code s) :=
  onDirt_carries _ s (by simp [sample_samples])

theorem levelAfter_samples (d : Dirt) (raw : Nat) : (d.levelAfter raw).samples = d.samples := by
  unfold Dirt.levelAfter
  (repeat' split) <;> rfl

theorem expireWindow_carries (s : State) : Carries s (expireWindow s) := by
  have closed : ∀ u c h, Carries u (u.onDirt (·.closeWindow c h)) := fun u c h =>
    onDirt_carries _ u (by simp [Dirt.closeWindow, levelAfter_samples])
  unfold expireWindow
  split
  · exact Carries.trans (.of_kept (by simp)) (closed _ _ _)
  · exact closed s _ _

/-- A copy joins the sample queue only while it holds fewer than 16 (R78). -/
theorem countSample_samples_le (d : Dirt) (p : Nat) (smp : Sample) (h : d.samples.length ≤ 16) :
    (d.countSample p smp).samples.length ≤ 16 := by
  unfold Dirt.countSample Dirt.copySample
  (repeat' split) <;> simp <;> omega

theorem score_samples_le (d : Dirt) (c : Settings) (run : Nat) (h : d.samples.length ≤ 16) :
    (d.score c run).samples.length ≤ 16 := by
  unfold Dirt.score
  split
  · exact h
  · exact countSample_samples_le _ _ _ h

theorem score_carries (s : State) : Carries s (s.onDirt (·.score s.cfg s.drive.runNumber)) :=
  ⟨rfl, fun laws => ⟨laws.ocv, laws.charge, laws.latch, laws.history, score_samples_le _ _ _ laws.samples⟩⟩

/-! ### The dock and the charge controller -/

theorem onAttach_carries (f : Attach → Attach) (s : State) : Carries s (s.onAttach f) := .of_kept (by simp)

theorem onPins_carries (f : Pins → Pins) (s : State) : Carries s (s.onPins f) := .of_kept (by simp)

theorem dockRise_carries (mv : Nat) (s : State) : Carries s (dockRise mv s) := by
  have settles : ∀ u : State, Carries u (if u.attach.dock = .undocked then dockSettles u else u) := by
    intro u
    split
    · exact .of_kept (by simp)
    · exact .refl u
  unfold dockRise
  dsimp only
  split
  case h_1 => exact (onPins_carries _ s).trans (settles _)
  case h_2 => exact (onPins_carries _ s).trans (settles _)
  case h_3 => exact (onPins_carries _ s).trans (wake_carries _)
  case h_4 => exact (onPins_carries _ s).trans (wake_carries _)
  case h_5 => exact onPins_carries _ s

theorem leaveDock_carries (s : State) : Carries s (leaveDock s) :=
  (((onAttach_carries _ s).trans (raise_carries _ _)).trans (undock_carries _ _)).trans
    (handReasons_settling _).carries

theorem dockFall_carries (mv : Nat) (s : State) : Carries s (dockFall mv s) := by
  unfold dockFall
  dsimp only
  (repeat' split)
  · exact (onPins_carries _ s).trans (onAttach_carries _ _)
  · exact (onPins_carries _ s).trans (leaveDock_carries _)
  all_goals exact onPins_carries _ s

theorem settleDock_carries (s : State) : Carries s (settleDock s) :=
  ((((onAttach_carries _ s).trans (raise_carries _ _)).trans (dockIn_carries _)).trans
    (chargeSettle_settling _).carries).trans (handReasons_settling _).carries

theorem resendAsk_carries (s : State) : Carries s (resendAsk s) := .of_kept (by simp [resendAsk])

theorem unresponsive_carries (s : State) : Carries s (unresponsive s) :=
  (onCharge_carries _ s).trans (handCharge_settling _).carries

theorem regulateAsk_carries (s : State) : Carries s (regulateAsk s) := by
  have stepped : ∀ u, Carries u (stepAsk u) := by
    intro u
    unfold stepAsk
    (repeat' split)
    · exact .refl u
    · exact (changeAsk_settling _ u).carries
    · exact .refl u
  exact ((onCharge_carries _ s).trans (stepped _)).trans (switchJudge_settling _).carries

/-! ### Contacts, the rail and the wake -/

theorem contactsAsleep_carries (h1 h2 : Bool) (s : State) : Carries s (contactsAsleep h1 h2 s) := by
  unfold contactsAsleep
  split
  · exact .refl s
  · exact (onPins_carries _ s).trans (wake_carries _)

theorem headFits_carries (s : State) : Carries s (headFits s) := by
  unfold headFits
  split
  · exact .of_kept (by simp)
  · exact .refl s

theorem contactsFall_carries (s : State) : Carries s (contactsFall s) := by
  unfold contactsFall
  split
  case h_1 => exact (onPins_carries _ s).trans (headFits_carries _)
  case h_2 => exact (onPins_carries _ s).trans (headFits_carries _)
  case h_3 => exact contactsAsleep_carries _ _ s
  all_goals exact onPins_carries _ s

theorem headLets_carries (s : State) : Carries s (headLets s) := by
  unfold headLets
  split
  · exact .refl s
  · exact onAttach_carries _ s
  · exact removal_carries s

theorem contactRises_carries (h1 h2 : Bool) (s : State) : Carries s (contactRises h1 h2 s) := by
  unfold contactRises
  split
  case h_1 => exact (onPins_carries _ s).trans (headLets_carries _)
  case h_2 => exact (onPins_carries _ s).trans (headLets_carries _)
  case h_3 => exact contactsAsleep_carries _ _ s
  all_goals exact onPins_carries _ s

theorem seatHead_carries (s : State) : Carries s (seatHead s) :=
  ((onAttach_carries _ s).trans (raise_carries _ _)).trans (railJudge_settling _).carries

theorem latchShort_carries (s : State) : Carries s (latchShort s) :=
  (pushHistory_carries _ s).trans (onReasons_carries (by simp) _)

theorem latchOverdraw_carries (s : State) : Carries s (latchOverdraw s) := by
  have latched : ∀ u : State, Carries u (if u.hold.reasons.overdraw then u
      else onReasons (fun r => { r with overdraw := true }) (pushHistory .overdraw u)) := by
    intro u
    split
    · exact .refl u
    · exact (pushHistory_carries _ u).trans (onReasons_carries (by simp) _)
  have reported : Carries s
      (raise .overdraw (s.onAttach fun a => { a with excess := false, overdrawTimer := none })) :=
    (onAttach_carries _ s).trans (raise_carries _ _)
  exact reported.trans (latched _)

end Sys2Proof.Proofs
end

section
/-! ## The configuration load, and every step -/

namespace Sys2Proof.Proofs
open Sys2Proof.Machine Sys2Proof.Safety

/-- The state after a power-on, with a time, levels of the pins, a free index and a queue of its own. -/
def resetWith (time : Timebase) (pins : Pins) (free : Nat) (pending : List Instr) : State :=
  { State.reset with time := time, pins := pins, free := free, pending := pending }

/-- Outside AWAKE and DOZE an event tells the line nothing (R130, R131, R133). -/
theorem publish_of_not_running {s0 s : State} (h0 : s0.running = false) (h : s.running = false) :
    publish s0 s = s := by
  have told : Machine.tell s0 s = s := by
    unfold Machine.tell tellHold tellState contentChange putHold
    simp [h]
  simp [publish, State.rewoken, h0, told, beginAttempt, State.mayBegin, h]

/-- During the load an event that moves the pins alone is that and nothing else. -/
theorem finish_resetWith (f : State → State) (time : Timebase) (pins pins' : Pins) (free : Nat) (pending : List Instr)
    (hf : f (resetWith time pins free pending) = resetWith time pins' free pending) :
    finish f (resetWith time pins free pending) = .next (resetWith time pins' free pending) := by
  rw [finish, asEvent, hf, publish_of_not_running rfl rfl]

/-- The same, under the condition of the event. -/
theorem finishIf_resetWith (c : Bool) (f : State → State) (time : Timebase) (pins pins' : Pins) (free : Nat)
    (pending : List Instr) (hf : f (resetWith time pins free pending) = resetWith time pins' free pending) :
    ∃ pins'', finishIf c f (resetWith time pins free pending) = .next (resetWith time pins'' free pending) := by
  cases c
  · exact ⟨pins, rfl⟩
  · exact ⟨pins', finish_resetWith f time pins pins' free pending hf⟩

/-- While the configuration is loaded, a command leaves the power-on state but for the time and the levels of the pins
(R183), or is the end of the load. -/
theorem exec_resetWith (c : Instr) (time : Timebase) (pins : Pins) (free : Nat) (pending : List Instr) :
    (∃ b, c = .configLoadEnd b) ∨
    ∃ time' pins', exec c (resetWith time pins free pending) = .next (resetWith time' pins' free pending) := by
  cases c with
  | configLoadEnd b => exact .inl ⟨b, rfl⟩
  | powerOn => exact .inr ⟨_, _, rfl⟩
  | dockInputRise mv =>
    exact .inr ⟨time, finishIf_resetWith _ (dockRise mv) time pins { pins with dockMv := mv } free pending rfl⟩
  | dockInputFall mv =>
    exact .inr ⟨time, finishIf_resetWith _ (dockFall mv) time pins { pins with dockMv := mv } free pending rfl⟩
  | headContactsLow =>
    exact .inr ⟨time, _, finish_resetWith contactsFall time pins { pins with hd1High := false, hd2High := false } free
      pending rfl⟩
  | headContactHigh h1 h2 =>
    exact .inr ⟨time, finishIf_resetWith _ (contactRises h1 h2) time pins { pins with hd1High := h1, hd2High := h2 }
      free pending rfl⟩
  | _ => exact .inr ⟨time, pins, rfl⟩

theorem lawLoading_resetWith (time : Timebase) (pins : Pins) (free : Nat) (pending : List Instr) :
    lawLoading (resetWith time pins free pending) := fun _ => rfl

/-- A state that is being loaded is a power-on state. -/
theorem eq_resetWith {s : State} (h : lawLoading s) (hl : s.loader.loading = true) :
    s = resetWith s.time s.pins s.free s.pending := h hl

theorem queueLaws_resetWith (time : Timebase) (pins : Pins) (free : Nat) (pending : List Instr) :
    QueueLaws (resetWith time pins free pending) := by
  constructor
  · exact Nat.le_refl 11
  · constructor
    · exact Nat.zero_le _
    · exact (Nat.zero_div _).symm
  · intro h
    cases h
  · exact Nat.zero_le 8
  · exact Nat.zero_le 16

/-- Of the judgements of R182, only the one of the OCV table touches it. -/
theorem judges_ocv (c : Settings) :
    (judgeCells c).ocv = c.ocv ∧ (judgeTemps c).ocv = c.ocv ∧ (judgeVolts c).ocv = c.ocv ∧
    (judgeDirt c).ocv = c.ocv ∧ (judgeWindows c).ocv = c.ocv ∧ (judgeTherm c).ocv = c.ocv ∧
    (raisePowers c).ocv = c.ocv := by
  refine ⟨?_, ?_, ?_, ?_, ?_, ?_, rfl⟩
  · unfold judgeCells; split <;> rfl
  · unfold judgeTemps; split <;> rfl
  · unfold judgeVolts; split <;> rfl
  · unfold judgeDirt; split <;> rfl
  · unfold judgeWindows; split <;> rfl
  · unfold judgeTherm; split <;> rfl

/-- The eleven points of the table of a judged block, or of the default (R182, R192). -/
theorem loadResult_ocv (block : Option (List Byte)) : (loadResult block).1.ocv.length ≤ 11 := by
  have judged : ∀ bs, (judgeBlock bs).ocv.length ≤ 11 := by
    intro bs
    simp only [judgeBlock, judgeGroups, judges_ocv, judgeOcv]
    split
    · simp [judges_ocv, decodeBlock, blockFields]
    · exact Nat.le_refl 11
  unfold loadResult
  (repeat' split)
  · exact judged _
  · exact Nat.le_refl 11
  · exact Nat.le_refl 11

/-- The end of the load keeps the charge count at 0, whatever the capacity is then (R14, R183). -/
theorem queueLaws_loadEnd (block : Option (List Byte)) (time : Timebase) (pins : Pins) (free : Nat)
    (pending : List Instr) : QueueLaws (loadEnd block (resetWith time pins free pending)) := by
  have before := queueLaws_resetWith time pins free pending
  constructor
  · exact loadResult_ocv block
  · constructor
    · exact Nat.zero_le _
    · exact (Nat.zero_div _).symm
  · exact before.latch
  · exact before.history
  · exact before.samples

/-- Every command but POWER_ON and the end of the load carries the laws. -/
theorem exec_carries (c : Instr) (s : State) (hp : c ≠ .powerOn) (hl : ∀ b, c ≠ .configLoadEnd b) :
    AnswersCarry (exec c s) s := by
  cases c with
  | powerOn => contradiction
  | configLoadEnd b => exact absurd rfl (hl b)
  | scanTimerExpiry => exact onTimerQuietly_carries (fun s => .of_kept (by simp [startTimedScan])) _ s
  | cellConversionsEnd => exact answersCarry_next (.of_kept (by simp))
  | scanCompletion r =>
    refine answersCarry_next ?_
    split
    · exact .refl s
    · exact completeScan_carries r s
  | chargeDelivery m => exact onTimer_carries (deliver_carries m) _ s
  | periodStart mv ma low =>
    refine answersCarry_next ?_
    split
    · exact (runTo_carries _ s).trans (onDrive_carries _ _ id)
    · exact .refl s
  | busCurrentTrip ma =>
    refine answersCarry_next ?_
    split
    · exact onDrive_carries _ s id
    · exact .refl s
  | overcurrent => exact finishIf_carries (driveFault_carries _) _ s
  | undervoltageTimerExpiry => exact onTimer_carries (driveFault_carries _) _ s
  | alignTimerExpiry => exact onTimer_carries enterRamp_carries _ s
  | forcedCommutation =>
    unfold exec execForcedCommutation
    dsimp only
    split
    · exact onTimerQuietly_carries nextForced_carries _ s
    · exact answersCarry_next (.refl s)
  | comparatorCapture after p e =>
    exact finishIf_carries (fun s => (runTo_carries _ s).trans (captureEdge_carries p e _)) _ s
  | commutationCompareExpiry => exact onTimerQuietly_carries commutateOnCompare_carries _ s
  | missedCrossingDeadline => exact onTimerQuietly_carries missCrossing_carries _ s
  | desync => exact finishIf_carries takeDesync_carries _ s
  | rampTimerExpiry => exact onTimer_carries failRamp_carries _ s
  | controlExpiry => exact onTimerQuietly_carries controlStep_carries _ s
  | blockedSet => exact onTimer_carries (fun s => (onDrive_carries _ s id).trans (raise_carries _ _)) _ s
  | blockedClear => exact onTimer_carries (fun s => onDrive_carries _ s id) _ s
  | runSecond =>
    refine answersCarry_next ?_
    split
    · exact onDrive_carries _ s (by simp [countSecond_state])
    · exact .refl s
  | coastTimerExpiry => exact onTimer_carries endCoast_carries _ s
  | envelopeSample code =>
    exact onTimerQuietly_carries (takeSample_carries code) _ s
  | scoringCompletion => exact answersCarry_next (score_carries s)
  | windowExpiry => exact onTimer_carries expireWindow_carries _ s
  | dockInputRise mv => exact finishIf_carries (dockRise_carries mv) _ s
  | dockInputFall mv => exact finishIf_carries (dockFall_carries mv) _ s
  | settleTimerExpiry => exact onTimer_carries settleDock_carries _ s
  | resendTimerExpiry => exact onTimer_carries resendAsk_carries _ s
  | echoTimerExpiry => exact onTimer_carries unresponsive_carries _ s
  | regulationExpiry => exact onTimer_carries regulateAsk_carries _ s
  | terminationTimerExpiry =>
    exact onTimer_carries (fun s => (chargeDone_carries s).trans (powerJudge_settling _).carries) _ s
  | prechargeTimerExpiry =>
    exact onTimer_carries (fun s => (chargeFault_scanSettling _ s).carries.trans (powerJudge_settling _).carries) _ s
  | totalTimerExpiry =>
    exact onTimer_carries (fun s => (chargeFault_scanSettling _ s).carries.trans (powerJudge_settling _).carries) _ s
  | noticeReceived chars => exact finishIf_carries (receiveNotice_carries chars) _ s
  | hold => exact handled_carries actEntry_carries _ s
  | request => exact handled_carries actRequest_carries _ s
  | supply => exact handled_carries actSupply_carries _ s
  | draw => exact handled_carries actEntry_carries _ s
  | headDirt => exact handled_carries actEntry_carries _ s
  | otherClassNotice => exact handled_carries actEntry_carries _ s
  | ident => exact handled_carries (actAnswer_carries _) _ s
  | runs => exact handled_carries (actAnswer_carries _) _ s
  | modeTime => exact handled_carries (actAnswer_carries _) _ s
  | chargeCounts => exact handled_carries (actAnswer_carries _) _ s
  | cellsA => exact handled_carries (actAnswer_carries _) _ s
  | cellsB => exact handled_carries (actAnswer_carries _) _ s
  | fault => exact handled_carries (actAnswer_carries _) _ s
  | sample => exact handled_carries actSample_carries _ s
  | holds => exact handled_carries (actAnswer_carries _) _ s
  | table => exact handled_carries (actAnswer_carries _) _ s
  | masterOn => exact handledBy_carries (actAction_carries (onReasons_carries (by simp))) _ s
  | masterOff => exact handledBy_carries (actAction_carries (onReasons_carries (by simp))) _ s
  | clearHistory => exact handledBy_carries (actAction_carries clearHistory_carries) _ s
  | ship => exact handled_carries actShip_carries _ s
  | unknownItem => exact handled_carries (actAnswer_carries _) _ s
  | lineIdle => exact finishIf_carries (fun s => (runTo_carries _ s).trans (becomeIdle_carries _)) _ s
  | headerLoss => exact finishIf_carries loseHeader_carries _ s
  | bitError =>
    unfold exec execBitError
    dsimp only
    split
    · exact finish_carries (endErrored_carries _) s
    · exact answersCarry_next (.refl s)
  | attemptCompletion =>
    unfold exec execAttemptCompletion
    dsimp only
    split
    · exact finish_carries (fun s => (runTo_carries _ s).trans (completeAttempt_carries _ _)) s
    · exact answersCarry_next (.refl s)
  | shipOrderTimeout => exact onTimer_carries giveShipOrder_carries _ s
  | breakInProgress =>
    unfold exec execBreakInProgress
    dsimp only
    split
    · exact onTimerQuietly_carries (onLine_carries _) _ s
    · exact answersCarry_next (.refl s)
  | breakTaken => exact finishIf_carries (fun s => (runTo_carries _ s).trans (takeBreak_carries _)) _ s
  | ownBreakRelease => exact onTimer_carries releaseBreak_carries _ s
  | lineStuck =>
    unfold exec execLineStuck
    dsimp only
    split
    · exact onTimer_carries stickLine_carries _ s
    · exact answersCarry_next (.refl s)
  | stuckRecovery => exact finishIf_carries (fun s => (runTo_carries _ s).trans (recoverLine_carries _)) _ s
  | conflictTimerExpiry =>
    exact onTimer_carries (fun s => (onLine_carries _ s).trans (handReasons_settling _).carries) _ s
  | stateCadenceExpiry => exact onTimer_carries (fun s => .of_kept (by simp)) _ s
  | holdoffExpiry => exact onTimer_carries (fun s => .of_kept (by simp)) _ s
  | holdCadenceExpiry => exact onTimer_carries (fun s => .of_kept (by simp)) _ s
  | recordStale st =>
    exact onTimer_carries (f := fun s => setTable (s.table.update st fun r => { r with stale := true }) s)
      (fun s => setTable_carries _ s) _ s
  | recordAgeRemoval st =>
    exact onTimer_carries (f := fun s => setTable (s.table.remove st) (raise .stationLost s))
      (fun s => (raise_carries _ s).trans (setTable_carries _ _)) _ s
  | headContactsLow => exact finish_carries contactsFall_carries s
  | headContactHigh h1 h2 => exact finishIf_carries (contactRises_carries h1 h2) _ s
  | seatTimerExpiry => exact onTimer_carries seatHead_carries _ s
  | railOnTimerExpiry => exact onTimerQuietly_carries (f := railOn) (fun s => onAttach_carries _ s) _ s
  | headRailShort ma => exact finishIf_carries latchShort_carries _ s
  | overdrawTimerExpiry => exact onTimer_carries latchOverdraw_carries _ s
  | dozeTimerExpiry => exact onTimer_carries enterSleep_carries _ s
  | shipTimerExpiry =>
    unfold exec execShipTimerExpiry
    dsimp only
    split
    · exact finish_carries (fun s => (runToSecond_carries _ s).trans (enterShip_carries _)) s
    · exact answersCarry_next (.refl s)
  | trigEdge e => exact finishIf_carries wake_carries _ s
  | sleepBreak =>
    unfold exec execSleepBreak
    dsimp only
    split
    · exact finish_carries (fun s => (runToSteady_carries _ s).trans (wake_carries _)) s
    · exact answersCarry_next (.refl s)
  | lineFallingEdge low => exact answersCarry_next (fallingEdge_carries low s)
  | framingError =>
    refine answersCarry_next ?_
    split
    · exact onLine_carries _ s
    · exact .refl s
  | lengthTooGreat len =>
    refine answersCarry_next ?_
    split
    · exact onLine_carries _ s
    · exact .refl s

/-- A command keeps the laws together with the loading state. -/
theorem exec_keeps_queueLaws (c : Instr) (s t : State) (hl : lawLoading s) (h : QueueLaws s)
    (ht : exec c s = .next t) : lawLoading t ∧ QueueLaws t := by
  cases hload : s.loader.loading
  case true =>
    rw [eq_resetWith hl hload] at ht
    obtain ⟨b, rfl⟩ | ⟨time, pins, hx⟩ := exec_resetWith c s.time s.pins s.free s.pending
    · cases ht
      exact ⟨fun hf => absurd hf (by simp [loadEnd, resetWith, State.reset]), queueLaws_loadEnd b _ _ _ _⟩
    · cases hx.symm.trans ht
      exact ⟨lawLoading_resetWith _ _ _ _, queueLaws_resetWith _ _ _ _⟩
  case false =>
    by_cases hp : c = .powerOn
    · subst hp
      cases ht
      exact ⟨lawLoading_resetWith _ _ _ _, queueLaws_resetWith _ _ _ _⟩
    by_cases hb : ∃ b, c = .configLoadEnd b
    · obtain ⟨b, rfl⟩ := hb
      simp only [exec, execConfigLoadEnd, hload] at ht
      cases ht
      exact ⟨hl, h⟩
    · have carried := exec_carries c s hp (fun b hc => hb ⟨b, hc⟩) t ht
      exact ⟨fun hf => by simp [carried.loader, hload] at hf, carried.laws h⟩

theorem idle_carries (s : State) : Carries s (idle s) := by
  unfold idle
  split
  · exact .of_kept (by simp)
  · exact elapse_carries 1 s

/-- The idle step moves the time or the queue alone. -/
theorem lawLoading_idle {s : State} (h : lawLoading s) : lawLoading (idle s) := by
  intro hl
  have load : s.loader.loading = true := by simpa [(idle_carries s).loader] using hl
  have start := eq_resetWith h load
  unfold idle at hl ⊢
  split
  · rw [start]; rfl
  · rw [start]; rfl

/-- Settles O14: every operation carries the laws (`Carries`), and during the load the state is the power-on state. -/
theorem chargeLatchAndQueueLaws : Obligations.ChargeLatchAndQueueLaws := by
  rintro s t ⟨loading, ocv, charge, latch, history, samples⟩ stepped
  have laws : QueueLaws s := ⟨ocv, charge, latch, history, samples⟩
  have kept : lawLoading t ∧ QueueLaws t := by
    unfold step at stepped
    split at stepped
    case h_1 c rest _ =>
      refine exec_keeps_queueLaws c { s with pending := rest } t (fun hl => ?_) ?_ stepped
      · exact congrArg (fun u : State => { u with pending := rest }) (loading hl)
      · exact (Carries.of_kept (by simp)).laws laws
    case h_2 =>
      cases stepped
      exact ⟨lawLoading_idle loading, (idle_carries s).laws laws⟩
  exact ⟨kept.1, kept.2.ocv, kept.2.charge, kept.2.latch, kept.2.history, kept.2.samples⟩

end Sys2Proof.Proofs
end

section
/-! ## The two tables of the pack monitor, segment by segment (R11, R16) -/

namespace Sys2Proof.Proofs
open Sys2Proof.Machine Sys2Proof.Safety

theorem ascending_iff (l : List Nat) : ascending l = true ↔ l.Pairwise (· < ·) := by
  rw [← List.isChain_iff_pairwise]
  induction l with
  | nil => simp [ascending]
  | cons a l ih =>
    cases l with
    | nil => simp [ascending]
    | cons b l => simp [ascending, ih]

theorem descending_iff (l : List Nat) : descending l = true ↔ l.Pairwise (· > ·) := by
  rw [← List.isChain_iff_pairwise]
  induction l with
  | nil => simp [descending]
  | cons a l ih =>
    cases l with
    | nil => simp [descending]
    | cons b l => simp [descending, ih]

/-- The head of an ascending table is its least point. -/
theorem head_le_getD {lo : Nat} {rest : List Nat} (h : (lo :: rest).Pairwise (· < ·)) {k : Nat}
    (hk : k < (lo :: rest).length) : lo ≤ (lo :: rest).getD k 0 := by
  rw [List.getD_eq_getElem _ _ hk]
  cases k with
  | zero => exact le_refl _
  | succ k => exact le_of_lt (List.rel_of_pairwise_cons h (List.getElem_mem _))

/-- The head of a descending table is its greatest point. -/
theorem getD_le_head {hi : Nat} {rest : List Nat} (h : (hi :: rest).Pairwise (· > ·)) {k : Nat}
    (hk : k < (hi :: rest).length) : (hi :: rest).getD k 0 ≤ hi := by
  rw [List.getD_eq_getElem _ _ hk]
  cases k with
  | zero => exact le_refl _
  | succ k => exact le_of_lt (List.rel_of_pairwise_cons h (List.getElem_mem _))

/-- Between two points of the open-circuit table the per cent is interpolated (R16). -/
theorem ocvPercent_between (mean k : Nat) : ∀ (table : List Nat) (base : Nat), table.Pairwise (· < ·) →
    k + 1 < table.length → table.getD k 0 ≤ mean → mean < table.getD (k + 1) 0 →
    ocvPercent mean base table =
      base + 10 * k + 10 * (mean - table.getD k 0) / (table.getD (k + 1) 0 - table.getD k 0) := by
  induction k with
  | zero =>
    rintro (_ | ⟨lo, _ | ⟨hi, rest⟩⟩) base sorted inside above below
    · simp at inside
    · simp at inside
    · simp only [List.getD_cons_zero, List.getD_cons_succ] at above below
      simp [ocvPercent, below, not_lt.mpr above]
  | succ k ih =>
    rintro (_ | ⟨lo, _ | ⟨hi, rest⟩⟩) base sorted inside above below
    · simp at inside
    · simp at inside
    · rw [List.getD_cons_succ] at above below
      have tail := (List.pairwise_cons.mp sorted).2
      have inner : k + 1 < (hi :: rest).length := by simpa using inside
      have past : hi ≤ mean := (head_le_getD tail (by omega)).trans above
      have first : lo < hi := List.rel_of_pairwise_cons sorted (by simp)
      rw [ocvPercent, if_neg (by omega), if_neg (by omega), ih _ _ tail inner above below]
      simp only [List.getD_cons_succ]
      ring_nf

/-- At and above the last point of the open-circuit table the per cent is the table's last (R16). -/
theorem ocvPercent_above (mean : Nat) : ∀ (table : List Nat) (base : Nat), table.Pairwise (· < ·) →
    table.getD (table.length - 1) 0 ≤ mean → ocvPercent mean base table = base + 10 * (table.length - 1) := by
  intro table
  induction table with
  | nil => intro base _ _; simp [ocvPercent]
  | cons lo rest ih =>
    intro base sorted above
    cases rest with
    | nil => simp [ocvPercent]
    | cons hi rest =>
      have tail := (List.pairwise_cons.mp sorted).2
      have first : lo < hi := List.rel_of_pairwise_cons sorted (by simp)
      have last : (hi :: rest).getD ((hi :: rest).length - 1) 0 ≤ mean := by simpa using above
      have past : hi ≤ mean := (head_le_getD tail (by simp)).trans last
      rw [ocvPercent, if_neg (by omega), if_neg (by omega), ih _ tail last]
      simp only [List.length_cons]
      omega

/-- Below the first point of the open-circuit table the per cent is the first (R16). -/
theorem ocvPercent_below (mean base : Nat) {table : List Nat} (h : 1 < table.length) (below : mean < table.getD 0 0) :
    ocvPercent mean base table = base := by
  obtain _ | ⟨lo, _ | ⟨hi, rest⟩⟩ := table
  · simp at h
  · simp at h
  · simpa [ocvPercent] using fun hle => absurd below (by simpa using hle)

/-- The temperature of a code on the segment that holds it; the first and the last serve the codes beyond (R11). -/
theorem interpolate_on (code k : Nat) : ∀ (table : List Nat) (base : Int), table.Pairwise (· > ·) →
    k + 1 < table.length → (k = 0 ∨ code ≤ table.getD k 0) → (k + 2 = table.length ∨ table.getD (k + 1) 0 < code) →
    interpolate code base table = base + 15 * (k : Int) +
      (15 * ((table.getD k 0 : Int) - code)).tdiv ((table.getD k 0 : Int) - table.getD (k + 1) 0) := by
  induction k with
  | zero =>
    rintro (_ | ⟨hi, _ | ⟨lo, rest⟩⟩) base sorted inside above below
    · simp at inside
    · simp at inside
    · have here : (rest.isEmpty || decide (lo < code)) = true := by
        rw [Bool.or_eq_true, List.isEmpty_iff, decide_eq_true_iff]
        exact below.imp (fun h => by simpa using h.symm) id
      simp [interpolate, here, onSegment, alongSegment]
  | succ k ih =>
    rintro (_ | ⟨hi, _ | ⟨lo, rest⟩⟩) base sorted inside above below
    · simp at inside
    · simp at inside
    · have tail := (List.pairwise_cons.mp sorted).2
      have inner : k + 1 < (lo :: rest).length := by simpa using inside
      have reached : code ≤ (lo :: rest).getD k 0 := by simpa using above
      have further : (rest.isEmpty || decide (lo < code)) = false := by
        have := reached.trans (getD_le_head tail (by omega))
        cases rest with
        | nil => simp at inner
        | cons => simpa using this
      rw [interpolate, further, if_neg Bool.false_ne_true,
        ih _ _ tail inner (.inr reached) (below.imp (by simp) (by simp))]
      simp only [List.getD_cons_succ]
      push_cast
      ring_nf

end Sys2Proof.Proofs
end

section
/-! ## What an accepted scan writes in the pack monitor -/

namespace Sys2Proof.Proofs
open Sys2Proof.Machine Sys2Proof.Safety

/-! ### Stage by stage -/

/-- The start value of Q (R16): taken, and SoC with it, only while the mark stands; the mark is clear afterwards. -/
theorem startValue_pack (s : State) : (startValue s).pack =
    (let q := ocvPercent (s.pack.vPack / s.cfg.cells) 0 s.cfg.ocv * s.qFull / 100
    { s.pack with
      q := if s.pack.ocvPending = true then q else s.pack.q
      soc := if s.pack.ocvPending = true then q * 100 / s.qFull else s.pack.soc
      ocvPending := false }) := by
  unfold startValue
  split
  case isTrue => simp [setQ, State.qFull, State.cfg]
  case isFalse h =>
    rw [Bool.not_eq_true] at h
    rw [← h]

/-- The empty-rest count (R18): the third scan in a row of an EMPTY pack at rest sets Q to 0. -/
theorem emptyRest_pack (s : State) : (emptyRest s).pack =
    (let rest := s.pack.packState = .empty ∧ s.pack.iPack.natAbs < 200
    let third := rest ∧ 2 ≤ s.pack.emptyRest
    { s.pack with
      q := if third then 0 else s.pack.q
      soc := if third then 0 else s.pack.soc
      emptyRest := if rest ∧ s.pack.emptyRest < 2 then s.pack.emptyRest + 1 else 0 }) := by
  unfold emptyRest
  by_cases rest : s.pack.packState = .empty ∧ s.pack.iPack.natAbs < 200
  · by_cases count : 2 ≤ s.pack.emptyRest
    · have : ¬ s.pack.emptyRest + 1 < 3 := by omega
      simp [rest, count, this, setQ, Nat.not_lt.mpr count]
    · have : s.pack.emptyRest + 1 < 3 := by omega
      simp [rest, count, this, Nat.lt_of_not_le count]
  · simp [rest]

/-- Balancing writes the bleed marks and nothing else (R19). -/
theorem balance_pack (s : State) : (balance s).pack = { s.pack with cells := (balance s).pack.cells } := by
  unfold balance
  (repeat' split) <;> rfl

theorem balance_unbled (s : State) : (balance s).pack.cells.map unbled = s.pack.cells.map unbled := by
  unfold balance
  split
  · exact map_unbled_twice _
  split
  · have marks : ∀ f : Cell → Bool, (unbled ∘ fun c => { c with bleed := f c }) = unbled := fun _ => rfl
    rw [onPack_pack, List.map_append, List.map_map, marks, ← List.map_append, List.take_append_drop]
  · rfl

/-- The state that an accepted scan balances: the readings taken, SENSOR, Q and the empty-rest count formed. -/
def scanRead (r : ScanReading) (s : State) : State :=
  emptyRest (startValue (sensorJudge
    (raiseSome (packFlag s.pack.packState (takeReadings s.cfg r s.pack).packState) (s.onPack (takeReadings s.cfg r)))))

theorem acceptScan_eq (r : ScanReading) (s : State) : acceptScan r s = balance (scanRead r s) := rfl

/-- The records before the balancing: those of `takeReadings`, with SENSOR, the charge count and the empty-rest count
(R3). -/
theorem scanRead_pack (r : ScanReading) (s : State) : (scanRead r s).pack =
    (let p := takeReadings s.cfg r s.pack
    let start := if s.pack.ocvPending = true
      then ocvPercent (p.vPack / s.cfg.cells) 0 s.cfg.ocv * s.qFull / 100 else s.pack.q
    let rest := p.packState = .empty ∧ p.iPack.natAbs < 200
    let third := rest ∧ 2 ≤ s.pack.emptyRest
    { p with
      sensor := (p.cells.take s.cfg.cells).any (·.cls = .openTap) || p.t1.faulty || p.t2.faulty
      q := if third then 0 else start
      soc := if third then 0 else if s.pack.ocvPending = true then start * 100 / s.qFull else s.pack.soc
      ocvPending := false
      emptyRest := if rest ∧ s.pack.emptyRest < 2 then s.pack.emptyRest + 1 else 0 }) := by
  generalize hu : sensorJudge (raiseSome (packFlag s.pack.packState (takeReadings s.cfg r s.pack).packState)
    (s.onPack (takeReadings s.cfg r))) = u
  have cfg : u.cfg = s.cfg := by simp [← hu, State.cfg]
  have read : u.pack = { takeReadings s.cfg r s.pack with
      sensor := ((takeReadings s.cfg r s.pack).cells.take s.cfg.cells).any (·.cls = .openTap) ||
        (takeReadings s.cfg r s.pack).t1.faulty || (takeReadings s.cfg r s.pack).t2.faulty } := by
    simp [← hu, sensorJudge, State.cfg, takeReadings]
  simp only [scanRead, hu, emptyRest_pack, startValue_pack, read, State.qFull, cfg]
  rcases h : s.pack.ocvPending with _ | _ <;> simp [takeReadings, h]

end Sys2Proof.Proofs
end

section
/-! ## An accepted scan -/

namespace Sys2Proof.Proofs
open Sys2Proof.Machine Sys2Proof.Safety

/-- Cells 1 to N with their readings of a scan taken (R7 to R9). -/
def scannedCells (r : ScanReading) (s : State) : List Cell :=
  s.activeCells.mapIdx fun k c => scanCell s.cfg s.pack.direct (ScanReading.meanMa r) (r.cells.getD k 0) c

theorem take_scanCells (c : Settings) (direct : Bool) (i : Int) (readings : List Int) (cells : List Cell) :
    (scanCells c direct i readings cells).take c.cells =
      (cells.take c.cells).mapIdx fun k cell => scanCell c direct i (readings.getD k 0) cell := by
  unfold scanCells
  rcases Nat.le_total c.cells cells.length with h | h
  · rw [List.take_append_of_le_length (by simp [h]), List.take_of_length_le (by simp [h])]
  · simp [List.drop_eq_nil_of_le h, List.take_of_length_le, h]

/-- The pack monitor after an accepted scan, but for the cells (R3, R6, R10 to R13, R16, R18). -/
theorem completeScan_pack (r : ScanReading) (s : State) (h : ScanReading.accepted r = true) :
    (completeScan r s).pack =
      (let p := takeReadings s.cfg r s.pack
      let start := if s.pack.ocvPending = true
        then ocvPercent (p.vPack / s.cfg.cells) 0 s.cfg.ocv * s.qFull / 100 else s.pack.q
      let rest := p.packState = .empty ∧ p.iPack.natAbs < 200
      let third := rest ∧ 2 ≤ s.pack.emptyRest
      { p with
        cells := (completeScan r s).pack.cells
        sensor := (p.cells.take s.cfg.cells).any (·.cls = .openTap) || p.t1.faulty || p.t2.faulty
        q := if third then 0 else start
        soc := if third then 0 else if s.pack.ocvPending = true then start * 100 / s.qFull else s.pack.soc
        ocvPending := false
        emptyRest := if rest ∧ s.pack.emptyRest < 2 then s.pack.emptyRest + 1 else 0
        scan := .none
        startScan := false
        scanSwitchClosed := false
        scanTimer := (completeScan r s).pack.scanTimer }) := by
  have settled := completeScan_accepted r s h
  have taken : (scanTaken r s).pack =
      { (scanRead r (clearScan s)).pack with cells := (scanTaken r s).pack.cells } := by
    simp only [scanTaken, packReasons_frame, acceptScan_eq]
    exact balance_pack _
  have closed : (completeScan r s).pack.scanSwitchClosed = false := by
    have before : (scanTaken r s).pack.scanSwitchClosed = false := by
      rw [taken, scanRead_pack]; rfl
    rcases settled.throughout with e | e
    · rw [e, before]
    · exact e
  have pack := settled.pack
  rw [closed, taken, scanRead_pack] at pack
  exact pack

/-- The cells after an accepted scan, bleeds apart: those of `takeReadings` (R3). -/
theorem completeScan_unbled (r : ScanReading) (s : State) (h : ScanReading.accepted r = true) :
    (completeScan r s).pack.cells.map unbled =
      (scanCells s.cfg s.pack.direct (ScanReading.meanMa r) r.cells s.pack.cells).map unbled := by
  have read : (scanRead r (clearScan s)).pack.cells =
      scanCells s.cfg s.pack.direct (ScanReading.meanMa r) r.cells s.pack.cells := by
    rw [scanRead_pack]; rfl
  rw [(completeScan_accepted r s h).map_cells unbled fun _ => rfl, ← read, ← balance_unbled (scanRead r _),
    ← acceptScan_eq]
  simp [scanTaken]

theorem completeScan_cfg (r : ScanReading) (s : State) (h : ScanReading.accepted r = true) :
    (completeScan r s).cfg = s.cfg := by
  rw [(completeScan_accepted r s h).cfg]
  simp [scanTaken, State.cfg, clearScan]

theorem completeScan_active (r : ScanReading) (s : State) (h : ScanReading.accepted r = true) :
    (completeScan r s).activeCells.map unbled = (scannedCells r s).map unbled := by
  rw [State.activeCells, completeScan_cfg r s h, List.map_take, completeScan_unbled r s h, ← List.map_take,
    take_scanCells]
  rfl

/-- What of the cells does not depend on the bleeds is read from the scanned cells. -/
theorem completeScan_map {α : Type} (r : ScanReading) (s : State) (h : ScanReading.accepted r = true) (f : Cell → α)
    (hf : ∀ c, f (unbled c) = f c) : (completeScan r s).activeCells.map f = (scannedCells r s).map f := by
  simpa [Function.comp_def, hf] using congrArg (List.map f) (completeScan_active r s h)

/-- Each cell of 1 to N after an accepted scan is the one before it with a reading taken, its bleed apart. -/
theorem completeScan_zip (r : ScanReading) (s : State) (h : ScanReading.accepted r = true) :
    ∀ p ∈ s.activeCells.zip (completeScan r s).activeCells,
      ∃ q, unbled p.2 = unbled (scanCell s.cfg s.pack.direct (ScanReading.meanMa r) q p.1) := by
  intro p hp
  obtain ⟨k, hk, rfl⟩ := List.mem_iff_getElem.mp hp
  simp only [List.length_zip, lt_inf_iff] at hk
  refine ⟨r.cells.getD k 0, ?_⟩
  have same := congrArg (·[k]?) (completeScan_active r s h)
  simpa [scannedCells, hk.1, hk.2] using same

/-- The readings of cells 1 to N (R1, R7). -/
theorem scannedCells_map {α : Type} (r : ScanReading) (s : State) (f : Int → α) (g : Cell → α)
    (hg : ∀ q c, g (scanCell s.cfg s.pack.direct (ScanReading.meanMa r) q c) = f q)
    (hs : s.pack.cells.length = 7) (hr : r.cells.length = 7) :
    (scannedCells r s).map g = (r.cells.take s.cfg.cells).map f := by
  apply List.ext_getElem
  · simp [scannedCells, State.activeCells, hs, hr]
  · intro k hk hk'
    have inside : k < r.cells.length := by simp at hk'; omega
    simp [scannedCells, hg, inside]

/-! ### The filter, the thermistors and the pack state -/

/-- The model's filter is the one of R9 and R12. -/
theorem filterStep_filteredBy {α : Type} [DecidableEq α] (direct : Bool) (ind : α) (f : Filtered α) :
    FilteredBy direct ind (f.present, f.cand, f.count)
      ((filterStep direct ind f).present, (filterStep direct ind f).cand, (filterStep direct ind f).count) := by
  have third : f.count + 1 < 3 ↔ f.count < 2 := by omega
  unfold FilteredBy filterStep
  by_cases hd : direct = true
  · simp [hd]
  by_cases hp : ind = f.present
  · simp [hd, hp]
  by_cases hc : f.cand = some ind
  · by_cases hn : f.count < 2 <;> simp [hd, hp, hc, hn, third]
  · simp [hd, hp, hc]

/-- A thermistor's standing is filtered from its code, and then a good one with a code in range takes its temperature
(R11, R12). -/
theorem scanTherm_filteredBy (table : List Nat) (direct : Bool) (code : Nat) (t : Thermistor) :
    let u := scanTherm table direct code t
    let bad := decide (code < 50) || decide (4000 < code)
    u.code = code ∧ FilteredBy direct bad (t.faulty, t.cand, t.candCount) (u.faulty, u.cand, u.candCount) ∧
    u.temp = if u.faulty = true ∨ bad = true then t.temp else thermTemp table code := by
  refine ⟨rfl, filterStep_filteredBy direct (codeFaulty code) ⟨t.faulty, t.cand, t.candCount⟩, ?_⟩
  simp only [scanTherm, codeFaulty, Bool.or_eq_true]

/-- A cell's class is filtered from the bands of its voltages (R8, R9). -/
theorem scanCell_filteredBy (c : Settings) (direct : Bool) (i q : Int) (cell : Cell) :
    let u := scanCell c direct i q cell
    FilteredBy direct (indicated c cell.cls u.vMeas u.vc) (cell.cls, cell.cand, cell.candCount)
      (u.cls, u.cand, u.candCount) :=
  filterStep_filteredBy direct _ ⟨cell.cls, cell.cand, cell.candCount⟩

/-- The worse of a class and the worst of some cells, in the order OPEN, HIGH, EMPTY, LOW, GOOD (R10). -/
theorem foldl_worse (cells : List Cell) : ∀ a : CellClass, (cells.map (·.cls)).foldl worse a =
    if a = .openTap ∨ cells.any (fun c => c.cls = .openTap) = true then .openTap
    else if a = .high ∨ cells.any (fun c => c.cls = .high) = true then .high
    else if a = .empty ∨ cells.any (fun c => c.cls = .empty) = true then .empty
    else if a = .low ∨ cells.any (fun c => c.cls = .low) = true then .low else .good := by
  induction cells with
  | nil => intro a; cases a <;> simp
  | cons c cells ih =>
    intro a
    rw [List.map_cons, List.foldl_cons, ih]
    cases a <;> cases h : c.cls <;> simp [worse, CellClass.badness, h]

theorem packTemp_eq (t1 t2 : Thermistor) (held : Int) : packTemp t1 t2 held =
    if t1.faulty = true ∧ t2.faulty = true then held else if t1.faulty = true then t2.temp
    else if t2.faulty = true then t1.temp else max t1.temp t2.temp := by
  unfold packTemp
  cases t1.faulty <;> cases t2.faulty <;> simp

theorem worstClass_eq (cells : List Cell) : worstClass cells =
    if cells.any (fun c => c.cls = .openTap) = true then .openTap
    else if cells.any (fun c => c.cls = .high) = true then .high
    else if cells.any (fun c => c.cls = .empty) = true then .empty
    else if cells.any (fun c => c.cls = .low) = true then .low else .good := by
  simpa [worstClass] using foldl_worse cells .good

/-- Some scanned cell is of a class exactly where some cell after the scan is. -/
theorem completeScan_any (r : ScanReading) (s : State) (h : ScanReading.accepted r = true) (k : CellClass) :
    (completeScan r s).activeCells.any (fun c => decide (c.cls = k)) =
      (scannedCells r s).any fun c => decide (c.cls = k) := by
  simpa [Function.comp_def] using
    congrArg (List.any · id) (completeScan_map r s h (fun c => decide (c.cls = k)) fun _ => rfl)

/-! ### The bleeds (R19, R20) -/

theorem scanRead_active (r : ScanReading) (s : State) :
    (scanRead r (clearScan s)).activeCells = scannedCells r s := by
  have cfg : (scanRead r (clearScan s)).cfg = s.cfg := by simp [scanRead, State.cfg, clearScan]
  rw [State.activeCells, cfg, scanRead_pack]
  exact take_scanCells _ _ _ _ _

theorem scanRead_charge (r : ScanReading) (s : State) : (scanRead r (clearScan s)).charge = s.charge := by
  simp [scanRead, clearScan]

/-- The lowest reading after a scan is the one that its balancing compares with (R19). -/
theorem completeScan_lowest (r : ScanReading) (s : State) (h : ScanReading.accepted r = true) :
    (completeScan r s).lowestCell = (scanRead r (clearScan s)).lowestCell := by
  rw [State.lowestCell, State.lowestCell, completeScan_map r s h _ fun _ => rfl, scanRead_active]

/-- The conditions of R20 at a scan, read after it. -/
theorem completeScan_barred (r : ScanReading) (s : State) (h : ScanReading.accepted r = true) :
    (scanRead r (clearScan s)).bleedsBarred = true ↔
      50 < (completeScan r s).pack.tPack ∨
        (completeScan r s).activeCells.any (fun c => c.cls = .openTap) = true := by
  have temp : (completeScan r s).pack.tPack = (scanRead r (clearScan s)).pack.tPack := by
    rw [completeScan_pack r s h, scanRead_pack]; rfl
  rw [State.bleedsBarred, scanRead_active, completeScan_any r s h, temp, Bool.or_eq_true, decide_eq_true_iff]

/-- Open bleeds stay open through a settling. -/
theorem ScanSettling.all_open {s t : State} (h : ScanSettling s t) (ho : s.pack.cells.all (!·.bleed) = true) :
    t.pack.cells.all (!·.bleed) = true := by
  rcases h.cells with hc | hc
  · rwa [hc]
  · simp [hc, unbled]

/-- A barred balancing opens every bleed (R20). -/
theorem balance_open {s : State} (h : s.bleedsBarred = true) : (balance s).pack.cells.all (!·.bleed) = true := by
  simp [balance, h, openBleeds]

/-- A scan moves no bleed of itself. -/
theorem scanCells_open {c : Settings} {direct : Bool} {i : Int} {readings : List Int} {cells : List Cell}
    (h : cells.all (!·.bleed) = true) : (scanCells c direct i readings cells).all (!·.bleed) = true := by
  simp only [List.all_eq_true, scanCells, List.mem_append] at h ⊢
  rintro x (hx | hx)
  · obtain ⟨k, hk, rfl⟩ := List.mem_mapIdx.mp hx
    have before := h _ (List.mem_of_mem_take (List.getElem_mem hk))
    exact before
  · exact h x (List.mem_of_mem_drop hx)

theorem scanTaken_lawBleeds (r : ScanReading) (s : State) (h : lawBleeds s) : lawBleeds (scanTaken r s) := by
  have read : lawBleeds (scanRead r (clearScan s)) := by
    intro ht hd
    rw [scanRead_charge] at ht hd
    rw [scanRead_pack]
    exact scanCells_open (h ht hd)
  intro ht hd
  have charge : (scanTaken r s).charge = s.charge := by simp [scanTaken, clearScan]
  rw [charge] at ht hd
  have pack : (scanTaken r s).pack = (balance (scanRead r (clearScan s))).pack := by
    simp [scanTaken, acceptScan_eq]
  rw [pack]
  by_cases barred : (scanRead r (clearScan s)).bleedsBarred = true
  · exact balance_open barred
  · rw [balance, if_neg barred, scanRead_charge, if_neg (by simp [ht, hd])]
    exact read (by rwa [scanRead_charge]) (by rwa [scanRead_charge])

/-- A scan that begins and ends in TOPOFF or DONE decides each bleed against the lowest cell (R19). -/
theorem completeScan_decided (r : ScanReading) (s : State) (h : ScanReading.accepted r = true)
    (hb : ¬ (scanRead r (clearScan s)).bleedsBarred = true) (hs : bleedPhase s.charge.phase)
    (ht : bleedPhase (completeScan r s).charge.phase) :
    (completeScan r s).activeCells = (scannedCells r s).map fun c =>
      { c with bleed := bleedFor (completeScan r s).lowestCell c } := by
  have cfg : (scanRead r (clearScan s)).cfg = s.cfg := by simp [scanRead, State.cfg, clearScan]
  have held : (scanRead r (clearScan s)).charge.phase = .topoff ∨ (scanRead r (clearScan s)).charge.phase = .done := by
    rwa [scanRead_charge]
  rw [State.activeCells, completeScan_cfg r s h, completeScan_bleeds r s h hs ht, acceptScan_eq, balance, if_neg hb,
    if_pos held, completeScan_lowest r s h, ← scanRead_active, onPack_pack, cfg]
  simp only [State.activeCells, cfg]
  rcases Nat.le_total s.cfg.cells (scanRead r (clearScan s)).pack.cells.length with hl | hl
  · rw [List.take_append_of_le_length (by simp [hl]), List.take_of_length_le (by simp [hl])]
  · simp [List.drop_eq_nil_of_le hl, List.take_of_length_le, hl]

theorem completeScan_zip_decided (r : ScanReading) (s : State) (h : ScanReading.accepted r = true)
    (hb : ¬ (scanRead r (clearScan s)).bleedsBarred = true) (hs : bleedPhase s.charge.phase)
    (ht : bleedPhase (completeScan r s).charge.phase) :
    ∀ p ∈ s.activeCells.zip (completeScan r s).activeCells, p.2.bleed =
      if (completeScan r s).lowestCell + 30 ≤ p.2.vMeas ∧ 3900 ≤ p.2.vMeas then true
      else if p.2.vMeas ≤ (completeScan r s).lowestCell + 10 then false else p.1.bleed := by
  intro p hp
  obtain ⟨k, hk, rfl⟩ := List.mem_iff_getElem.mp hp
  simp only [List.length_zip, lt_inf_iff] at hk
  simp only [List.getElem_zip]
  have decided : (completeScan r s).activeCells[k]? = _ :=
    congrArg (·[k]?) (completeScan_decided r s h hb hs ht)
  simp only [List.getElem?_map, scannedCells, List.getElem?_mapIdx, List.getElem?_eq_getElem hk.1,
    List.getElem?_eq_getElem hk.2, Option.map_some, Option.some.injEq] at decided
  rw [decided]
  rfl

/-! ### The statement, conjunct by conjunct -/

/-- Cells above N keep their records, bleeds apart (R1). -/
theorem completeScan_above (r : ScanReading) (s : State) (h : ScanReading.accepted r = true)
    (hn : s.cfg.cells ≤ s.pack.cells.length) :
    ((completeScan r s).pack.cells.drop s.cfg.cells).map unbled = (s.pack.cells.drop s.cfg.cells).map unbled := by
  rw [List.map_drop, completeScan_unbled r s h, ← List.map_drop, scanCells,
    List.drop_append_of_le_length (by simp [hn]), List.drop_of_length_le (by simp), List.nil_append]

theorem completeScan_reasons (r : ScanReading) (s : State) (h : ScanReading.accepted r = true) :
    let t := completeScan r s
    t.hold.reasons.packHot = (decide (s.cfg.tCut ≤ t.pack.tPack) ||
      (s.hold.reasons.packHot && decide (s.cfg.tCut - 5 < t.pack.tPack))) ∧
    t.hold.reasons.packCold = (decide (t.pack.tPack < s.cfg.tDisLow) ||
      (s.hold.reasons.packCold && decide (t.pack.tPack < s.cfg.tDisLow + 5))) := by
  have settled := completeScan_accepted r s h
  have temp := settled.tPack
  have flip : ∀ a b : Int, (!decide (a ≤ b)) = decide (b < a) := fun a b => by simp [← decide_not]
  simp only [settled.own, temp]
  simp [scanTaken, packReasons, State.cfg, clearScan, flip]

/-- The first conjunct of O24: what an accepted scan of seven taps writes in the readings, the standings and the
reasons. -/
theorem completeScan_takes (r : ScanReading) (s : State) (h : ScanReading.accepted r = true)
    (hs : s.pack.cells.length = 7) (hr : r.cells.length = 7) :
    let t := completeScan r s
    t.activeCells.map (·.vMeas) = (r.cells.take s.cfg.cells).map cellMv ∧
    t.activeCells.map (·.vc) = (r.cells.take s.cfg.cells).map
      (fun q => (cellMv q : Int) + (ScanReading.meanMa r * s.cfg.rCell).fdiv 1000) := by
  constructor
  · rw [completeScan_map r s h _ fun _ => rfl]
    exact scannedCells_map r s _ _ (fun _ _ => rfl) hs hr
  · rw [completeScan_map r s h _ fun _ => rfl]
    exact scannedCells_map r s _ _ (fun _ _ => rfl) hs hr

/-- Each cell's class after an accepted scan is filtered from its bands (R8, R9). -/
theorem completeScan_classes (r : ScanReading) (s : State) (h : ScanReading.accepted r = true) :
    ∀ p ∈ s.activeCells.zip (completeScan r s).activeCells,
      FilteredBy s.pack.direct (indicated s.cfg p.1.cls p.2.vMeas p.2.vc) (p.1.cls, p.1.cand, p.1.candCount)
        (p.2.cls, p.2.cand, p.2.candCount) := by
  intro p hp
  obtain ⟨q, hq⟩ := completeScan_zip r s h p hp
  have filtered := scanCell_filteredBy s.cfg s.pack.direct (ScanReading.meanMa r) q p.1
  have same : ∀ {α : Type} (f : Cell → α), (∀ c, f (unbled c) = f c) →
      f p.2 = f (scanCell s.cfg s.pack.direct (ScanReading.meanMa r) q p.1) := fun f hf => by
    rw [← hf, hq, hf]
  rwa [same (·.vMeas) fun _ => rfl, same (·.vc) fun _ => rfl, same (·.cls) fun _ => rfl, same (·.cand) fun _ => rfl,
    same (·.candCount) fun _ => rfl]

/-- A completion whose reference lies within 2 % is accepted (R5). -/
theorem accepted_of_range {r : ScanReading} (h : 9800 ≤ r.reference ∧ r.reference ≤ 10200) :
    ScanReading.accepted r = true := by
  simp [ScanReading.accepted, h]

/-- Settles O24: the pack monitor's writing (`completeScan_pack`) survives the settling of the other blocks, and the
bleeds with it where TOPOFF or DONE stands throughout. -/
theorem acceptedScanTakesReadings : Obligations.AcceptedScanTakesReadings := by
  intro s r th k mean code
  refine ⟨?_, ?_, ?_, ?_, ?_⟩
  · intro scanning range hs hr hn
    have h := accepted_of_range range
    refine ⟨_, exec_scanCompletion r s scanning, ?_⟩
    have pack := completeScan_pack r s h
    have settled := completeScan_accepted r s h
    obtain ⟨hot, cold⟩ := completeScan_reasons r s h
    obtain ⟨meas, comp⟩ := completeScan_takes r s h hs hr
    refine ⟨meas, comp, completeScan_classes r s h, completeScan_above r s h (by omega), ?_, ?_, ?_, ?_, ?_, ?_, ?_, ?_,
      ?_, ?_, ?_, hot, cold, ?_, ?_, ?_, ?_, ?_, ?_, ?_⟩
    · rw [pack, completeScan_map r s h _ fun _ => rfl, scannedCells, State.activeCells, ← take_scanCells]; rfl
    · rw [pack]; rfl
    · rw [pack]; rfl
    · rw [pack]; rfl
    · rw [pack]; rfl
    · rw [pack]; rfl
    · rw [pack]
    · have t1 : (completeScan r s).pack.t1 = scanTherm s.cfg.therm s.pack.direct r.code1 s.pack.t1 := by rw [pack]; rfl
      have t2 : (completeScan r s).pack.t2 = scanTherm s.cfg.therm s.pack.direct r.code2 s.pack.t2 := by rw [pack]; rfl
      rw [t1, t2, List.forall_mem_cons, List.forall_mem_singleton]
      exact ⟨scanTherm_filteredBy _ _ _ _, scanTherm_filteredBy _ _ _ _⟩
    · rw [pack]
      exact packTemp_eq _ _ _
    · have state : (completeScan r s).pack.packState = worstClass (scannedCells r s) := by
        rw [pack, scannedCells, State.activeCells, ← take_scanCells]; rfl
      simp only [state, completeScan_any r s h, worstClass_eq]
    · have scanned : (takeReadings s.cfg r s.pack).cells.take s.cfg.cells = scannedCells r s :=
        take_scanCells _ _ _ _ _
      rw [completeScan_any r s h, ← scanned, pack]
    · rw [pack]
    · rw [pack]; rfl
    · rw [pack]; rfl
    · simpa [scanTaken, clearScan] using settled.samples
    · simpa [scanTaken, clearScan] using settled.attach.1
    · simpa [scanTaken, clearScan] using settled.attach.2
    · exact settled.onlyIn (by simp [scanTaken, clearScan])
  · intro scanning range
    have h := accepted_of_range range
    refine ⟨_, exec_scanCompletion r s scanning, ?_⟩
    have pack := completeScan_pack r s h
    have state : (completeScan r s).pack.packState = (takeReadings s.cfg r s.pack).packState := by rw [pack]
    have current : (completeScan r s).pack.iPack = (takeReadings s.cfg r s.pack).iPack := by rw [pack]
    have volts : (completeScan r s).pack.vPack = (takeReadings s.cfg r s.pack).vPack := by rw [pack]
    simp only [state, current, volts]
    rw [pack]
    refine ⟨rfl, rfl, ?_, rfl⟩
    by_cases third : ((takeReadings s.cfg r s.pack).packState = .empty ∧
        (takeReadings s.cfg r s.pack).iPack.natAbs < 200) ∧ 2 ≤ s.pack.emptyRest
    · simp [third]
    · cases start : s.pack.ocvPending <;> simp [third, State.qFull]
  · intro scanning range bleeds
    have h := accepted_of_range range
    refine ⟨_, exec_scanCompletion r s scanning, ?_⟩
    have settled := completeScan_accepted r s h
    have kept := settled.bleeds (scanTaken_lawBleeds r s bleeds)
    have barred := completeScan_barred r s h
    refine ⟨?_, ?_, ?_⟩
    · rintro (bar | free)
      · refine settled.all_open ?_
        have opened := balance_open (barred.mpr bar)
        simpa [scanTaken, acceptScan_eq] using opened
      · exact kept (fun ht => free (.inl ht)) fun hd => free (.inr hd)
    · intro unbarred began ends
      exact completeScan_zip_decided r s h (fun bar => unbarred (barred.mp bar)) began ends
    · intro ht hd
      have charge : (scanTaken r s).charge = s.charge := by simp [scanTaken, clearScan]
      exact settled.all_open (scanTaken_lawBleeds r s bleeds (by rwa [charge]) (by rwa [charge]))
  · intro len sorted
    have pairs := (ascending_iff th).mp sorted
    refine ⟨fun below => ocvPercent_below mean 0 (by omega) below, fun above => ?_, fun hk above below => ?_⟩
    · rw [ocvPercent_above mean th 0 pairs (by rwa [len]), len]
    · rw [ocvPercent_between mean k th 0 pairs (by omega) above below, Nat.zero_add]
  · intro len sorted hk above below
    rw [thermTemp, clampInt, interpolate_on code k th _ ((descending_iff th).mp sorted) (by omega) above
      (below.imp (by omega) id)]

end Sys2Proof.Proofs
end

section
/-! ## What an event tells the line -/

namespace Sys2Proof.Proofs
open Sys2Proof.Machine Sys2Proof.Safety

@[simp] theorem carry_carry (f : FlagState) : f.carry.carry = f.carry := by cases f <;> rfl

theorem lineTold_refl (s : State) : LineTold s s := by simp [LineTold]

theorem lineTold_trans {s t u : State} (a : LineTold s t) (b : LineTold t u) : LineTold s u := by
  obtain ⟨a1, a2, a3, a4, a5, a6, a7, a8, a9, a10, a11, a12⟩ := a
  obtain ⟨b1, b2, b3, b4, b5, b6, b7, b8, b9, b10, b11, b12⟩ := b
  refine ⟨b1.trans a1, b2.trans a2, b3.trans a3, b4.trans a4, b5.trans a5, b6.trans a6, b7.trans a7, b8.trans a8,
    b9.trans a9, b10.trans a10, b11.trans a11, ?_⟩
  rcases b12 with b12 | b12 <;> rcases a12 with a12 | a12 <;> rw [b12, a12] <;> simp [Function.comp_def]

theorem putState_told (s : State) : LineTold s (putState s) := by
  simp [LineTold, putState, putSlot, Line.onSlot, Line.setSlot, Line.slot]

theorem contentChange_told (s : State) : LineTold s (contentChange s) := by
  unfold contentChange
  (repeat' split)
  · exact lineTold_refl s
  · exact putState_told s
  · simp [LineTold]

theorem putHold_told (s : State) : LineTold s (putHold s) := by
  unfold putHold
  split
  · exact lineTold_refl s
  · simp [LineTold, putSlot, Line.onSlot, Line.setSlot, Line.slot]

theorem tell_told (s0 s : State) : LineTold s (Machine.tell s0 s) := by
  have content : LineTold s (tellState s0 s) := by
    unfold tellState
    split
    · exact lineTold_refl s
    · exact contentChange_told s
  refine lineTold_trans content ?_
  unfold Machine.tell tellHold
  split
  · exact lineTold_refl _
  · exact putHold_told _

/-- The slot that the next attempt is of waits with what it sends (R122). -/
theorem nextSlot_pending {l : Line} {i : SlotId} {w : List Byte} (h : l.nextSlot = some (i, w)) :
    (l.slot i).slot = .pending w := by
  have pending : ∀ (sl : Slot) (v : List Byte), sl.waiting = some v → sl = .pending v := by
    intro sl v hv
    cases sl <;> simp [Slot.waiting] at hv
    rw [hv]
  unfold Line.nextSlot at h
  split at h
  case h_1 v hv => cases h; exact pending _ _ hv
  split at h
  case h_1 v hv => cases h; exact pending _ _ hv
  split at h
  case h_1 v hv => cases h; exact pending _ _ hv
  obtain ⟨v, hv, he⟩ := Option.map_eq_some_iff.mp h
  cases he
  exact pending _ _ hv

theorem carryFlags_flags (s : State) :
    (carryFlags s).report.flags = s.report.flags ∨ (carryFlags s).report.flags = s.report.flags.map .carry := by
  unfold carryFlags
  split
  · exact .inr rfl
  · exact .inl rfl

theorem carryFlags_shipPending (s : State) : (carryFlags s).report.shipPending = s.report.shipPending := by
  unfold carryFlags
  split <;> rfl

theorem onAnswer_told (i : SlotId) (g : ShipAnswer → ShipAnswer) (s : State) : LineTold s (onAnswer i g s) := by
  unfold onAnswer
  split
  · simp [LineTold]
  · exact lineTold_refl s

/-- The beginning of an attempt marks the flags, and takes the notice that waits in flight (R122, R142). -/
theorem startAttempt_told {i : SlotId} {w : List Byte} {s : State} (h : (s.line.slot i).slot = .pending w) :
    LineTold s (startAttempt i w s) := by
  have marked : LineTold s (onAnswer i .launched (if i = .state then carryFlags s else s)) := by
    refine lineTold_trans ?_ (onAnswer_told _ _ _)
    split
    · simp [LineTold, carryFlags_flags, carryFlags_shipPending]
    · exact lineTold_refl s
  refine lineTold_trans marked ?_
  have waits : ((onAnswer i .launched (if i = .state then carryFlags s else s)).line.slot i).slot = .pending w := by
    split <;> simpa using h
  unfold startAttempt
  generalize onAnswer i .launched (if i = .state then carryFlags s else s) = u at waits
  cases i <;> simp only [Line.slot] at waits <;>
    simp [LineTold, Line.onSlot, Line.setSlot, Line.slot, Slot.begin, newest, waits, payloadNow]

theorem beginAttempt_told (s : State) : LineTold s (beginAttempt s) := by
  unfold beginAttempt
  split
  · split
    case h_1 i w h => exact startAttempt_told (nextSlot_pending h)
    case h_2 => exact lineTold_refl s
  · exact lineTold_refl s

/-- What an event tells the line at its end is no more than `LineTold`. -/
theorem publish_told (s0 s : State) : LineTold s (publish s0 s) := by
  unfold publish
  split
  · exact beginAttempt_told s
  · exact lineTold_trans (tell_told s0 s) (beginAttempt_told _)

end Sys2Proof.Proofs
end

section
/-! ## The power-on values, the scan timer, the conversions and the delivery -/

namespace Sys2Proof.Proofs
open Sys2Proof.Machine Sys2Proof.Safety

/-- Settles O4: each power-on value is the one that `State.reset` is built with. -/
theorem resetValues : Obligations.ResetValues := by
  unfold Obligations.ResetValues
  and_intros <;> rfl

/-- The time runs on to a tick, where the tick counter runs, and never back (R37). -/
theorem runTo_now (d : Nat) (s : State) (h : s.power.state.ticking = true) : (runTo d s).now = max d s.now := by
  unfold runTo
  split
  case isTrue hd => exact (max_eq_right hd).symm
  case isFalse hd =>
    simp only [elapse, State.now, onTime_time, h, if_true] at hd ⊢
    omega

theorem scanPeriod_eq (p : PowerState) : p.scanPeriod = if p = .awake then 80000 else 800000 := by
  cases p <;> rfl

/-- What a delivery writes (R14, R15, R112). -/
theorem deliver_pack (q : Int) (s : State) : (deliver q s).pack =
    (let m := (s.pack.carried + q).tdiv 1000
    { s.pack with
      q := deliveredQ s.pack.q s.qFull m
      soc := deliveredQ s.pack.q s.qFull m * 100 / s.qFull
      carried := s.pack.carried + q - m * 1000
      deliveryTimer := again 2000000 s.pack.deliveryTimer }) := rfl

theorem deliver_charge (q : Int) (s : State) :
    (deliver q s).charge = countCharge (-(s.pack.carried + q).tdiv 1000).toNat s.charge := rfl

theorem deliveredQ_eq (q qFull : Nat) (m : Int) : (deliveredQ q qFull m : Int) = max 0 (min (qFull : Int) (q - m)) := by
  rw [deliveredQ, clampInt, Int.toNat_of_nonneg (le_max_left _ _)]

/-- Settles O22: each command's own equation, and for the delivery what it tells the line. -/
theorem scanTimerConversionsAndDelivery : Obligations.ScanTimerConversionsAndDelivery := by
  intro s d q
  refine ⟨?_, ?_, ?_, ?_⟩
  · intro running
    refine ⟨startTimedScan (runTo d s), by simp [exec, execScanTimerExpiry, running, onTimerQuietly], ?_⟩
    refine ⟨rfl, fun ticking => runTo_now d s ticking, ?_, ?_⟩
    · simp [startTimedScan, scanPeriod_eq, State.now]
    · simp [OnlyIn, startTimedScan]
  · intro converting
    refine ⟨_, rfl, ?_, ?_, ?_⟩
    · simp [converting]
    · simp [OnlyIn]
    · intro c _
      simp [State.bleedClosed, converting]
  · intro idle
    exact ⟨_, rfl, by simp [idle, State.onPack]⟩
  · intro running
    refine ⟨asEvent (fun s => deliver q (runTo d s)) s,
      by simp [exec, execChargeDelivery, running, onTimer, finish], ?_⟩
    have pack : (asEvent (fun s => deliver q (runTo d s)) s).pack = (deliver q s).pack := by
      simp [deliver_pack, State.qFull, State.cfg]
    have charge : (asEvent (fun s => deliver q (runTo d s)) s).charge = (deliver q s).charge := by
      simp [deliver_charge]
    have told : LineTold s (asEvent (fun s => deliver q (runTo d s)) s) :=
      lineTold_trans (by simp [LineTold, deliver]) (publish_told _ _)
    refine ⟨by simp [deliver], ?_, ?_, ?_, ?_, told, ?_⟩
    · rw [pack, deliver_pack]
      exact deliveredQ_eq _ _ _
    · rw [pack, deliver_pack]
      simp [running, again, State.qFull, mul_comm]
    · rw [charge, deliver_charge]
      simp [countCharge, max32]
    · intro charged small
      rw [charge, deliver_charge]
      have none : (-(s.pack.carried + q).tdiv 1000).toNat = 0 := by omega
      simp [countCharge, none, Nat.mod_eq_of_lt small]
    · simp [OnlyIn, deliver]

end Sys2Proof.Proofs
end

section
/-! ## The ends of a charge -/

namespace Sys2Proof.Proofs
open Sys2Proof.Machine Sys2Proof.Safety

/-! ### A flag that has been raised stands -/

theorem raised_ne_clear (f : FlagState) : f.raised ≠ .clear := by cases f <;> simp [FlagState.raised]

theorem carry_ne_clear {f : FlagState} (h : f ≠ .clear) : f.carry ≠ .clear := by
  cases f <;> simp_all [FlagState.carry]

theorem flag_bit_lt (f : Flag) : f.bit < 16 := by cases f <;> decide

theorem raise_flags (f : Flag) (s : State) :
    (raise f s).report.flags = s.report.flags.modify f.bit FlagState.raised := by simp [raise]

theorem raise_raised (f : Flag) (s : State) : Raised f (raise f s) := by
  intro length
  rw [raise_flags, List.length_modify] at length
  have inside : f.bit < s.report.flags.length := length ▸ flag_bit_lt f
  rw [State.flag, raise_flags, List.getD_eq_getElem _ _ (by simpa using inside)]
  simp [raised_ne_clear]

/-- What an event tells the line takes no flag back (R142). -/
theorem Raised.told {f : Flag} {s t : State} (h : Raised f s)
    (ht : t.report.flags = s.report.flags ∨ t.report.flags = s.report.flags.map .carry) : Raised f t := by
  intro length
  rcases ht with ht | ht
  · simpa [State.flag, ht] using h (ht ▸ length)
  · have before : s.report.flags.length = 16 := by simpa [ht] using length
    have stands := h before
    have inside : f.bit < s.report.flags.length := before ▸ flag_bit_lt f
    rw [State.flag, List.getD_eq_getElem _ _ inside] at stands
    rw [State.flag, ht, List.getD_eq_getElem _ _ (by simpa using inside), List.getElem_map]
    exact carry_ne_clear stands

/-! ### The entry to DONE or FAULT -/

/-- A charge that ends: the phase, the ask and the switch after it. -/
def endCharge (ph : ChargePhase) (s : State) : State := switchJudge (refreshAsk (enterPhase ph s))

theorem enterPhase_charge (ph : ChargePhase) (s : State) : (enterPhase ph s).charge =
    { s.charge with
      phase := ph
      causes := .none
      total := if ph.charging then s.charge.total.run s.now else s.charge.total.stop s.now
      precharge := if ph = .precharge then s.charge.precharge.run s.now else s.charge.precharge.stop s.now
      regTimer := if ph = .topoff then some (s.now + 4000000) else none
      termination := .zero
      echoTimer := if ph.charging then s.charge.echoTimer else none
      resendTimer := if ph.charging then s.charge.resendTimer else none } := by
  unfold enterPhase
  dsimp only
  split <;> simp [ms]

/-- Outside the charging phases the ask is disabled, and no timer of it runs (R95, R96). -/
theorem refreshAsk_charge {s : State} (h : s.charge.phase.charging = false) (ht : s.charge.echoTimer = none)
    (hr : s.charge.resendTimer = none) : (refreshAsk s).charge =
      { s.charge with ask := .disabled, awaiting := (refreshAsk s).charge.awaiting } := by
  have off : s.askFor s.charge.ask.v = .disabled := by simp [State.askFor, h]
  unfold refreshAsk changeAsk
  rw [off]
  split
  case isTrue e => rw [e]
  case isFalse => simp [h, ht, hr]

/-- Outside the charging phases the switch opens, whatever it was (R99). -/
theorem switchJudge_open {s : State} (h : s.charge.phase.charging = false) :
    (switchJudge s).drive = s.drive ∧ (switchJudge s).dirt = s.dirt ∧ (switchJudge s).allow = s.allow ∧
    (switchJudge s).charge = { s.charge with
      switch := false
      termination := if s.charge.switch = true then s.charge.termination.stop s.now else s.charge.termination } := by
  have off : s.switchWanted = false := by simp [State.switchWanted, h]
  unfold switchJudge
  rw [off]
  by_cases hs : s.charge.switch = true
  · rw [if_neg (by simp [hs]), if_neg Bool.false_ne_true]
    simp [hs]
  · rw [Bool.not_eq_true] at hs
    rw [if_pos hs.symm]
    refine ⟨rfl, rfl, rfl, ?_⟩
    simp only [hs, Bool.false_eq_true, if_false]
    rw [← hs]

theorem stop_zero (now : Nat) : Stopwatch.zero.stop now = .zero := rfl

/-- The charge controller where a charge ends (R95, R99, R101, R104, R109). -/
theorem endCharge_charge {ph : ChargePhase} (hp : ph.charging = false) (s : State) : (endCharge ph s).charge =
    { s.charge with
      phase := ph
      causes := .none
      ask := .disabled
      awaiting := (refreshAsk (enterPhase ph s)).charge.awaiting
      echoTimer := none
      resendTimer := none
      regTimer := none
      termination := .zero
      precharge := s.charge.precharge.stop s.now
      total := s.charge.total.stop s.now
      switch := false } := by
  have notTopoff : ph ≠ .topoff := by rintro rfl; simp [ChargePhase.charging] at hp
  have notPrecharge : ph ≠ .precharge := by rintro rfl; simp [ChargePhase.charging] at hp
  have entered := enterPhase_charge ph s
  simp only [hp, notTopoff, notPrecharge, if_false, Bool.false_eq_true] at entered
  have asked := refreshAsk_charge (s := enterPhase ph s) (by rw [entered]; exact hp) (by rw [entered])
    (by rw [entered])
  obtain ⟨-, -, -, opened⟩ := switchJudge_open (s := refreshAsk (enterPhase ph s)) (by rw [asked, entered]; exact hp)
  rw [endCharge, opened, asked, entered]
  simp [stop_zero]

/-- The end of a charge leaves the drive, dirt sensing and the allowance (R99). -/
theorem endCharge_quiet {ph : ChargePhase} (hp : ph.charging = false) (s : State) :
    (endCharge ph s).drive = s.drive ∧ (endCharge ph s).dirt = s.dirt ∧ (endCharge ph s).allow = s.allow := by
  have phase : (refreshAsk (enterPhase ph s)).charge.phase.charging = false := by
    rw [refreshAsk, changeAsk_phase, enterPhase_phase, hp]
  obtain ⟨drive, dirt, allow, -⟩ := switchJudge_open phase
  simp [endCharge, drive, dirt, allow]

theorem endCharge_frame (ph : ChargePhase) (s : State) :
    (endCharge ph s).pins = s.pins ∧ (endCharge ph s).loader = s.loader ∧ (endCharge ph s).table = s.table ∧
    (endCharge ph s).hold = s.hold ∧ (endCharge ph s).attach = s.attach ∧ (endCharge ph s).free = s.free ∧
    (endCharge ph s).pending = s.pending := by simp [endCharge]

theorem setQ_pack (q : Nat) (s : State) :
    (setQ q s).pack = { s.pack with q := q, soc := q * 100 / s.qFull } := rfl

theorem chargeDone_eq (s : State) : chargeDone s =
    raise .chargeDone ((setQ (endCharge .done s).qFull (endCharge .done s)).onCharge fun c =>
      { c with completions := satSucc max16 c.completions, total := .zero, precharge := .zero }) := rfl

theorem chargeFault_eq (k : FaultKind) (s : State) :
    chargeFault k s = pushHistory k (raise .chargeFault (endCharge .fault s)) := rfl

/-- The bleeds are open after an entry to FAULT (R20). -/
theorem endCharge_fault_open (s : State) : (endCharge .fault s).pack.cells.all (!·.bleed) = true := by
  have entered : (enterPhase .fault s).pack.cells.all (!·.bleed) = true := by simp [enterPhase_pack, unbled]
  exact ((refreshAsk_settling _).trans (switchJudge_settling _)).all_open entered

/-- The event of a charge timer's end, at tick `e`. -/
def chargeTimeout (k : FaultKind) (e : Nat) : State → State :=
  asEvent fun s => powerJudge (chargeFault k (runTo e s))

theorem chargeTimeout_settling (k : FaultKind) (e : Nat) (s : State) :
    ScanSettling (runTo e s) (chargeTimeout k e s) :=
  ((chargeFault_scanSettling k _).trans (powerJudge_settling _).toScanSettling).publish s

/-- The charge controller after a charge FAULT (R110). -/
theorem chargeTimeout_charge (k : FaultKind) (e : Nat) (s : State) :
    (chargeTimeout k e s).charge = (endCharge .fault (runTo e s)).charge := by
  simp [chargeTimeout, chargeFault_eq]

/-- A charge FAULT pushes its entry, with the figures of that moment (R110, R173). -/
theorem chargeTimeout_logged (k : FaultKind) (e : Nat) (s : State) : Logged k s (chargeTimeout k e s) := by
  have kept : ScanSettling (runTo e s) (endCharge .fault (runTo e s)) :=
    (((enterPhase_settling (by simp [bleedPhase]) _).trans (refreshAsk_settling _)).trans
      (switchJudge_settling _)).toScanSettling
  obtain ⟨drive, -, -⟩ := endCharge_quiet (ph := .fault) rfl (runTo e s)
  have hold : (endCharge .fault (runTo e s)).hold = s.hold := by simp [endCharge]
  have soc : (endCharge .fault (runTo e s)).pack.soc = s.pack.soc := by rw [kept.pack]; simp
  have time : (endCharge .fault (runTo e s)).time = (runTo e s).time := by simp [endCharge]
  simp [Logged, chargeTimeout, chargeFault_eq, pushHistory, hold, drive, soc, kept.tPack, State.krpm, time]

theorem chargeTimeout_raised (k : FaultKind) (e : Nat) (s : State) : Raised .chargeFault (chargeTimeout k e s) := by
  have raised := raise_raised .chargeFault (endCharge .fault (runTo e s))
  obtain ⟨-, -, -, -, -, -, -, -, -, -, -, flags⟩ := publish_told s (powerJudge (chargeFault k (runTo e s)))
  exact Raised.told raised (by simpa [chargeTimeout, asEvent, chargeFault_eq] using flags)

/-- What the end of the precharge timer and of the total timer do, up to the kind of their entry (R101, R109, R110). -/
theorem chargeTimeout_ends (k : FaultKind) (e : Nat) (s : State) :
    let t := chargeTimeout k e s
    t.time = (runTo e s).time ∧ t.charge.phase = .fault ∧ Logged k s t ∧ Raised .chargeFault t ∧
    t.charge.ask = .disabled ∧ t.charge.switch = false ∧ t.charge.regTimer = none ∧ t.charge.echoTimer = none ∧
    t.charge.resendTimer = none ∧ t.charge.mah = s.charge.mah ∧ t.drive = s.drive ∧ t.allow = s.allow ∧
    OwnReasonsKept s.hold.reasons t.hold.reasons ∧ t.charge.completions = s.charge.completions ∧
      t.pack.q = s.pack.q ∧ t.pack.cells.all (!·.bleed) = true ∧
    OnlyIn [.time, .pack, .charge, .line, .report, .hold, .power] s t := by
  have settled := chargeTimeout_settling k e s
  have own := settled.own
  have charge := chargeTimeout_charge k e s
  rw [endCharge_charge rfl] at charge
  obtain ⟨drive, dirt, allow⟩ := endCharge_quiet (ph := .fault) rfl (runTo e s)
  have opened : (chargeTimeout k e s).pack.cells.all (!·.bleed) = true := by
    have judged := (powerJudge_settling (chargeFault k (runTo e s))).all_open
      (by simpa [chargeFault_eq] using endCharge_fault_open (runTo e s))
    simpa [chargeTimeout] using judged
  refine ⟨by simp [settled.frame], by rw [charge], chargeTimeout_logged k e s, chargeTimeout_raised k e s, by rw [charge],
    by rw [charge], by rw [charge], by rw [charge], by rw [charge], by simp [charge], ?_, ?_, by simpa using own,
    by simp [charge], ?_, opened, ?_⟩
  · simp [chargeTimeout, chargeFault_eq, drive]
  · simp [chargeTimeout, chargeFault_eq, allow]
  · rw [settled.pack]; simp
  · simp [OnlyIn, chargeTimeout, chargeFault_eq, drive, dirt, allow, endCharge_frame]

/-- The event of the termination timer's end, at tick `e`. -/
def chargeTermination (e : Nat) : State → State := asEvent fun s => powerJudge (chargeDone (runTo e s))

theorem chargeTermination_charge (e : Nat) (s : State) : (chargeTermination e s).charge =
    { (endCharge .done (runTo e s)).charge with
      completions := min 65535 (s.charge.completions + 1), total := .zero, precharge := .zero } := by
  have count : (endCharge .done (runTo e s)).charge.completions = s.charge.completions := by
    rw [endCharge_charge rfl]; simp
  simp [chargeTermination, chargeDone_eq, count, satSucc, max16]

/-- The charge count is full at the entry to DONE (R17). -/
theorem chargeTermination_pack (e : Nat) (s : State) :
    (chargeTermination e s).pack.q = s.qFull ∧ (chargeTermination e s).pack.soc = s.qFull * 100 / s.qFull := by
  have full : (endCharge .done (runTo e s)).qFull = s.qFull := by simp [State.qFull, State.cfg, endCharge]
  have judged := (powerJudge_settling (chargeDone (runTo e s))).pack
  simp only [chargeTermination, asEvent_frame]
  rw [judged]
  simp [chargeDone_eq, setQ_pack, full]

theorem chargeTermination_raised (e : Nat) (s : State) : Raised .chargeDone (chargeTermination e s) := by
  have raised : Raised .chargeDone (chargeDone (runTo e s)) := raise_raised _ _
  obtain ⟨-, -, -, -, -, -, -, -, -, -, -, flags⟩ := publish_told s (powerJudge (chargeDone (runTo e s)))
  exact Raised.told raised (by simpa [chargeTermination, asEvent] using flags)

/-- Settles O42: a charge that ends is `endCharge` in each of the three cases; DONE fills the charge count, FAULT pushes
its entry. -/
theorem chargeEndsInDoneOrFault : Obligations.ChargeEndsInDoneOrFault := by
  intro s a d
  refine ⟨?_, ?_, ?_⟩
  · intro running capacity
    have charge := chargeTermination_charge (d + (480000000 - a)) s
    rw [endCharge_charge rfl] at charge
    obtain ⟨q, soc⟩ := chargeTermination_pack (d + (480000000 - a)) s
    obtain ⟨drive, dirt, allow⟩ := endCharge_quiet (ph := .done) rfl (runTo (d + (480000000 - a)) s)
    refine ⟨chargeTermination (d + (480000000 - a)) s, ?_, ?_⟩
    · simp [exec, execTerminationTimerExpiry, running, Stopwatch.endsAt, onTimer, finish, chargeTermination, sec]
    refine ⟨by simp [chargeTermination], by rw [charge], q, ?_, by rw [charge], by rw [charge], by rw [charge],
      by rw [charge], chargeTermination_raised _ s, by rw [charge], by rw [charge], by rw [charge], by rw [charge],
      by rw [charge], by simp [charge], ?_, ?_, by simp [OwnReasonsKept, chargeTermination], ?_⟩
    · rw [soc, Nat.mul_div_cancel_left _ (by simpa [State.qFull] using capacity)]
    · simp [chargeTermination, chargeDone_eq, drive]
    · simp [chargeTermination, chargeDone_eq, allow]
    · simp [OnlyIn, chargeTermination, chargeDone_eq, drive, dirt, allow, endCharge_frame]
  · intro running
    exact ⟨_, by simp [exec, execPrechargeTimerExpiry, running, onTimer, finish, chargeTimeout],
      chargeTimeout_ends .prechargeTimeout d s⟩
  · intro running
    exact ⟨_, by simp [exec, execTotalTimerExpiry, running, onTimer, finish, chargeTimeout],
      chargeTimeout_ends .chargeTimeout d s⟩

end Sys2Proof.Proofs
end

section
/-! ## The allowance between two computations (R29, R35)

Between two computations the share and LOW_ALLOWANCE stay, and P_allow and the target stay or become 0: P_allow where the
charge switch closes, the target where stop-suction begins. `Curbing` says that; `Between` adds that what the limits I_T and
I_V read stays, so that nothing but a scan moves the pack limit; `Easing` adds, for the events of a scan, what the drive, the
rail and the counters make of it. Each is transitive, so an operation is a chain of the ones it is made of. -/

namespace Sys2Proof.Proofs
open Sys2Proof.Machine Sys2Proof.Safety

structure Curbing (s t : State) : Prop where
  loader : t.loader = s.loader
  share : t.allow.iShare = s.allow.iShare
  low : t.allow.low = s.allow.low
  pAllow : t.allow.pAllow = s.allow.pAllow ∨ t.allow.pAllow = 0
  target : t.allow.target = s.allow.target ∨ t.allow.target = 0
  closed : t.charge.switch = true → s.charge.switch = true ∨ t.allow.pAllow = 0
  stopped : t.hold.stopSuction = true → s.hold.stopSuction = true ∨ t.allow.target = 0

/-- Two causes of a 0: what becomes 0 once stays 0. -/
theorem zero_trans {a b c : Nat} (hb : b = a ∨ b = 0) (hc : c = b ∨ c = 0) : c = a ∨ c = 0 := by omega

theorem Curbing.trans {s t u : State} (a : Curbing s t) (b : Curbing t u) : Curbing s u where
  loader := b.loader.trans a.loader
  share := b.share.trans a.share
  low := b.low.trans a.low
  pAllow := zero_trans a.pAllow b.pAllow
  target := zero_trans a.target b.target
  closed := fun h => (b.closed h).elim
    (fun ht => (a.closed ht).imp_right fun zero => b.pAllow.elim (·.trans zero) id) .inr
  stopped := fun h => (b.stopped h).elim
    (fun ht => (a.stopped ht).imp_right fun zero => b.target.elim (·.trans zero) id) .inr

/-- The allowance is the same, no switch has closed and no stop-suction begun. -/
theorem Curbing.of_kept {s t : State}
    (h : t.loader = s.loader ∧ t.allow.iShare = s.allow.iShare ∧ t.allow.low = s.allow.low ∧
      t.allow.pAllow = s.allow.pAllow ∧ t.allow.target = s.allow.target ∧
      (t.charge.switch = true → s.charge.switch = true) ∧
      (t.hold.stopSuction = true → s.hold.stopSuction = true)) : Curbing s t := by
  obtain ⟨loader, share, low, pAllow, target, switch, stop⟩ := h
  exact ⟨loader, share, low, .inl pAllow, .inl target, fun h => .inl (switch h), fun h => .inl (stop h)⟩

structure Between (s t : State) : Prop extends Curbing s t where
  limit : t.packLimit = s.packLimit

theorem Between.trans {s t u : State} (a : Between s t) (b : Between t u) : Between s u where
  toCurbing := a.toCurbing.trans b.toCurbing
  limit := b.limit.trans a.limit

/-- The pack limit reads the configuration, T_pack and the compensated voltages (R24 to R26). -/
theorem packLimit_of_kept {s t : State} (loader : t.loader = s.loader) (temp : t.pack.tPack = s.pack.tPack)
    (volts : t.pack.cells.map (·.vc) = s.pack.cells.map (·.vc)) : t.packLimit = s.packLimit := by
  have active : t.activeCells.map (·.vc) = s.activeCells.map (·.vc) := by
    simp only [State.activeCells, State.cfg, loader, List.map_take, volts]
  simp only [State.packLimit, State.vMinC, active, temp, State.cfg, loader]

/-- What the allowance unit has given and what its limits read are the same. -/
theorem Between.of_kept {s t : State}
    (h : t.loader = s.loader ∧ t.allow.iShare = s.allow.iShare ∧ t.allow.low = s.allow.low ∧
      t.allow.pAllow = s.allow.pAllow ∧ t.allow.target = s.allow.target ∧
      (t.charge.switch = true → s.charge.switch = true) ∧
      (t.hold.stopSuction = true → s.hold.stopSuction = true) ∧
      t.pack.tPack = s.pack.tPack ∧ t.pack.cells.map (·.vc) = s.pack.cells.map (·.vc)) : Between s t := by
  obtain ⟨loader, share, low, pAllow, target, switch, stop, temp, volts⟩ := h
  exact ⟨.of_kept ⟨loader, share, low, pAllow, target, switch, stop⟩, packLimit_of_kept loader temp volts⟩

theorem Between.refl (s : State) : Between s s := .of_kept (by simp)

/-! ### A target of 0 at the drive -/

/-- The drive after a target of 0 (R35, R60): a driven state coasts without the restart mark. -/
def easedDrive (d : Drive) (now : Nat) : Drive :=
  match d.state with
  | .stopped => { d with target := 0 }
  | .coast => { d with target := 0, restart := false }
  | .fault => { d with target := 0 }
  | _ => { ({ d with target := 0 } : Drive).quieted .coast with coastTimer := some (now + ms 1500), restart := false }

theorem driveTarget_zero (s : State) : (driveTarget 0 s).drive = easedDrive s.drive s.now := by
  unfold driveTarget easedDrive
  cases h : s.drive.state <;> simp [h, enterCoast, quietDrive] <;> rfl

theorem easedDrive_quiet (d : Drive) (now : Nat) : (easedDrive d now).state.quiet = true := by
  unfold easedDrive
  cases h : d.state <;> simp [Drive.quieted, DriveState.quiet]

/-- A second target of 0 finds the drive as the first has left it. -/
theorem easedDrive_twice (d : Drive) (now : Nat) : easedDrive (easedDrive d now) now = easedDrive d now := by
  cases h : d.state <;> simp [easedDrive, h, Drive.quieted]

/-! ### The events of a scan, as the allowance and its readers see them -/

/-- The drive and dirt sensing have been left alone, or have been handed a target of 0. -/
def DriveEased (s t : State) : Prop :=
  (t.drive = s.drive ∧ t.dirt = s.dirt ∧ t.allow.target = s.allow.target) ∨
  (t.drive = easedDrive s.drive s.now ∧ t.allow.target = 0)

/-- The rail and its overdraw timer have been left alone, or the rail is off and the timer stopped (R178, R180). -/
def RailKept (a b : Attach) : Prop :=
  (b.rail = a.rail ∧ b.excess = a.excess ∧ b.overdrawTimer = a.overdrawTimer) ∨
  (b.rail = false ∧ b.excess = false ∧ b.overdrawTimer = none)

/-- The counts of charges and of charge are the same (R112). -/
def ChargesKept (c d : Charge) : Prop := d.completions = c.completions ∧ d.mah = c.mah ∧ d.masRem = c.masRem

structure Easing (s t : State) : Prop extends Between s t where
  time : t.time = s.time
  mode : t.allow.mode = s.allow.mode
  conflict : t.line.conflict = s.line.conflict
  drive : DriveEased s t
  rail : RailKept s.attach t.attach
  charges : ChargesKept s.charge t.charge

theorem DriveEased.trans {s t u : State} (time : t.time = s.time) (a : DriveEased s t) (b : DriveEased t u) :
    DriveEased s u := by
  have now : t.now = s.now := by simp [State.now, time]
  rcases a with ⟨hd, hi, ht⟩ | ⟨hd, ht⟩ <;> rcases b with ⟨kd, ki, kt⟩ | ⟨kd, kt⟩
  · exact .inl ⟨kd.trans hd, ki.trans hi, kt.trans ht⟩
  · exact .inr ⟨by rw [kd, hd, now], kt⟩
  · exact .inr ⟨kd.trans hd, kt.trans ht⟩
  · exact .inr ⟨by rw [kd, hd, now, easedDrive_twice], kt⟩

theorem RailKept.trans {a b c : Attach} (h : RailKept a b) (k : RailKept b c) : RailKept a c := by
  unfold RailKept at *
  grind

theorem Easing.trans {s t u : State} (a : Easing s t) (b : Easing t u) : Easing s u where
  toBetween := a.toBetween.trans b.toBetween
  time := b.time.trans a.time
  mode := b.mode.trans a.mode
  conflict := b.conflict.trans a.conflict
  drive := a.drive.trans a.time b.drive
  rail := a.rail.trans b.rail
  charges := by
    obtain ⟨hc, hm, hr⟩ := a.charges
    obtain ⟨kc, km, kr⟩ := b.charges
    exact ⟨kc.trans hc, km.trans hm, kr.trans hr⟩

/-- The allowance, the drive, dirt sensing and the rail are as they were; neither switch nor stop-suction has begun. -/
theorem Easing.of_kept {s t : State}
    (h : t.loader = s.loader ∧ t.allow = s.allow ∧ t.drive = s.drive ∧ t.dirt = s.dirt ∧ t.attach = s.attach ∧
      t.time = s.time ∧ t.line.conflict = s.line.conflict ∧
      (t.charge.switch = true → s.charge.switch = true) ∧
      (t.hold.stopSuction = true → s.hold.stopSuction = true) ∧
      t.pack.tPack = s.pack.tPack ∧ t.pack.cells.map (·.vc) = s.pack.cells.map (·.vc) ∧
      t.charge.completions = s.charge.completions ∧ t.charge.mah = s.charge.mah ∧
      t.charge.masRem = s.charge.masRem) : Easing s t := by
  obtain ⟨loader, allow, drive, dirt, attach, time, conflict, switch, stop, temp, volts, charges⟩ := h
  exact {
    toBetween := .of_kept (by simpa [loader, allow, temp, volts] using ⟨switch, stop⟩)
    time := time
    mode := by rw [allow]
    conflict := conflict
    drive := .inl (by simp [drive, dirt, allow])
    rail := .inl (by simp [attach])
    charges := charges }

theorem Easing.refl (s : State) : Easing s s := .of_kept (by simp)

/-! ### The line's conflict under a putting -/

@[simp] theorem onSlot_conflict (l : Line) (i : SlotId) (f : Slot → Slot) : (l.onSlot i f).conflict = l.conflict := by
  cases i <;> rfl

@[simp] theorem putSlot_conflict (i : SlotId) (w : List Byte) (s : State) :
    (putSlot i w s).line.conflict = s.line.conflict := by simp [putSlot]

@[simp] theorem contentChange_conflict (s : State) : (contentChange s).line.conflict = s.line.conflict := by
  unfold contentChange putState
  (repeat' split) <;> simp

@[simp] theorem raise_conflict (f : Flag) (s : State) : (raise f s).line.conflict = s.line.conflict := by simp [raise]

@[simp] theorem publish_conflict (s0 s : State) : (publish s0 s).line.conflict = s.line.conflict := by
  obtain ⟨-, -, conflict, -⟩ := publish_told s0 s
  exact conflict

@[simp] theorem changeAsk_conflict (a : Ask) (s : State) : (changeAsk a s).line.conflict = s.line.conflict := by
  unfold changeAsk
  split <;> simp

@[simp] theorem enterAwakeOrDoze_conflict (b : Bool) (s : State) :
    (enterAwakeOrDoze b s).line.conflict = s.line.conflict := by
  unfold enterAwakeOrDoze
  (repeat' split) <;> simp

@[simp] theorem powerJudge_conflict (s : State) : (powerJudge s).line.conflict = s.line.conflict := by
  unfold powerJudge powerTimers
  split <;> simp

/-! ### The target and the switch (R29, R35, R99) -/

theorem zeroTarget_allow (s : State) : (zeroTarget s).allow = { s.allow with target := 0 } := by simp [zeroTarget]

theorem zeroTarget_drive (s : State) : (zeroTarget s).drive = easedDrive s.drive s.now := driveTarget_zero _

theorem zeroTarget_easing (s : State) : Easing s (zeroTarget s) where
  loader := by simp
  share := by simp [zeroTarget_allow]
  low := by simp [zeroTarget_allow]
  pAllow := .inl (by simp [zeroTarget_allow])
  target := .inr (by simp [zeroTarget_allow])
  closed := fun h => .inl (by simpa using h)
  stopped := fun _ => .inr (by simp [zeroTarget_allow])
  limit := packLimit_of_kept (by simp) (by simp) (by simp)
  time := by simp
  mode := by simp [zeroTarget_allow]
  conflict := by simp
  drive := .inr ⟨zeroTarget_drive s, by simp [zeroTarget_allow]⟩
  rail := .inl (by simp)
  charges := by simp [ChargesKept]

/-- P_allow becomes 0. -/
theorem zeroAllow_easing (s : State) : Easing s (s.onAllow fun a => { a with pAllow := 0 }) where
  loader := rfl
  share := rfl
  low := rfl
  pAllow := .inr rfl
  target := .inl rfl
  closed := fun _ => .inr rfl
  stopped := fun h => .inl h
  limit := rfl
  time := rfl
  mode := rfl
  conflict := rfl
  drive := .inl ⟨rfl, rfl, rfl⟩
  rail := .inl ⟨rfl, rfl, rfl⟩
  charges := ⟨rfl, rfl, rfl⟩

theorem switchClosed_pAllow (s : State) : (switchClosed s).allow.pAllow = 0 := by
  unfold switchClosed
  dsimp only
  split
  · rfl
  · simp [zeroTarget_allow]

theorem switchClosed_easing (s : State) : Easing s (switchClosed s) := by
  unfold switchClosed
  dsimp only
  split
  · exact zeroAllow_easing s
  · exact (zeroAllow_easing s).trans (zeroTarget_easing _)

/-- A closing of the switch zeroes P_allow, so the switch may stand closed (R29). -/
theorem switchJudge_easing (s : State) : Easing s (switchJudge s) := by
  unfold switchJudge
  split
  · exact .refl s
  split
  · exact { switchClosed_easing ((s.onPack fun p => { p with scanSwitchClosed := false }).onCharge
      fun c => { c with switch := true }) with closed := fun _ => .inr (switchClosed_pAllow _) }
  · exact .of_kept (by simp)

/-! ### The charge controller -/

theorem changeAsk_charge (a : Ask) (s : State) :
    (changeAsk a s).charge.switch = s.charge.switch ∧ ChargesKept s.charge (changeAsk a s).charge := by
  unfold changeAsk
  split <;> simp [ChargesKept]

theorem changeAsk_easing (a : Ask) (s : State) : Easing s (changeAsk a s) := by
  obtain ⟨switch, charges⟩ := changeAsk_charge a s
  exact .of_kept (by simpa [switch, ChargesKept] using charges)

theorem refreshAsk_easing (s : State) : Easing s (refreshAsk s) := changeAsk_easing _ s

/-- A change of phase moves no reading but the bleed marks. -/
theorem enterPhase_readings (ph : ChargePhase) (s : State) : (enterPhase ph s).pack.tPack = s.pack.tPack ∧
    (enterPhase ph s).pack.cells.map (·.vc) = s.pack.cells.map (·.vc) := by
  rw [enterPhase_pack]
  split <;> simp [Function.comp_def, unbled]

theorem enterPhase_easing (ph : ChargePhase) (s : State) : Easing s (enterPhase ph s) :=
  .of_kept (by simp [enterPhase_charge, enterPhase_readings])

/-- The charge controller's record changes, but for the switch and the counts. -/
theorem onCharge_easing (f : Charge → Charge) (s : State)
    (hf : (f s.charge).switch = s.charge.switch ∧ ChargesKept s.charge (f s.charge)) : Easing s (s.onCharge f) := by
  obtain ⟨switch, charges⟩ := hf
  exact .of_kept (by simpa [switch, ChargesKept] using charges)

theorem enterPaused_easing (cs : Causes) (s : State) : Easing s (enterPaused cs s) :=
  (enterPhase_easing _ s).trans (onCharge_easing _ _ (by simp [ChargesKept]))

theorem waitingDecision_easing (s : State) : Easing s (waitingDecision s) := by
  unfold waitingDecision
  split
  · exact .refl s
  split
  · exact enterPaused_easing _ s
  split <;> exact enterPhase_easing _ s

theorem chargeReview_easing (s : State) : Easing s (chargeReview s) := by
  have pause : Easing s (if s.causesNow.any then enterPaused s.causesNow s else s) := by
    split
    · exact enterPaused_easing _ s
    · exact .refl s
  unfold chargeReview
  split
  case h_1 => exact pause
  case h_2 => exact pause
  case h_3 => exact pause
  case h_4 =>
    split
    · exact onCharge_easing _ s (by simp [ChargesKept])
    · exact (enterPhase_easing _ s).trans (waitingDecision_easing _)
  case h_5 => exact waitingDecision_easing s
  all_goals exact .refl s

theorem chargeSettle_easing (s : State) : Easing s (chargeSettle s) :=
  ((chargeReview_easing s).trans (refreshAsk_easing _)).trans (switchJudge_easing _)

theorem raise_easing (f : Flag) (s : State) : Easing s (raise f s) := .of_kept (by simp)

theorem pushHistory_easing (k : FaultKind) (s : State) : Easing s (pushHistory k s) :=
  .of_kept (by simp [pushHistory])

theorem chargeFault_easing (k : FaultKind) (s : State) : Easing s (chargeFault k s) :=
  ((((enterPhase_easing _ s).trans (refreshAsk_easing _)).trans (switchJudge_easing _)).trans
    (raise_easing _ _)).trans (pushHistory_easing k _)

theorem supplyGuard_easing (b : Bool) (s : State) : Easing s (supplyGuard b s) := by
  unfold supplyGuard
  split
  · exact onCharge_easing _ s (by simp [ChargesKept])
  · exact .refl s

theorem windowReview_easing (s : State) : Easing s (windowReview s) := by
  have selected : ∀ w, Easing s (chargeReview (s.onCharge fun c => { c with window := w })) := fun w =>
    (onCharge_easing _ s (by simp [ChargesKept])).trans (chargeReview_easing _)
  unfold windowReview
  split
  · exact .refl s
  dsimp only
  split
  · exact .refl s
  split
  · split
    · exact (selected _).trans (changeAsk_easing _ _)
    · exact selected _
  · exact selected _

theorem phaseProgress_easing (s : State) : Easing s (phaseProgress s) := by
  unfold phaseProgress
  split
  case h_1 =>
    split
    · exact enterPhase_easing _ s
    · exact .refl s
  case h_2 =>
    split
    · split
      · exact enterPhase_easing _ s
      · exact .refl s
    · exact .refl s
  case h_3 =>
    split
    · split
      · exact (enterPhase_easing _ s).trans (waitingDecision_easing _)
      · exact .refl s
    · exact .refl s
  all_goals exact .refl s

theorem terminationJudge_easing (s : State) : Easing s (terminationJudge s) := by
  unfold terminationJudge
  split
  · exact onCharge_easing _ s (by simp [ChargesKept])
  · exact .refl s

theorem chargeScan_easing (high throughout : Bool) (s : State) : Easing s (chargeScan high throughout s) := by
  have fault : ∀ u, Easing u (highFault high u) := by
    intro u
    unfold highFault
    split
    · exact chargeFault_easing _ u
    · exact .refl u
  have review : ∀ u, Easing u (scanReview u) := fun u =>
    ((windowReview_easing u).trans (chargeReview_easing _)).trans (refreshAsk_easing _)
  have progress : ∀ p u, Easing u (scanProgress p u) := by
    intro p u
    unfold scanProgress
    split
    · exact phaseProgress_easing u
    · exact .refl u
  have conclusion : ∀ p u, Easing u (scanConclusion p u) := by
    intro p u
    have judged := (refreshAsk_easing u).trans (switchJudge_easing _)
    unfold scanConclusion
    dsimp only
    split
    · exact judged.trans (terminationJudge_easing _)
    · exact judged
  rw [chargeScan_eq]
  exact ((fault s).trans (supplyGuard_easing _ _)).trans (((review _).trans (progress _ _)).trans (conclusion _ _))

/-! ### The rail and the power-state controller -/

theorem railJudge_railKept (s : State) : RailKept s.attach (railJudge s).attach := by
  unfold railJudge RailKept
  rw [onAttach_attach]
  (repeat' split) <;> simp

theorem railJudge_easing (s : State) : Easing s (railJudge s) where
  toBetween := .of_kept (by simp)
  time := by simp
  mode := by simp
  conflict := by simp
  drive := .inl (by simp)
  rail := railJudge_railKept s
  charges := by simp [ChargesKept]

theorem powerJudge_easing (s : State) : Easing s (powerJudge s) := by
  have pack := (powerJudge_settling s).pack
  have cells : (powerJudge s).pack.cells = s.pack.cells := by
    unfold powerJudge enterAwakeOrDoze powerTimers
    (repeat' split) <;> simp
  exact .of_kept (by rw [pack]; simp [cells])

theorem handDrive_easing (s : State) : Easing s (handDrive s) :=
  (switchJudge_easing s).trans (powerJudge_easing _)

theorem handCharge_easing (s : State) : Easing s (handCharge s) :=
  (chargeSettle_easing s).trans (powerJudge_easing _)

/-! ### The hold unit -/

/-- The first part of a handing of reasons: the outputs are formed, and a stop-suction that begins zeroes the target
(R35, R170). -/
def handStopSuction (s : State) : State :=
  if (formHolds s).hold.stopSuction && !s.hold.stopSuction then zeroTarget (formHolds s) else formHolds s

theorem handReasons_eq (s : State) :
    handReasons s = powerJudge (railJudge (handStopCharge s.hold.stopCharge (handStopSuction s))) := rfl

theorem handStopSuction_easing (s : State) : Easing s (handStopSuction s) := by
  unfold handStopSuction
  split
  case isTrue => exact { zeroTarget_easing (formHolds s) with
    stopped := fun _ => .inr (by simp [zeroTarget_allow])
    closed := fun h => .inl (by simpa using h) }
  case isFalse h => exact .of_kept (by simpa using h)

theorem handStopCharge_easing (b : Bool) (s : State) : Easing s (handStopCharge b s) := by
  unfold handStopCharge
  split
  · exact switchJudge_easing s
  · exact chargeSettle_easing s

theorem handReasons_easing (s : State) : Easing s (handReasons s) := by
  rw [handReasons_eq]
  exact (((handStopSuction_easing s).trans (handStopCharge_easing _ _)).trans (railJudge_easing _)).trans
    (powerJudge_easing _)

/-! ### The end of an event -/

theorem publish_easing (s0 s : State) : Easing s (publish s0 s) := .of_kept (by simp)

theorem Easing.publish {s t : State} (s0 : State) (h : Easing s t) : Easing s (publish s0 t) :=
  h.trans (publish_easing s0 t)

end Sys2Proof.Proofs
end

section
/-! ## A relation that every event keeps, and the steps of an invariant

What an event is made of (time, its effect, what it tells the line) and what a step is made of (the load, a command, an
idle tick) are taken apart once, for any relation and any invariant. -/

namespace Sys2Proof.Proofs
open Sys2Proof.Machine Sys2Proof.Safety

/-- A relation between the states before and after that time and the line keep, and that chains. -/
structure EventRelation (R : State → State → Prop) : Prop where
  refl : ∀ s, R s s
  trans : ∀ {s t u}, R s t → R t u → R s u
  elapse : ∀ n s, R s (elapse n s)
  publish : ∀ s0 s, R s (publish s0 s)

/-- Whatever a command answers with is related to the state before. -/
def AnswersWith (R : State → State → Prop) (o : Out) (s : State) : Prop := ∀ t, o = .next t → R s t

theorem answersWith_next {R : State → State → Prop} {s t : State} (h : R s t) : AnswersWith R (.next t) s := by
  intro u hu
  cases hu
  exact h

namespace EventRelation
variable {R : State → State → Prop} (e : EventRelation R)
include e

theorem stay (s : State) : AnswersWith R (.next s) s := answersWith_next (e.refl s)

theorem nextIf {c : Prop} [Decidable c] {s t : State} (h : R s t) : AnswersWith R (.next (if c then t else s)) s := by
  split
  · exact answersWith_next h
  · exact e.stay s

theorem runTo (d : Nat) (s : State) : R s (runTo d s) := by
  unfold Machine.runTo
  split
  · exact e.refl s
  · exact e.elapse _ s

theorem runToSecond (d : Nat) (s : State) : R s (runToSecond d s) := by
  unfold Machine.runToSecond
  split
  · exact e.refl s
  · exact e.elapse _ s

theorem runToSteady (d : Nat) (s : State) : R s (runToSteady d s) := by
  unfold Machine.runToSteady
  split
  · exact e.refl s
  · exact e.elapse _ s

section
variable {f : State → State} (hf : ∀ s, R s (f s))
include hf

theorem asEvent (s : State) : R s (asEvent f s) := e.trans (hf s) (e.publish s _)

theorem finish (s : State) : AnswersWith R (finish f s) s := answersWith_next (e.asEvent hf s)

theorem finishIf (c : Bool) (s : State) : AnswersWith R (finishIf c f s) s := by
  cases c
  · exact e.stay s
  · exact e.finish hf s

theorem onTimer (d : Option Nat) (s : State) : AnswersWith R (onTimer d f s) s := by
  cases d with
  | none => exact e.stay s
  | some d => exact e.finish (fun s => e.trans (e.runTo d s) (hf _)) s

theorem onTimerQuietly (d : Option Nat) (s : State) : AnswersWith R (onTimerQuietly d f s) s := by
  cases d with
  | none => exact e.stay s
  | some d => exact answersWith_next (e.trans (e.runTo d s) (hf _))

end

/-- A handling: the notice leaves the queue, a record may leave the table, and the notice's own events follow; or
TABLE_FULL is raised (R120, R134, R151). -/
theorem handledBy {act : Notice → Table → State → State} (drop : ∀ s, R s (dropOldest s))
    (set : ∀ tb s, R s (setTable tb s)) (full : ∀ s, R s (raise .tableFull s)) (hact : ∀ n tb s, R s (act n tb s))
    (kind : Notice → Bool) (s : State) : AnswersWith R (handledBy kind act s) s := by
  have evicted : ∀ n u, R u (evict n u) := by
    intro n u
    unfold evict
    split
    · exact e.asEvent (set _) u
    · exact e.refl u
  intro t ht
  obtain ⟨-, rfl⟩ | ⟨n, -, ⟨tb, -, rfl⟩ | ⟨-, rfl⟩⟩ := handledBy_cases kind act s t ht
  · exact e.refl t
  · exact e.trans (drop s) (e.trans (evicted n _) (hact n tb _))
  · exact e.trans (drop s) (e.asEvent full _)

end EventRelation

/-- An invariant beside the law of the load: it holds after a power-on and at the end of the load, every other command
keeps it with the configuration, and the idle step and the queue do not touch it. -/
theorem step_keeps {P : State → Prop}
    (reset : ∀ time pins free pending, P (resetWith time pins free pending))
    (load : ∀ b time pins free pending, P (loadEnd b (resetWith time pins free pending)))
    (command : ∀ c s t, c ≠ .powerOn → (∀ b, c ≠ .configLoadEnd b) → P s → exec c s = .next t →
      t.loader = s.loader ∧ P t)
    (queue : ∀ s q, P s → P { s with pending := q }) (tick : ∀ s, P s → P (elapse 1 s))
    {s t : State} (loading : lawLoading s) (holds : P s) (stepped : step s = .next t) : lawLoading t ∧ P t := by
  unfold step at stepped
  split at stepped
  case h_2 =>
    cases stepped
    refine ⟨lawLoading_idle loading, ?_⟩
    unfold idle
    split
    · exact queue s _ holds
    · exact tick s holds
  case h_1 c rest _ =>
    have holds := queue s rest holds
    have loading : lawLoading { s with pending := rest } := fun hl =>
      congrArg (fun u : State => { u with pending := rest }) (loading hl)
    generalize ({ s with pending := rest } : State) = s at *
    cases hload : s.loader.loading
    case true =>
      rw [eq_resetWith loading hload] at stepped
      obtain ⟨b, rfl⟩ | ⟨time, pins, answered⟩ := exec_resetWith c s.time s.pins s.free s.pending
      · cases stepped
        exact ⟨fun hl => absurd hl (by simp [loadEnd, resetWith, State.reset]), load b _ _ _ _⟩
      · cases answered.symm.trans stepped
        exact ⟨lawLoading_resetWith _ _ _ _, reset _ _ _ _⟩
    case false =>
      by_cases hp : c = .powerOn
      · subst hp
        cases stepped
        exact ⟨lawLoading_resetWith _ _ _ _, reset _ _ _ _⟩
      by_cases hb : ∃ b, c = .configLoadEnd b
      · obtain ⟨b, rfl⟩ := hb
        simp only [exec, execConfigLoadEnd, hload] at stepped
        cases stepped
        exact ⟨loading, holds⟩
      · obtain ⟨loader, kept⟩ := command c s t hp (fun b hc => hb ⟨b, hc⟩) holds stepped
        exact ⟨fun hl => by simp [loader, hload] at hl, kept⟩

end Sys2Proof.Proofs
end

section
/-! ## Every command but a scan completion lies between two computations -/

namespace Sys2Proof.Proofs
open Sys2Proof.Machine Sys2Proof.Safety

/-! ### Blocks that the allowance does not read -/

theorem onLine_between (f : Line → Line) (s : State) : Between s (s.onLine f) := .of_kept (by simp)

theorem onReport_between (f : Report → Report) (s : State) : Between s (s.onReport f) := .of_kept (by simp)

theorem onDrive_between (f : Drive → Drive) (s : State) : Between s (s.onDrive f) := .of_kept (by simp)

theorem onDirt_between (f : Dirt → Dirt) (s : State) : Between s (s.onDirt f) := .of_kept (by simp)

theorem onAttach_between (f : Attach → Attach) (s : State) : Between s (s.onAttach f) := .of_kept (by simp)

theorem onPins_between (f : Pins → Pins) (s : State) : Between s (s.onPins f) := .of_kept (by simp)

theorem onCharge_between (f : Charge → Charge) (s : State) (hf : (f s.charge).switch = s.charge.switch) :
    Between s (s.onCharge f) := .of_kept (by simp [hf])

theorem raise_between (f : Flag) (s : State) : Between s (raise f s) := (raise_easing f s).toBetween

theorem handReasons_between (s : State) : Between s (handReasons s) := (handReasons_easing s).toBetween

theorem powerJudge_between (s : State) : Between s (powerJudge s) := (powerJudge_easing s).toBetween

theorem railJudge_between (s : State) : Between s (railJudge s) := (railJudge_easing s).toBetween

theorem handDrive_between (s : State) : Between s (handDrive s) := (handDrive_easing s).toBetween

theorem handCharge_between (s : State) : Between s (handCharge s) := (handCharge_easing s).toBetween

theorem pushHistory_between (k : FaultKind) (s : State) : Between s (pushHistory k s) :=
  (pushHistory_easing k s).toBetween

theorem onReasons_between (f : Reasons → Reasons) (s : State) : Between s (onReasons f s) :=
  Between.trans (.of_kept (by simp)) (handReasons_between _)

theorem setQ_between (q : Nat) (s : State) : Between s (setQ q s) := .of_kept (by simp [setQ])

theorem between_events : EventRelation Between where
  refl := .refl
  trans := .trans
  elapse := fun _ _ => .of_kept (by simp)
  publish := fun s0 s => (publish_easing s0 s).toBetween

/-! ### The drive and the charge controller -/

theorem enterStopped_between (s : State) : Between s (enterStopped s) := .of_kept (by simp)

theorem driveFault_between (k : FaultKind) (s : State) : Between s (driveFault k s) := by
  have latched : Between s (raise .driveFault (quietDrive .fault (pushHistory k s))) :=
    (pushHistory_between k s).trans (.of_kept (by simp))
  unfold driveFault
  dsimp only
  split
  · exact latched.trans (onReasons_between _ _)
  · exact (latched.trans (enterStopped_between _)).trans (onReasons_between _ _)

theorem faultOrCoast_between (c : Prop) [Decidable c] (k : FaultKind) (s : State) :
    Between s (if c then driveFault k s else handDrive (enterCoast true s)) := by
  split
  · exact driveFault_between k s
  · exact Between.trans (.of_kept (by simp)) (handDrive_between _)

theorem takeDesync_between (s : State) : Between s (takeDesync s) :=
  (onDrive_between _ s).trans (faultOrCoast_between _ _ _)

theorem failRamp_between (s : State) : Between s (failRamp s) :=
  (onDrive_between _ s).trans (faultOrCoast_between _ _ _)

theorem endCoast_between (s : State) : Between s (endCoast s) := by
  unfold endCoast
  split
  · exact Between.trans (.of_kept (by simp)) (handDrive_between _)
  · exact (enterStopped_between s).trans (handDrive_between _)

theorem captureEdge_between (p : MotorPhase) (e : Edge) (s : State) : Between s (captureEdge p e s) := by
  unfold captureEdge
  (repeat' split) <;> exact .of_kept (by simp)

theorem expireWindow_between (s : State) : Between s (expireWindow s) := by
  unfold expireWindow
  split <;> exact .of_kept (by simp)

theorem chargeDone_between (s : State) : Between s (chargeDone s) :=
  (((((enterPhase_easing .done s).trans (refreshAsk_easing _)).trans (switchJudge_easing _)).toBetween.trans
    (setQ_between _ _)).trans (onCharge_between _ _ rfl)).trans (raise_between _ _)

theorem deliver_between (q : Int) (s : State) : Between s (deliver q s) :=
  (Between.trans (.of_kept (by simp)) (setQ_between _ _)).trans (onCharge_between _ _ rfl)

theorem stepAsk_between (s : State) : Between s (stepAsk s) := by
  unfold stepAsk
  (repeat' split)
  · exact .refl s
  · exact (changeAsk_easing _ s).toBetween
  · exact .refl s

theorem regulateAsk_between (s : State) : Between s (regulateAsk s) :=
  ((onCharge_between _ s rfl).trans (stepAsk_between _)).trans (switchJudge_easing _).toBetween

theorem supplyEvent_between (p : SupplyPart) (s : State) : Between s (supplyEvent p s) := by
  have echoed : ∀ (a : Charge → Bool) (e : Charge → Option Nat), Between s
      (s.onCharge fun c => { c with supplyLost := false, awaiting := a c, echoTimer := e c }) :=
    fun _ _ => onCharge_between _ s rfl
  have faulted : ∀ u, Between u
      (if p.state = .fault && u.charge.phase.charging then chargeFault .dockFault u else u) := by
    intro u
    split
    · exact (chargeFault_easing _ u).toBetween
    · exact .refl u
  exact (echoed _ _).trans (faulted _)

theorem undock_between (b : Bool) (s : State) : Between s (undock b s) := by
  have asked : Between s (if b && s.charge.phase.charging then putSlot .ask Ask.disabled.payload s else s) := by
    split
    · exact .of_kept (by simp)
    · exact .refl s
  exact (asked.trans (.of_kept (by simp [openBleeds]))).trans (switchJudge_easing _).toBetween

theorem dockIn_between (s : State) : Between s (dockIn s) :=
  (enterPhase_easing .waiting s).toBetween.trans (onCharge_between _ _ rfl)

/-! ### The station table and the head -/

theorem leaveFault_between (s : State) : Between s (leaveFault s) := .of_kept (by simp)

theorem latchTest_between (s : State) : Between s (latchTest s) := by
  unfold latchTest
  split
  · exact (leaveFault_between s).trans (onReasons_between _ _)
  · exact .refl s

theorem handTable_between (t0 : Table) (s : State) : Between s (handTable t0 s) := by
  have latch : Between s (if s.table.wish = t0.wish then s else latchTest s) := by
    split
    · exact .refl s
    · exact latchTest_between s
  have holds : ∀ u, Between u (if u.table.heardUnion u.cfg.holdStations = u.hold.heard then u else handReasons u) := by
    intro u
    split
    · exact .refl u
    · exact handReasons_between u
  have dock : ∀ u, Between u (if tellsDock t0.dockRecord u.table.dockRecord then handCharge u else powerJudge u) := by
    intro u
    split
    · exact handCharge_between u
    · exact powerJudge_between u
  exact (latch.trans (holds _)).trans (dock _)

theorem setTable_between (tb : Table) (s : State) : Between s (setTable tb s) :=
  Between.trans (.of_kept (by simp)) (handTable_between _ _)

theorem removal_between (s : State) : Between s (removal s) := by
  unfold removal
  exact (Between.trans (.of_kept (by simp)) (setTable_between _ _)).trans (onReasons_between _ _)

theorem judgeContacts_between (s : State) : Between s (judgeContacts s) := by
  unfold judgeContacts
  (repeat' split)
  · exact .of_kept (by simp)
  · exact .refl s
  · exact .refl s
  · exact removal_between s
  · exact .refl s

/-! ### SLEEP, SHIP and the wake -/

theorem quietTarget_between (s : State) : Between s (quietTarget s) := by
  have zeroed : Between s ((zeroTarget s).onAllow fun a => { a with mode := .off }) :=
    (zeroTarget_easing s).toBetween.trans (.of_kept (by simp))
  unfold quietTarget
  dsimp only
  split
  · exact zeroed
  · exact zeroed.trans (.of_kept (by simp))

theorem quietTarget_target (s : State) : (quietTarget s).allow.target = 0 := by
  unfold quietTarget
  dsimp only
  split <;> simp [zeroTarget_allow]

/-- Every block quiets with the target at 0, so stop-suction may begin (R36, R185). -/
theorem quiet_between (p : PowerState) (s : State) : Between s (quiet p s) := by
  have readings : (s.pack.quieted).cells.map (·.vc) = s.pack.cells.map (·.vc) := by
    simp [Pack.quieted, Function.comp_def, Cell.quieted]
  have pack : Between s (s.onPack Pack.quieted) := .of_kept (by simpa [Pack.quieted] using readings)
  have undocked := (pack.trans (quietTarget_between _)).trans (undock_between false _)
  have still : (undock false (quietTarget (s.onPack Pack.quieted))).allow.target = 0 :=
    (undock_between false _).target.elim (·.trans (quietTarget_target _)) id
  unfold quiet
  exact undocked.trans {
    loader := by simp
    share := by simp
    low := by simp
    pAllow := .inl (by simp)
    target := .inl (by simp)
    closed := fun h => .inl (by simpa using h)
    stopped := fun _ => .inr (by simpa using still)
    limit := packLimit_of_kept (by simp) (by simp) (by simp) }

theorem judgeDockPin_between (s : State) : Between s (judgeDockPin s) := .of_kept (by simp)

theorem wake_between (s : State) : Between s (wake s) := by
  have started : Between s (startDozeTimers (orderBreak (orderStartScan
      ((s.onPower fun p => { p with state := .doze }).onPack fun p => { p with direct := true })))) :=
    .of_kept (by simp [startDozeTimers, orderStartScan])
  exact (((started.trans (judgeDockPin_between _)).trans (judgeContacts_between _)).trans
    (railJudge_between _)).trans (powerJudge_between _)

theorem wakeByLevel_between (s : State) : Between s (wakeByLevel s) := by
  unfold wakeByLevel
  split
  · exact (wake_between s).trans (.of_kept (by simp))
  · exact .refl s

theorem enterSleep_between (s : State) : Between s (enterSleep s) := (quiet_between _ s).trans (wakeByLevel_between _)

theorem enterShip_between (s : State) : Between s (enterShip s) := (quiet_between _ s).trans (wakeByLevel_between _)

theorem endStarting_between (s : State) : Between s (endStarting s) := by
  have timers : ∀ f g, Between s ((startDozeTimers (s.onPower f)).onPack fun p => { p with scanTimer := g }) :=
    fun f g => .of_kept (by simp [startDozeTimers])
  exact ((((timers _ _).trans (judgeDockPin_between _)).trans (judgeContacts_between _)).trans
    (railJudge_between _)).trans (powerJudge_between _)

theorem giveShipOrder_between (s : State) : Between s (giveShipOrder s) := by
  unfold giveShipOrder
  dsimp only
  (repeat' split)
  · exact .refl s
  · exact onReport_between _ s
  · exact (onReport_between _ s).trans (enterShip_between _)

theorem thenShip_between (b : Bool) (s : State) : Between s (thenShip b s) := by
  cases b
  · exact .refl s
  · exact giveShipOrder_between s

theorem putReport_between (p : List Byte) (s : State) : Between s (putReport p s) :=
  Between.trans (.of_kept (by simp)) (thenShip_between _ _)

theorem conflictEvidence_between (s : State) : Between s (conflictEvidence s) :=
  Between.trans (.of_kept (by simp)) (handReasons_between _)

/-! ### Notices -/

/-- A handling of a notice, one of whose events is `act`. -/
theorem handledBy_between {act : Notice → Table → State → State} (hact : ∀ n tb s, Between s (act n tb s))
    (kind : Notice → Bool) (s : State) : AnswersWith Between (handledBy kind act s) s :=
  between_events.handledBy (onLine_between _) setTable_between (raise_between _) hact kind s

theorem handled_between {act : Notice → Table → State → State} (hact : ∀ n tb s, Between s (act n tb s))
    (kind : Notice → Bool) (s : State) : AnswersWith Between (handled kind act s) s :=
  handledBy_between (fun n tb => between_events.asEvent (hact n tb)) kind s

theorem actEntry_between (n : Notice) (tb : Table) (s : State) : Between s (actEntry n tb s) := setTable_between tb s

theorem actRequest_between (n : Notice) (tb : Table) (s : State) : Between s (actRequest n tb s) :=
  (setTable_between tb s).trans (.of_kept (by simp [actRequest]))

theorem actSupply_between (n : Notice) (tb : Table) (s : State) : Between s (actSupply n tb s) := by
  have entered : Between s (s.onTable fun _ => tb) := .of_kept (by simp)
  exact ((entered.trans (supplyEvent_between _ _)).trans (handTable_between _ _)).trans (handCharge_between _)

theorem actAnswer_between (form : Notice → State → List Byte) (n : Notice) (tb : Table) (s : State) :
    Between s (actAnswer form n tb s) := (setTable_between tb s).trans (putReport_between _ _)

theorem actSample_between (n : Notice) (tb : Table) (s : State) : Between s (actSample n tb s) :=
  ((setTable_between tb s).trans (onDirt_between _ _)).trans (putReport_between _ _)

theorem actAction_between {act : State → State} (hact : ∀ s, Between s (act s)) (n : Notice) (tb : Table)
    (s : State) : Between s (actAction act n tb s) := by
  have answered : ∀ u, Between u (answerAction act n u) := by
    intro u
    unfold answerAction
    split
    · exact (hact u).trans (putReport_between _ _)
    · exact putReport_between _ u
  exact (between_events.asEvent (setTable_between tb) s).trans (between_events.asEvent answered _)

theorem acceptShip_between (n : Notice) (s : State) : Between s (acceptShip n s) := by
  have answered := putReport_between (bareAnswer n .ok) s
  unfold acceptShip
  dsimp only
  split
  · exact answered
  · exact answered.trans (onReport_between _ _)

theorem actShip_between (n : Notice) (tb : Table) (s : State) : Between s (actShip n tb s) := by
  refine (setTable_between tb s).trans ?_
  unfold actShip
  dsimp only
  split
  · exact acceptShip_between n _
  · exact putReport_between _ _

theorem receiveNotice_between (chars : List Byte) (s : State) : Between s (receiveNotice chars s) := by
  refine (onLine_between (fun l =>
    { l with reception := none, recessiveFrom := some s.now, dominantFrom := none, risesAt := none }) s).trans ?_
  unfold receiveNotice judgeNotice offerNotice
  (repeat' split)
  · exact conflictEvidence_between _
  · exact onLine_between _ _
  · exact raise_between _ _
  · exact .refl _
  · exact .refl _

/-! ### The line -/

theorem lostAttempts_between (s : State) : Between s (loseUnsettled (loseAttempt s)) := .of_kept (by simp)

theorem becomeIdle_between (s : State) : Between s (becomeIdle s) := by
  have counted : ∀ (u : Unsettled) (x : State), Between x (countError u x) := by
    intro u x
    have begun : Between x (outcome u.slot .lost (x.onLine fun l => { l with unsettled := none })) :=
      .of_kept (by simp)
    unfold countError
    dsimp only
    split
    · exact begun.trans (onLine_between _ _)
    · exact ((begun.trans (onLine_between _ _)).trans (conflictEvidence_between _)).trans (thenShip_between _ _)
  refine (onLine_between (fun l =>
    { l with state := .idle, reception := none, dominantFrom := none, risesAt := none }) s).trans ?_
  unfold becomeIdle settle
  split
  · exact counted _ _
  · exact .refl _

theorem loseHeader_between (s : State) : Between s (loseHeader s) :=
  Between.trans (.of_kept (by simp)) (thenShip_between _ _)

theorem endErrored_between (a : Attempt) (s : State) : Between s (endErrored a s) :=
  Between.trans (.of_kept (by simp)) (thenShip_between _ _)

theorem completeAttempt_between (a : Attempt) (s : State) : Between s (completeAttempt a s) :=
  Between.trans (.of_kept (by simp)) (thenShip_between _ _)

theorem holdAtBreak_between (s : State) : Between s (holdAtBreak s) := by
  unfold holdAtBreak
  split
  · exact .of_kept (by simp)
  · exact .refl s

theorem takeBreak_between (s : State) : Between s (takeBreak s) := by
  have put : ∀ u, Between u (putState (raise .lineReset u)) := fun u => .of_kept (by simp)
  exact ((((((lostAttempts_between s).trans (onLine_between _ _)).trans (setTable_between _ _)).trans
    (put _)).trans (holdAtBreak_between _)).trans (onLine_between _ _)).trans (thenShip_between _ _)

theorem releaseBreak_between (s : State) : Between s (releaseBreak s) := by
  refine (onLine_between (fun l =>
    { l with ownBreak := none, state := if l.state = .busy then .inBreak else l.state }) s).trans ?_
  unfold releaseBreak
  dsimp only
  split
  · exact endStarting_between _
  · exact .refl _

theorem stickLine_between (s : State) : Between s (stickLine s) :=
  (((lostAttempts_between s).trans (onLine_between _ _)).trans (handReasons_between _)).trans (thenShip_between _ _)

theorem recoverLine_between (s : State) : Between s (recoverLine s) :=
  (onLine_between _ s).trans (handReasons_between _)

theorem fallingEdge_between (low : Option Nat) (s : State) : Between s (fallingEdge low s) := by
  unfold fallingEdge
  (repeat' split) <;> exact .of_kept (by simp)

/-! ### The dock, the contacts and the rail -/

theorem dockRise_between (mv : Nat) (s : State) : Between s (dockRise mv s) := by
  have settles : ∀ u : State, Between u (if u.attach.dock = .undocked then dockSettles u else u) := by
    intro u
    split
    · exact .of_kept (by simp)
    · exact .refl u
  refine (onPins_between (fun p => { p with dockMv := mv }) s).trans ?_
  unfold dockRise
  dsimp only
  split
  case h_1 => exact settles _
  case h_2 => exact settles _
  case h_3 => exact wake_between _
  case h_4 => exact wake_between _
  case h_5 => exact .refl _

theorem leaveDock_between (s : State) : Between s (leaveDock s) :=
  (((onAttach_between _ s).trans (raise_between _ _)).trans (undock_between _ _)).trans (handReasons_between _)

theorem dockFall_between (mv : Nat) (s : State) : Between s (dockFall mv s) := by
  refine (onPins_between (fun p => { p with dockMv := mv }) s).trans ?_
  unfold dockFall
  dsimp only
  (repeat' split)
  · exact onAttach_between _ _
  · exact leaveDock_between _
  all_goals exact .refl _

theorem settleDock_between (s : State) : Between s (settleDock s) :=
  ((((onAttach_between _ s).trans (raise_between _ _)).trans (dockIn_between _)).trans
    (chargeSettle_easing _).toBetween).trans (handReasons_between _)

theorem resendAsk_between (s : State) : Between s (resendAsk s) := .of_kept (by simp [resendAsk])

theorem unresponsive_between (s : State) : Between s (unresponsive s) :=
  (onCharge_between _ s rfl).trans (handCharge_between _)

theorem contactsAsleep_between (h1 h2 : Bool) (s : State) : Between s (contactsAsleep h1 h2 s) := by
  obtain ⟨-, eq⟩ | ⟨-, eq⟩ := contactsAsleep_cases h1 h2 s
  · rw [eq]
    exact .refl s
  · rw [eq]
    exact (onPins_between _ s).trans (wake_between _)

theorem headFits_between (s : State) : Between s (headFits s) := by
  unfold headFits
  split
  · exact .of_kept (by simp)
  · exact .refl s

theorem contactsFall_between (s : State) : Between s (contactsFall s) := by
  unfold contactsFall
  split
  case h_1 => exact (onPins_between _ s).trans (headFits_between _)
  case h_2 => exact (onPins_between _ s).trans (headFits_between _)
  case h_3 => exact contactsAsleep_between _ _ s
  all_goals exact onPins_between _ s

theorem headLets_between (s : State) : Between s (headLets s) := by
  unfold headLets
  split
  · exact .refl s
  · exact onAttach_between _ s
  · exact removal_between s

theorem contactRises_between (h1 h2 : Bool) (s : State) : Between s (contactRises h1 h2 s) := by
  unfold contactRises
  split
  case h_1 => exact (onPins_between _ s).trans (headLets_between _)
  case h_2 => exact (onPins_between _ s).trans (headLets_between _)
  case h_3 => exact contactsAsleep_between _ _ s
  all_goals exact onPins_between _ s

theorem seatHead_between (s : State) : Between s (seatHead s) :=
  ((onAttach_between _ s).trans (raise_between _ _)).trans (railJudge_between _)

theorem latchShort_between (s : State) : Between s (latchShort s) :=
  (pushHistory_between _ s).trans (onReasons_between _ _)

theorem latchOverdraw_between (s : State) : Between s (latchOverdraw s) := by
  refine ((onAttach_between (fun a => { a with excess := false, overdrawTimer := none }) s).trans
    (raise_between .overdraw _)).trans ?_
  unfold latchOverdraw
  dsimp only
  split
  · exact .refl _
  · exact (pushHistory_between _ _).trans (onReasons_between _ _)

/-! ### The commands -/

/-- Every command but POWER_ON, the end of the load and a scan completion lies between two computations (R23). -/
theorem exec_between (c : Instr) (s : State) (hp : c ≠ .powerOn) (hl : ∀ b, c ≠ .configLoadEnd b)
    (hs : ∀ r, c ≠ .scanCompletion r) : AnswersWith Between (exec c s) s := by
  have e := between_events
  cases c with
  | powerOn => contradiction
  | configLoadEnd b => exact absurd rfl (hl b)
  | scanCompletion r => exact absurd rfl (hs r)
  | scanTimerExpiry => exact e.onTimerQuietly (f := startTimedScan) (fun s => .of_kept (by simp [startTimedScan])) _ s
  | cellConversionsEnd => exact answersWith_next (.of_kept (by simp))
  | chargeDelivery m => exact e.onTimer (deliver_between m) _ s
  | periodStart mv ma low => exact e.nextIf ((e.runTo _ s).trans (onDrive_between _ _))
  | busCurrentTrip ma => exact e.nextIf (onDrive_between _ s)
  | overcurrent => exact e.finishIf (driveFault_between _) _ s
  | undervoltageTimerExpiry => exact e.onTimer (driveFault_between _) _ s
  | alignTimerExpiry => exact e.onTimer (f := enterRamp) (fun s => .of_kept (by simp)) _ s
  | forcedCommutation =>
    unfold exec execForcedCommutation
    dsimp only
    split
    · exact e.onTimerQuietly (f := nextForced) (fun s => .of_kept (by simp [nextForced])) _ s
    · exact e.stay s
  | comparatorCapture after p edge =>
    exact e.finishIf (fun s => (e.runTo _ s).trans (captureEdge_between p edge _)) _ s
  | commutationCompareExpiry =>
    exact e.onTimerQuietly (f := commutateOnCompare) (fun s => .of_kept (by simp [commutateOnCompare])) _ s
  | missedCrossingDeadline =>
    exact e.onTimerQuietly (f := missCrossing) (fun s => .of_kept (by simp [missCrossing])) _ s
  | desync => exact e.finishIf takeDesync_between _ s
  | rampTimerExpiry => exact e.onTimer failRamp_between _ s
  | controlExpiry => exact e.onTimerQuietly (f := controlStep) (fun s => .of_kept (by simp [controlStep])) _ s
  | blockedSet => exact e.onTimer (fun s => (onDrive_between _ s).trans (raise_between _ _)) _ s
  | blockedClear => exact e.onTimer (onDrive_between _) _ s
  | runSecond => exact e.nextIf (onDrive_between _ s)
  | coastTimerExpiry => exact e.onTimer endCoast_between _ s
  | envelopeSample code => exact e.onTimerQuietly (f := takeSample code) (fun s => onDirt_between _ s) _ s
  | scoringCompletion => exact answersWith_next (onDirt_between _ s)
  | windowExpiry => exact e.onTimer expireWindow_between _ s
  | dockInputRise mv => exact e.finishIf (dockRise_between mv) _ s
  | dockInputFall mv => exact e.finishIf (dockFall_between mv) _ s
  | settleTimerExpiry => exact e.onTimer settleDock_between _ s
  | resendTimerExpiry => exact e.onTimer resendAsk_between _ s
  | echoTimerExpiry => exact e.onTimer unresponsive_between _ s
  | regulationExpiry => exact e.onTimer regulateAsk_between _ s
  | terminationTimerExpiry => exact e.onTimer (fun s => (chargeDone_between s).trans (powerJudge_between _)) _ s
  | prechargeTimerExpiry =>
    exact e.onTimer (fun s => (chargeFault_easing _ s).toBetween.trans (powerJudge_between _)) _ s
  | totalTimerExpiry =>
    exact e.onTimer (fun s => (chargeFault_easing _ s).toBetween.trans (powerJudge_between _)) _ s
  | noticeReceived chars => exact e.finishIf (receiveNotice_between chars) _ s
  | hold => exact handled_between actEntry_between _ s
  | request => exact handled_between actRequest_between _ s
  | supply => exact handled_between actSupply_between _ s
  | draw => exact handled_between actEntry_between _ s
  | headDirt => exact handled_between actEntry_between _ s
  | otherClassNotice => exact handled_between actEntry_between _ s
  | ident => exact handled_between (actAnswer_between _) _ s
  | runs => exact handled_between (actAnswer_between _) _ s
  | modeTime => exact handled_between (actAnswer_between _) _ s
  | chargeCounts => exact handled_between (actAnswer_between _) _ s
  | cellsA => exact handled_between (actAnswer_between _) _ s
  | cellsB => exact handled_between (actAnswer_between _) _ s
  | fault => exact handled_between (actAnswer_between _) _ s
  | sample => exact handled_between actSample_between _ s
  | holds => exact handled_between (actAnswer_between _) _ s
  | table => exact handled_between (actAnswer_between _) _ s
  | masterOn => exact handledBy_between (actAction_between (onReasons_between _)) _ s
  | masterOff => exact handledBy_between (actAction_between (onReasons_between _)) _ s
  | clearHistory => exact handledBy_between (actAction_between fun s => .of_kept (by simp)) _ s
  | ship => exact handled_between actShip_between _ s
  | unknownItem => exact handled_between (actAnswer_between _) _ s
  | lineIdle => exact e.finishIf (fun s => (e.runTo _ s).trans (becomeIdle_between _)) _ s
  | headerLoss => exact e.finishIf loseHeader_between _ s
  | bitError =>
    unfold exec execBitError
    dsimp only
    split
    · exact e.finish (endErrored_between _) s
    · exact e.stay s
  | attemptCompletion =>
    unfold exec execAttemptCompletion
    dsimp only
    split
    · exact e.finish (fun s => (e.runTo _ s).trans (completeAttempt_between _ _)) s
    · exact e.stay s
  | shipOrderTimeout => exact e.onTimer giveShipOrder_between _ s
  | breakInProgress =>
    unfold exec execBreakInProgress
    dsimp only
    split
    · exact e.onTimerQuietly (onLine_between _) _ s
    · exact e.stay s
  | breakTaken => exact e.finishIf (fun s => (e.runTo _ s).trans (takeBreak_between _)) _ s
  | ownBreakRelease => exact e.onTimer releaseBreak_between _ s
  | lineStuck =>
    unfold exec execLineStuck
    dsimp only
    split
    · exact e.onTimer stickLine_between _ s
    · exact e.stay s
  | stuckRecovery => exact e.finishIf (fun s => (e.runTo _ s).trans (recoverLine_between _)) _ s
  | conflictTimerExpiry => exact e.onTimer (fun s => (onLine_between _ s).trans (handReasons_between _)) _ s
  | stateCadenceExpiry => exact e.onTimer (f := putState) (fun s => .of_kept (by simp)) _ s
  | holdoffExpiry => exact e.onTimer (f := putState) (fun s => .of_kept (by simp)) _ s
  | holdCadenceExpiry => exact e.onTimer (f := putHold) (fun s => .of_kept (by simp)) _ s
  | recordStale st =>
    exact e.onTimer (f := fun s => setTable (s.table.update st fun r => { r with stale := true }) s)
      (fun s => setTable_between _ s) _ s
  | recordAgeRemoval st =>
    exact e.onTimer (f := fun s => setTable (s.table.remove st) (raise .stationLost s))
      (fun s => (raise_between _ s).trans (setTable_between _ _)) _ s
  | headContactsLow => exact e.finish contactsFall_between s
  | headContactHigh h1 h2 => exact e.finishIf (contactRises_between h1 h2) _ s
  | seatTimerExpiry => exact e.onTimer seatHead_between _ s
  | railOnTimerExpiry => exact e.onTimerQuietly (f := railOn) (fun s => onAttach_between _ s) _ s
  | headRailShort ma => exact e.finishIf latchShort_between _ s
  | overdrawTimerExpiry => exact e.onTimer latchOverdraw_between _ s
  | dozeTimerExpiry => exact e.onTimer enterSleep_between _ s
  | shipTimerExpiry =>
    unfold exec execShipTimerExpiry
    dsimp only
    split
    · exact e.finish (fun s => (e.runToSecond _ s).trans (enterShip_between _)) s
    · exact e.stay s
  | trigEdge edge => exact e.finishIf wake_between _ s
  | sleepBreak =>
    unfold exec execSleepBreak
    dsimp only
    split
    · exact e.finish (fun s => (e.runToSteady _ s).trans (wake_between _)) s
    · exact e.stay s
  | lineFallingEdge low => exact answersWith_next (fallingEdge_between low s)
  | framingError => exact e.nextIf (onLine_between _ s)
  | lengthTooGreat len => exact e.nextIf (onLine_between _ s)

end Sys2Proof.Proofs
end

section
/-! ## The share, P_allow and the target from step to step (R26, R28, R33)

A scan completion computes the allowance afresh, whatever the laws were before it; every other command lies between two
computations. -/

namespace Sys2Proof.Proofs
open Sys2Proof.Machine Sys2Proof.Safety

/-! ### A scan completion around its computation -/

/-- The events of a completion before the allowance unit's (R3, log 7). -/
def scanBefore (r : ScanReading) (s : State) : State :=
  asEvent (scanCharge r s) (asEvent (scanTemps r) (asEvent (scanPack r) s))

/-- The computation itself, with the excess judgement that follows it (R23, R180). -/
def allowanceFormed (s : State) : State := excessJudge (s.onAllow fun _ => s.computed)

theorem allowanceFormed_allow (s : State) : (allowanceFormed s).allow = s.computed := by simp [allowanceFormed]

/-- A completion is its events before the computation, the allowance unit's and, of the start scan, its end (R3, R183). -/
theorem completeScan_eq_before (r : ScanReading) (s : State) :
    completeScan r s = startScanEnd s.pack.startScan (asEvent scanAllowance (scanBefore r s)) := rfl

theorem scanAllowance_eq (s : State) :
    scanAllowance s = handReasons (handDrive (driveTarget (allowanceFormed s).allow.target (allowanceFormed s))) := rfl

theorem scanCharge_easing (r : ScanReading) (s0 s : State) : Easing s (scanCharge r s0 s) := by
  unfold scanCharge
  split
  · exact (chargeScan_easing _ _ s).trans (powerJudge_easing _)
  · exact .refl s

theorem scanTemps_curbing (r : ScanReading) (s : State) : Curbing s (scanTemps r s) := by
  have judged : Curbing s (packReasons s) := .of_kept (by simp [packReasons])
  unfold scanTemps
  split
  · exact judged.trans (handReasons_easing _).toCurbing
  · exact (Between.refl s).toCurbing

theorem scanPack_curbing (r : ScanReading) (s : State) : Curbing s (scanPack r s) := by
  have read : Curbing s (if ScanReading.accepted r then acceptScan r (clearScan s) else rejectScan (clearScan s)) := by
    split <;> exact .of_kept (by simp [clearScan])
  exact read.trans (handReasons_easing _).toCurbing

theorem scanBefore_curbing (r : ScanReading) (s : State) : Curbing s (scanBefore r s) := by
  have told : ∀ s0 u, Curbing u (publish s0 u) := fun s0 u => (publish_easing s0 u).toCurbing
  exact ((((((scanPack_curbing r s).trans (told _ _)).trans (scanTemps_curbing r _)).trans (told _ _)).trans
    (scanCharge_easing r s _).toCurbing).trans (told _ _))

theorem endStartScan_easing (s : State) : Easing s (endStartScan s) := by
  unfold endStartScan
  split
  · exact .of_kept (by simp [orderBreak])
  · exact .of_kept (by simp)

theorem startScanEnd_easing (b : Bool) (s : State) : Easing s (startScanEnd b s) := by
  cases b
  · exact .refl s
  · exact endStartScan_easing s

/-- From the computation on nothing but the two zeroings touches its results. -/
theorem completeScan_between (r : ScanReading) (s : State) :
    Between (allowanceFormed (scanBefore r s)) (completeScan r s) := by
  have arrived : ∀ u w, Between u (driveTarget w u) := fun u w => .of_kept (by simp)
  rw [completeScan_eq_before, asEvent, scanAllowance_eq]
  exact ((((arrived _ _).trans (handDrive_between _)).trans (handReasons_between _)).trans
    (publish_easing _ _).toBetween).trans (startScanEnd_easing _ _).toBetween

/-! ### The share and P_allow -/

theorem Between.cfg {s t : State} (h : Between s t) : t.cfg = s.cfg := by simp [State.cfg, h.loader]

theorem Between.lawShare {s t : State} (h : Between s t) (law : lawShare s) : lawShare t := by
  simpa [Safety.lawShare, h.share, h.cfg, h.limit] using law

theorem Between.lawAllowance {s t : State} (h : Between s t) (law : lawAllowance s) : lawAllowance t := by
  obtain ⟨bound, zero⟩ := law
  constructor
  · rcases h.pAllow with kept | zeroed <;> simp [h.cfg, *]
  · intro closed
    rcases h.closed closed with before | zeroed
    · exact h.pAllow.elim (·.trans (zero before)) id
    · exact zeroed

theorem allowanceFormed_packLimit (s : State) : (allowanceFormed s).packLimit = s.packLimit :=
  packLimit_of_kept (by simp [allowanceFormed]) (by simp [allowanceFormed]) (by simp [allowanceFormed])

theorem allowanceFormed_cfg (s : State) : (allowanceFormed s).cfg = s.cfg := by simp [State.cfg, allowanceFormed]

theorem allowanceFormed_lawShare (s : State) : lawShare (allowanceFormed s) := by
  simp [Safety.lawShare, allowanceFormed_allow, allowanceFormed_cfg, allowanceFormed_packLimit, State.computed,
    accessoryShare]

theorem allowance_le (c : Settings) (i v : Nat) (closed : Bool) : allowance c i v closed ≤ c.pMotorMax := by
  unfold allowance
  split <;> simp

theorem allowanceFormed_lawAllowance (s : State) : lawAllowance (allowanceFormed s) := by
  simp only [Safety.lawAllowance, allowanceFormed_allow, allowanceFormed_cfg]
  refine ⟨allowance_le _ _ _ _, fun closed => ?_⟩
  have closed : s.charge.switch = true := by simpa [allowanceFormed] using closed
  simp [State.computed, allowance, closed]

/-- A law of the allowance unit that the computation gives and that stays between computations: every command but
POWER_ON and the end of the load keeps it. -/
theorem exec_keeps_of_between {P : State → Prop} (between : ∀ {s t}, Between s t → P s → P t) {c : Instr} {s t : State}
    (scan : ∀ r, P s → P (allowanceFormed (scanBefore r s))) (hp : c ≠ .powerOn) (hl : ∀ b, c ≠ .configLoadEnd b)
    (holds : P s) (answered : exec c s = .next t) : t.loader = s.loader ∧ P t := by
  by_cases hs : ∃ r, c = .scanCompletion r
  · obtain ⟨r, rfl⟩ := hs
    by_cases idle : s.pack.scan = .none
    · simp only [exec, execScanCompletion, idle] at answered
      cases answered
      exact ⟨rfl, holds⟩
    · rw [exec_scanCompletion r s idle] at answered
      cases answered
      have after := completeScan_between r s
      refine ⟨after.loader.trans ?_, between after (scan r holds)⟩
      simpa [allowanceFormed] using (scanBefore_curbing r s).loader
  · have kept := exec_between c s hp hl (fun r hc => hs ⟨r, hc⟩) t answered
    exact ⟨kept.loader, between kept holds⟩

/-- Settles O7: a computation gives both laws, and between two of them the share stays and P_allow stays or becomes 0,
as it does where the switch closes. -/
theorem shareAndAllowanceLaws : Obligations.ShareAndAllowanceLaws := by
  rintro s t ⟨loading, share, allowance⟩ stepped
  refine step_keeps (P := fun s => lawShare s ∧ lawAllowance s) ?_ ?_ ?_ ?_ ?_ loading ⟨share, allowance⟩ stepped
  · exact fun _ _ _ _ => ⟨⟨Nat.zero_le _, Nat.zero_le _⟩, Nat.zero_le _, fun _ => rfl⟩
  · exact fun _ _ _ _ _ => ⟨⟨Nat.zero_le _, Nat.zero_le _⟩, Nat.zero_le _, fun _ => rfl⟩
  · intro c s t hp hl
    exact exec_keeps_of_between (P := fun s => lawShare s ∧ lawAllowance s)
      (fun h laws => ⟨h.lawShare laws.1, h.lawAllowance laws.2⟩)
      (fun r _ => ⟨allowanceFormed_lawShare _, allowanceFormed_lawAllowance _⟩) hp hl
  · exact fun _ _ laws => laws
  · exact fun s laws =>
      have tick := between_events.elapse 1 s
      ⟨tick.lawShare laws.1, tick.lawAllowance laws.2⟩

/-! ### The target -/

theorem Between.powersRaised {s t : State} (h : Between s t) (raised : powersRaised s) : powersRaised t := by
  simpa [Safety.powersRaised, h.cfg] using raised

theorem Between.lawTarget {s t : State} (h : Between s t) (law : lawTarget s) : lawTarget t := by
  obtain ⟨zero, range⟩ := law
  constructor
  · intro stop
    rcases h.stopped stop with before | zeroed
    · exact h.target.elim (·.trans (zero before)) id
    · exact zeroed
  · rcases h.target with kept | zeroed <;> simp [h.cfg, *]

/-- The slew of a raw target lies from P_run_min to it (R34). -/
theorem slew_bounds {pRunMin prev raw : Nat} (hraw : pRunMin ≤ raw) (hprev : prev = 0 ∨ pRunMin ≤ prev) :
    pRunMin ≤ slew pRunMin prev raw ∧ slew pRunMin prev raw ≤ raw := by
  unfold slew
  split
  · omega
  split <;> omega

theorem capped_le {b : Bool} {floor cap p : Nat} (hcap : floor ≤ cap) (hp : p = 0 ∨ floor ≤ p) :
    capped b cap p = 0 ∨ floor ≤ capped b cap p := by
  unfold capped
  split <;> omega

/-- A mode power is 0 or at or above P_run_min, the caps with it (R30, R31, R182). -/
theorem wantedPower_bounds {c : Settings} (eco : c.pRunMin ≤ c.pEco) (mid : c.pRunMin ≤ c.pMid)
    (boost : c.pRunMin ≤ c.pBoost) (auto : c.pRunMin ≤ c.pAutoBase) (m : Mode) (level soc : Nat) (blocked : Bool) :
    wantedPower c m level soc blocked = 0 ∨ c.pRunMin ≤ wantedPower c m level soc blocked := by
  refine capped_le eco (capped_le mid ?_)
  cases m with
  | off => exact .inl rfl
  | eco => exact .inr eco
  | mid => exact .inr mid
  | boost => exact .inr boost
  | auto => exact .inr (auto.trans (Nat.le_add_right _ _))

/-- LOW_ALLOWANCE is clear only where P_allow is at or above P_run_min (R32). -/
theorem le_of_lowAfter_eq_false {c : Settings} {p : Nat} {before : Bool} (h : lowAfter c p before = false) :
    c.pRunMin ≤ p := by
  unfold lowAfter at h
  split at h
  · simp at h
  · omega

/-- The target of a computation, from a target that was 0 or at or above P_run_min (R33, R34). -/
theorem allowanceFormed_lawTarget {s : State} (raised : powersRaised s)
    (prev : s.allow.target = 0 ∨ s.cfg.pRunMin ≤ s.allow.target) : lawTarget (allowanceFormed s) := by
  obtain ⟨eco, mid, boost, auto⟩ := raised
  have stop : (allowanceFormed s).hold.stopSuction = s.hold.stopSuction := by simp [allowanceFormed]
  simp only [Safety.lawTarget, allowanceFormed_allow, allowanceFormed_cfg, stop, State.computed, newTarget]
  split
  case isTrue => simp
  case isFalse clear =>
    simp only [Bool.or_eq_true, not_or, Bool.not_eq_true, decide_eq_true_eq] at clear
    obtain ⟨⟨stop, low⟩, wanted⟩ := clear
    have allowed := le_of_lowAfter_eq_false low
    have mode := (wantedPower_bounds eco mid boost auto _ _ _ _).resolve_left wanted
    have bounds := slew_bounds (le_min mode allowed) prev
    refine ⟨fun h => absurd h (by simp [stop]), .inr ⟨bounds.1, bounds.2.trans ((min_le_right _ _).trans ?_)⟩⟩
    exact allowance_le _ _ _ _

/-- The loader raises the mode powers to P_run_min; the defaults lie above it (R182). -/
theorem loadResult_raised (block : Option (List Byte)) :
    let c := (loadResult block).1
    c.pRunMin ≤ c.pEco ∧ c.pRunMin ≤ c.pMid ∧ c.pRunMin ≤ c.pBoost ∧ c.pRunMin ≤ c.pAutoBase := by
  unfold loadResult
  (repeat' split)
  · simp [judgeBlock, raisePowers]
  · decide
  · decide

/-- Settles O8: a computation gives the law from the previous target's range, and between two of them the target stays or
becomes 0, as it does where stop-suction begins. -/
theorem targetLaw : Obligations.TargetLaw := by
  rintro s t ⟨loading, raised, target⟩ stepped
  refine step_keeps (P := fun s => powersRaised s ∧ lawTarget s) ?_ ?_ ?_ ?_ ?_ loading ⟨raised, target⟩ stepped
  · exact fun _ _ _ _ => ⟨(by decide : powersRaised State.reset), fun _ => rfl, .inl rfl⟩
  · exact fun b _ _ _ _ => ⟨loadResult_raised b, fun _ => rfl, .inl rfl⟩
  · intro c s t hp hl
    refine exec_keeps_of_between (P := fun s => powersRaised s ∧ lawTarget s)
      (fun h laws => ⟨h.powersRaised laws.1, h.lawTarget laws.2⟩) (fun r laws => ?_) hp hl
    obtain ⟨raised, -, range⟩ := laws
    have before := scanBefore_curbing r s
    have cfg : (scanBefore r s).cfg = s.cfg := by simp [State.cfg, before.loader]
    refine ⟨by simpa [Safety.powersRaised, allowanceFormed_cfg, cfg] using raised, allowanceFormed_lawTarget ?_ ?_⟩
    · simpa [Safety.powersRaised, cfg] using raised
    · rw [cfg]
      have := before.target
      omega
  · exact fun _ _ laws => laws
  · exact fun s laws =>
      have tick := between_events.elapse 1 s
      ⟨tick.powersRaised laws.1, tick.lawTarget laws.2⟩

end Sys2Proof.Proofs
end

section
/-! ## The slew of the target and the two limits (R24, R25, R34) -/

namespace Sys2Proof.Proofs
open Sys2Proof.Machine Sys2Proof.Safety

/-! ### The slew -/

theorem slew_of_zero (pRunMin raw : Nat) : slew pRunMin 0 raw = pRunMin := rfl

theorem slew_of_le {pRunMin prev raw : Nat} (running : prev ≠ 0) (fall : raw ≤ prev) : slew pRunMin prev raw = raw := by
  simp [slew, running, fall]

theorem slew_of_lt {pRunMin prev raw : Nat} (running : prev ≠ 0) (rise : prev < raw) :
    slew pRunMin prev raw = min raw (prev + 50) := by
  simp [slew, running, rise]

theorem slew_rise_le {pRunMin prev raw : Nat} : slew pRunMin prev raw ≤ max pRunMin (prev + 50) := by
  unfold slew
  split
  · omega
  split <;> omega

/-- A computed target is 0 or the slew of its raw target against the target in force (R33, R34). -/
theorem newTarget_eq (c : Settings) (stop low : Bool) (pMode pAllow prev : Nat) :
    newTarget c stop low pMode pAllow prev = 0 ∨
      newTarget c stop low pMode pAllow prev = slew c.pRunMin prev (min pMode pAllow) := by
  unfold newTarget
  split
  · exact .inl rfl
  · exact .inr rfl

/-- Settles O18: the slew branch by branch. -/
theorem slewedTarget : Obligations.SlewedTarget := by
  intro s prev raw
  refine ⟨fun hraw hprev => ⟨?_, slew_of_le, slew_of_lt, (slew_bounds hraw hprev).1, (slew_bounds hraw hprev).2,
    slew_rise_le⟩, newTarget_eq _ _ _ _ _ _⟩
  rintro rfl
  exact slew_of_zero _ _

/-! ### The lowest compensated voltage -/

/-- The lowest compensated voltage is the least of those of cells 1 to N (R7). -/
theorem vMinC_eq_min? {s : State} (h : s.activeCells ≠ []) : (s.activeCells.map (·.vc)).min? = some s.vMinC := by
  unfold State.vMinC
  cases hc : s.activeCells with
  | nil => exact absurd hc h
  | cons c cs => rfl

theorem vMinC_mem {s : State} (h : s.activeCells ≠ []) : s.vMinC ∈ s.activeCells.map (·.vc) :=
  List.min?_mem (vMinC_eq_min? h)

theorem vMinC_le {s : State} {c : Cell} (h : c ∈ s.activeCells) : s.vMinC ≤ c.vc :=
  (List.le_min?_iff (vMinC_eq_min? (List.ne_nil_of_mem h))).mp le_rfl _ (List.mem_map_of_mem h)

/-! ### The bands of the configuration (R182) -/

theorem clampInt_mem {lo hi : Int} (h : lo ≤ hi) (n : Int) : lo ≤ clampInt lo hi n ∧ clampInt lo hi n ≤ hi := by
  unfold clampInt
  omega

/-- The order of the limits that every configuration has after its judgement (R182). -/
structure LimitsOrdered (c : Settings) : Prop where
  temps : c.tDerate < c.tCut
  cold : c.tDisLow ≤ 0
  warm : 40 ≤ c.tDerate
  volts : c.vFloor < c.vLowC

/-- The group of the temperature limits is ordered by its judgement, and stays within the ranges of its fields. -/
theorem judgeTemps_ordered {c : Settings} (cold : c.tDisLow ≤ 0) (warm : 40 ≤ c.tDerate) :
    (judgeTemps c).tDerate < (judgeTemps c).tCut ∧ (judgeTemps c).tDisLow ≤ 0 ∧ 40 ≤ (judgeTemps c).tDerate := by
  have default : defaultSettings.tDerate < defaultSettings.tCut ∧ defaultSettings.tDisLow ≤ 0 ∧
      40 ≤ defaultSettings.tDerate := by decide
  unfold judgeTemps
  split
  case isTrue order => exact ⟨order, cold, warm⟩
  case isFalse => exact default

/-- The judgement of the voltage limits leaves the temperatures' order. -/
theorem judgeVolts_ordered {c : Settings} (temps : c.tDerate < c.tCut) (cold : c.tDisLow ≤ 0) (warm : 40 ≤ c.tDerate) :
    LimitsOrdered (judgeVolts c) := by
  have default : defaultSettings.vFloor < defaultSettings.vLowC := by decide
  unfold judgeVolts
  split
  case isTrue order => exact ⟨temps, cold, warm, order⟩
  case isFalse => exact ⟨temps, cold, warm, default⟩

theorem decodeBlock_temps (bs : List Byte) : (decodeBlock bs).tDisLow ≤ 0 ∧ 40 ≤ (decodeBlock bs).tDerate :=
  ⟨(clampInt_mem (by decide) _).2, (clampInt_mem (by decide) _).1⟩

/-- The other judgements of R182 touch no limit. -/
theorem judgeBlock_limits (bs : List Byte) : LimitsOrdered (judgeBlock bs) := by
  have cells : (judgeCells (decodeBlock bs)).tDisLow ≤ 0 ∧ 40 ≤ (judgeCells (decodeBlock bs)).tDerate := by
    unfold judgeCells
    split <;> exact decodeBlock_temps bs
  have dirt : ∀ c, LimitsOrdered c → LimitsOrdered (judgeDirt c) := by
    intro c o
    unfold judgeDirt
    split <;> exact ⟨o.temps, o.cold, o.warm, o.volts⟩
  have windows : ∀ c, LimitsOrdered c → LimitsOrdered (judgeWindows c) := by
    intro c o
    unfold judgeWindows
    split <;> exact ⟨o.temps, o.cold, o.warm, o.volts⟩
  have ocv : ∀ c, LimitsOrdered c → LimitsOrdered (judgeOcv c) := by
    intro c o
    unfold judgeOcv
    split <;> exact ⟨o.temps, o.cold, o.warm, o.volts⟩
  have therm : ∀ c, LimitsOrdered c → LimitsOrdered (judgeTherm c) := by
    intro c o
    unfold judgeTherm
    split <;> exact ⟨o.temps, o.cold, o.warm, o.volts⟩
  obtain ⟨temps, cold, warm⟩ := judgeTemps_ordered cells.1 cells.2
  have raised : ∀ c, LimitsOrdered c → LimitsOrdered (raisePowers c) := fun _ o =>
    ⟨o.temps, o.cold, o.warm, o.volts⟩
  unfold judgeBlock judgeGroups
  exact raised _ (therm _ (ocv _ (windows _ (dirt _ (judgeVolts_ordered temps cold warm)))))

/-! ### The two limits, band by band -/

theorem lowered_bounds (ma : Nat) : lowered ma ≤ ma ∧ ma < lowered ma + 100 ∧ lowered ma % 100 = 0 := by
  unfold lowered
  omega

/-- A share `x / y` of a current is at most the current. -/
theorem lowered_share_le {i x y : Nat} (h : x ≤ y) : lowered (i * x / y) ≤ i :=
  (lowered_bounds _).1.trans (Nat.div_le_of_le_mul (by rw [Nat.mul_comm y]; exact Nat.mul_le_mul_left i h))

/-- Within a band the quotient of the integers is that of their magnitudes. -/
theorem share_cast (i : Nat) {x y : Int} (hx : 0 ≤ x) (hy : 0 ≤ y) :
    ((i * x.toNat / y.toNat : Nat) : Int) = i * x / y := by
  rw [Int.natCast_ediv, Int.natCast_mul, Int.toNat_of_nonneg hx, Int.toNat_of_nonneg hy]

/-- A current lowered from the quotient lies at most 100 mA below it. -/
theorem lowered_share_bounds (i : Nat) {x y : Int} (hx : 0 ≤ x) (hy : 0 ≤ y) :
    let l := lowered (i * x.toNat / y.toNat)
    (l : Int) ≤ i * x / y ∧ i * x / y < l + 100 ∧ l % 100 = 0 := by
  have := lowered_bounds (i * x.toNat / y.toNat)
  rw [← share_cast i hx hy]
  dsimp only
  omega

theorem tempLimit_of_cut {c : Settings} {t : Int} (h : c.tCut ≤ t) : tempLimit c t = 0 := by simp [tempLimit, h]

theorem tempLimit_of_cold {c : Settings} {t : Int} (h : t < c.tDisLow) : tempLimit c t = 0 := by simp [tempLimit, h]

theorem tempLimit_of_warm {c : Settings} {t : Int} (o : LimitsOrdered c) (low : c.tDisLow ≤ t) (high : t ≤ c.tDerate) :
    tempLimit c t = c.iMax := by
  have := o.temps
  rw [tempLimit, if_neg (by omega), if_neg (by omega), if_pos high]

theorem tempLimit_of_derating {c : Settings} {t : Int} (o : LimitsOrdered c) (low : c.tDerate < t) (high : t < c.tCut) :
    tempLimit c t = lowered (c.iMax * (c.tCut - t).toNat / (c.tCut - c.tDerate).toNat) := by
  have := o.cold
  have := o.warm
  rw [tempLimit, if_neg (by omega), if_neg (by omega), if_neg (by omega)]

theorem tempLimit_le {c : Settings} (t : Int) : tempLimit c t ≤ c.iMax := by
  unfold tempLimit
  split
  · exact Nat.zero_le _
  split
  · exact Nat.zero_le _
  split
  · exact le_rfl
  · exact lowered_share_le (by omega)

theorem voltLimit_of_high {c : Settings} {v : Int} (h : (c.vLowC : Int) ≤ v) : voltLimit c v = c.iMax := by
  simp [voltLimit, h]

theorem voltLimit_of_floor {c : Settings} {v : Int} (o : LimitsOrdered c) (h : v ≤ (c.vFloor : Int)) :
    voltLimit c v = 0 := by
  have := o.volts
  rw [voltLimit, if_neg (by omega), if_pos h]

theorem voltLimit_of_low {c : Settings} {v : Int} (floor : (c.vFloor : Int) < v) (low : v < (c.vLowC : Int)) :
    voltLimit c v = lowered (c.iMax * (v - c.vFloor).toNat / ((c.vLowC : Int) - c.vFloor).toNat) := by
  have cast : ((c.vLowC : Int) - c.vFloor).toNat = c.vLowC - c.vFloor := by omega
  rw [voltLimit, if_neg (by omega), if_neg (by omega), cast]

theorem voltLimit_le {c : Settings} (v : Int) : voltLimit c v ≤ c.iMax := by
  unfold voltLimit
  split
  · exact le_rfl
  split
  · exact Nat.zero_le _
  · exact lowered_share_le (by omega)

/-- Settles O17: the bands of each limit in turn, for a configuration whose limits are ordered. -/
theorem temperatureAndVoltageLimits : Obligations.TemperatureAndVoltageLimits := by
  intro bs t v s
  refine ⟨fun cells => ⟨rfl, vMinC_mem cells, fun _ => vMinC_le⟩, ?_⟩
  have o := judgeBlock_limits bs
  generalize judgeBlock bs = c at o
  refine ⟨o.temps, o.cold, o.warm, tempLimit_le t, tempLimit_of_cut, tempLimit_of_cold, tempLimit_of_warm o, ?_, rfl,
    o.volts, voltLimit_le v, voltLimit_of_high, voltLimit_of_floor o, fun below => voltLimit_of_floor o (by omega), ?_,
    rfl⟩
  · intro low high
    rw [tempLimit_of_derating o low high]
    exact lowered_share_bounds c.iMax (by omega) (by omega)
  · intro floor low
    rw [voltLimit_of_low floor low]
    exact lowered_share_bounds c.iMax (by omega) (by omega)

end Sys2Proof.Proofs
end

section
/-! ## When the charge switch cannot close, and a drive that is left alone (R29, R99)

A switch that closes zeroes the target, so a statement about the target of a scan has to know where it does not. A `Locked`
charge controller closes no switch whatever the drive does. Here it is followed through the controller's parts. -/

namespace Sys2Proof.Proofs
open Sys2Proof.Machine Sys2Proof.Safety

/-! ### The judgement of the switch -/

/-- The allowance, the drive and dirt sensing are left alone. -/
structure Stays (s t : State) : Prop where
  allow : t.allow = s.allow
  drive : t.drive = s.drive
  dirt : t.dirt = s.dirt

theorem Stays.trans {s t u : State} (a : Stays s t) (b : Stays t u) : Stays s u :=
  ⟨b.allow.trans a.allow, b.drive.trans a.drive, b.dirt.trans a.dirt⟩

theorem switchJudge_switch (s : State) : (switchJudge s).charge.switch = s.switchWanted := by
  unfold switchJudge
  split
  case isTrue h => exact h.symm
  split <;> simp_all

/-- The judgement of the switch leaves the phase, the ask and its echo. -/
theorem switchJudge_charge (s : State) : (switchJudge s).charge.phase = s.charge.phase ∧
    (switchJudge s).charge.ask = s.charge.ask ∧ (switchJudge s).charge.awaiting = s.charge.awaiting := by
  unfold switchJudge
  (repeat' split) <;> simp

/-- A switch that does not close leaves the allowance and the drive (R99). -/
theorem switchJudge_stays {s : State} (h : s.switchWanted = true → s.charge.switch = true) :
    Stays s (switchJudge s) := by
  unfold switchJudge
  split
  · exact ⟨rfl, rfl, rfl⟩
  · rw [if_neg (by grind)]
    exact ⟨rfl, rfl, rfl⟩

theorem switchWanted_iff (s : State) : s.switchWanted = true ↔ s.charge.phase.charging = true ∧
    s.charge.awaiting = false ∧ s.drive.state.quiet = true ∧ s.hold.stopCharge = false := by
  simp [State.switchWanted, and_assoc]

/-! ### The ask -/

/-- A change of the ask awaits its echo (R96). -/
theorem changeAsk_cases (a : Ask) (s : State) :
    (a = s.charge.ask ∧ changeAsk a s = s) ∨ (changeAsk a s).charge.awaiting = true := by
  unfold changeAsk
  split
  case isTrue h => exact .inl ⟨h, rfl⟩
  case isFalse => exact .inr rfl

/-- A change of phase leaves the ask, its echo and the window. -/
theorem enterPhase_keeps (ph : ChargePhase) (s : State) : (enterPhase ph s).charge.ask = s.charge.ask ∧
    (enterPhase ph s).charge.awaiting = s.charge.awaiting ∧ (enterPhase ph s).window = s.window := by
  simp [enterPhase_charge, State.window, State.cfg]

/-! ### Charges that close no switch -/

/-- UNDOCKED, an ask that awaits its echo, or no ask outside the charging phases: none lets the switch close (R95, R99). -/
def Locked (c : Charge) : Prop :=
  c.phase = .undocked ∨ c.awaiting = true ∨ (c.phase.charging = false ∧ c.ask = .disabled)

/-- What the next refreshing of the ask makes `Locked`: a charging phase has a window, whose ask is new. -/
def Locking (s : State) : Prop :=
  s.charge.phase = .undocked ∨ s.charge.awaiting = true ∨
  (s.charge.ask = .disabled ∧ (s.charge.phase.charging = true → s.window.isSome = true))

/-- No ask, or one that awaits its echo: a change of phase alone keeps that. -/
def AskQuiet (s : State) : Prop := s.charge.awaiting = true ∨ s.charge.ask = .disabled

theorem Locked.locking {s : State} (h : Locked s.charge) : Locking s := by
  rcases h with h | h | ⟨phase, ask⟩
  · exact .inl h
  · exact .inr (.inl h)
  · exact .inr (.inr ⟨ask, by simp [phase]⟩)

theorem Locked.not_wanted {s : State} (h : Locked s.charge) : s.switchWanted = false := by
  rw [Bool.eq_false_iff, ne_eq, switchWanted_iff]
  rintro ⟨charging, awaiting, -, -⟩
  rcases h with h | h | ⟨phase, -⟩
  · simp [h, ChargePhase.charging] at charging
  · simp [h] at awaiting
  · simp [phase] at charging

theorem Locked.of_kept {c d : Charge} (h : d.phase = c.phase ∧ d.ask = c.ask ∧ d.awaiting = c.awaiting)
    (locked : Locked c) : Locked d := by
  obtain ⟨phase, ask, awaiting⟩ := h
  simpa [Locked, phase, ask, awaiting] using locked

theorem switchJudge_locked {s : State} (h : Locked s.charge) : Locked (switchJudge s).charge :=
  h.of_kept (switchJudge_charge s)

/-- Outside the charging phases the ask is refreshed to none (R95). -/
theorem refreshAsk_locked_of_not_charging {s : State} (h : s.charge.phase.charging = false) :
    Locked (refreshAsk s).charge := by
  have none : s.askFor s.charge.ask.v = .disabled := by simp [State.askFor, h]
  rw [refreshAsk, none]
  rcases changeAsk_cases .disabled s with ⟨ask, same⟩ | awaiting
  · exact .inr (.inr (by simp [same, h, ← ask]))
  · exact .inr (.inl awaiting)

theorem refreshAsk_locked {s : State} (h : Locking s) : Locked (refreshAsk s).charge := by
  by_cases charging : s.charge.phase.charging = true
  case neg => exact refreshAsk_locked_of_not_charging (by simpa using charging)
  rcases changeAsk_cases (s.askFor s.charge.ask.v) s with ⟨ask, same⟩ | awaiting
  case inr => exact .inr (.inl awaiting)
  rw [refreshAsk, same]
  rcases h with h | h | ⟨disabled, window⟩
  · exact .inl h
  · exact .inr (.inl h)
  · obtain ⟨w, hw⟩ := Option.isSome_iff_exists.mp (window charging)
    simp [State.askFor, charging, hw, disabled, Ask.disabled] at ask

/-! ### Phases -/

theorem Locking.quiet {s : State} (h : Locking s) (docked : s.charge.phase ≠ .undocked) : AskQuiet s := by
  rcases h with h | h | ⟨disabled, -⟩
  · exact absurd h docked
  · exact .inl h
  · exact .inr disabled

theorem AskQuiet.locking {s : State} (h : AskQuiet s)
    (window : s.charge.phase.charging = true → s.window.isSome = true) : Locking s :=
  .inr (h.imp_right fun disabled => ⟨disabled, window⟩)

theorem AskQuiet.enterPhase {s : State} (h : AskQuiet s) (ph : ChargePhase) : AskQuiet (enterPhase ph s) := by
  obtain ⟨ask, awaiting, -⟩ := enterPhase_keeps ph s
  simpa [AskQuiet, ask, awaiting] using h

theorem AskQuiet.enterPaused {s : State} (h : AskQuiet s) (cs : Causes) : Locking (enterPaused cs s) := by
  refine AskQuiet.locking (h.enterPhase .paused) fun charging => ?_
  simp [Machine.enterPaused, enterPhase_phase, ChargePhase.charging] at charging

/-- The WAITING decision begins a charge with a window alone (R100). -/
theorem AskQuiet.waitingDecision {s : State} (h : AskQuiet s) (phase : s.charge.phase.charging = false) :
    Locking (waitingDecision s) := by
  unfold Machine.waitingDecision
  split
  · exact h.locking (by simp [phase])
  split
  · exact h.enterPaused _
  case isFalse clear =>
    have window : s.window.isSome = true := by
      simp only [Causes.any, State.waitingCauses, Bool.or_eq_true, not_or] at clear
      have live := clear.1.1.1.1
      unfold State.liveWindow at live
      split at live
      case h_1 w hw => simp [hw]
      case h_2 => simp at live
    have kept : ∀ ph, (Machine.enterPhase ph s).window.isSome = true := fun ph => by
      obtain ⟨-, -, same⟩ := enterPhase_keeps ph s
      rwa [same]
    split <;> exact (h.enterPhase _).locking fun _ => kept _

theorem chargeReview_locking {s : State} (h : Locking s) : Locking (chargeReview s) := by
  have pause : s.charge.phase ≠ .undocked →
      Locking (if s.causesNow.any then enterPaused s.causesNow s else s) := by
    intro docked
    split
    · exact (h.quiet docked).enterPaused _
    · exact h
  unfold chargeReview
  split
  case h_1 hp => exact pause (by simp [hp])
  case h_2 hp => exact pause (by simp [hp])
  case h_3 hp => exact pause (by simp [hp])
  case h_4 hp =>
    split
    · exact h
    · refine ((h.quiet (by simp [hp])).enterPhase _).waitingDecision ?_
      simp [enterPhase_phase, ChargePhase.charging]
  case h_5 hp => exact (h.quiet (by simp [hp])).waitingDecision (by simp [hp, ChargePhase.charging])
  all_goals exact h

theorem changeAsk_locking {s : State} (a : Ask) (h : Locking s) : Locking (changeAsk a s) := by
  rcases changeAsk_cases a s with ⟨-, same⟩ | awaiting
  · rwa [same]
  · exact .inr (.inl awaiting)

theorem windowReview_locking {s : State} (h : Locked s.charge) : Locking (windowReview s) := by
  have selected : ∀ w, Locking (chargeReview (s.onCharge fun c => { c with window := w })) := fun w =>
    chargeReview_locking (Locked.locking (s := s.onCharge fun c => { c with window := w }) h)
  unfold windowReview
  split
  · exact h.locking
  dsimp only
  split
  · exact h.locking
  split
  · split
    · exact changeAsk_locking _ (selected _)
    · exact selected _
  · exact selected _

theorem phaseProgress_locking {s : State} (h : Locked s.charge) : Locking (phaseProgress s) := by
  have awaiting : s.charge.phase.charging = true → ∀ ph, Locking (enterPhase ph s) := by
    intro charging ph
    have awaiting : s.charge.awaiting = true := by
      rcases h with h | h | ⟨phase, -⟩
      · simp [h, ChargePhase.charging] at charging
      · exact h
      · simp [phase] at charging
    exact .inr (.inl ((enterPhase_keeps ph s).2.1.trans awaiting))
  unfold phaseProgress
  split
  case h_1 hp =>
    split
    · exact awaiting (by simp [hp, ChargePhase.charging]) _
    · exact h.locking
  case h_2 hp =>
    split
    · split
      · exact awaiting (by simp [hp, ChargePhase.charging]) _
      · exact h.locking
    · exact h.locking
  case h_3 hp =>
    split
    · split
      · refine ((h.locking.quiet (by simp [hp])).enterPhase _).waitingDecision ?_
        simp [enterPhase_phase, ChargePhase.charging]
      · exact h.locking
    · exact h.locking
  all_goals exact h.locking

end Sys2Proof.Proofs
end

section
/-! ## A scan that closes no switch and begins no stop-suction (R29, R35, R99)

Where no event of a completion closes the charge switch or begins stop-suction, the target of the computation is the
target at the end, and the drive has been told of no other. -/

namespace Sys2Proof.Proofs
open Sys2Proof.Machine Sys2Proof.Safety

/-! ### The switch moves by its judgement alone -/

@[simp] theorem enterPhase_switch (ph : ChargePhase) (s : State) :
    (enterPhase ph s).charge.switch = s.charge.switch := by simp [enterPhase_charge]

@[simp] theorem changeAsk_switch (a : Ask) (s : State) : (changeAsk a s).charge.switch = s.charge.switch := by
  obtain ⟨switch, -⟩ := changeAsk_charge a s
  exact switch

@[simp] theorem waitingDecision_switch (s : State) : (waitingDecision s).charge.switch = s.charge.switch := by
  unfold waitingDecision enterPaused
  (repeat' split) <;> simp

@[simp] theorem chargeReview_switch (s : State) : (chargeReview s).charge.switch = s.charge.switch := by
  unfold chargeReview enterPaused
  (repeat' split) <;> simp

@[simp] theorem windowReview_switch (s : State) : (windowReview s).charge.switch = s.charge.switch := by
  unfold windowReview
  dsimp only
  (repeat' split) <;> simp

@[simp] theorem phaseProgress_switch (s : State) : (phaseProgress s).charge.switch = s.charge.switch := by
  unfold phaseProgress
  (repeat' split) <;> simp

/-! ### Charges and a drive that let no switch close -/

/-- No judgement closes the switch: the drive is driven, or the charge controller locks it, or the switch of a charging
phase is closed already or stop-charge stands. `stop` is the stop-charge that the scan has formed. -/
def Barred (stop : Bool) (s : State) : Prop :=
  s.drive.state.quiet = false ∨ Locked s.charge ∨
    (s.charge.phase.charging = true ∧ (s.charge.switch = true ∨ stop = true))

/-- What the next refreshing of the ask makes `Barred`. -/
def Barring (stop : Bool) (s : State) : Prop :=
  s.drive.state.quiet = false ∨ Locking s ∨ s.charge.switch = true ∨ stop = true

theorem Barred.of_kept {b : Bool} {s t : State} (h : Barred b s) (drive : t.drive.state.quiet = s.drive.state.quiet)
    (charge : t.charge = s.charge) : Barred b t := by rwa [Barred, drive, charge]

/-- A stop-charge bars no less. -/
theorem Barred.stop {s : State} (h : Barred false s) (b : Bool) : Barred b s :=
  h.imp_right (Or.imp_right (And.imp_right fun k => .inl (by simpa using k)))

theorem Barred.barring {b : Bool} {s : State} (h : Barred b s) : Barring b s :=
  h.imp_right (Or.imp Locked.locking And.right)

theorem Barring.refresh {b : Bool} {s : State} (h : Barring b s) : Barred b (refreshAsk s) := by
  rcases h with driven | locking | closed
  · exact .inl (by simpa using driven)
  · exact .inr (.inl (refreshAsk_locked locking))
  · by_cases charging : s.charge.phase.charging = true
    · exact .inr (.inr (by simpa [refreshAsk, changeAsk_phase, charging] using closed))
    · exact .inr (.inl (refreshAsk_locked_of_not_charging (by simpa using charging)))

/-- The steps of the charge controller between two refreshings move neither the drive nor the switch. -/
theorem Barring.of_locking {b : Bool} {s t : State} (h : Barring b s) (drive : t.drive = s.drive)
    (switch : t.charge.switch = s.charge.switch) (locking : Locking s → Locking t) : Barring b t := by
  rw [Barring, drive, switch]
  exact h.imp_right (Or.imp_left locking)

/-- A judgement of the switch under a bar closes nothing and leaves the bar (R99). -/
theorem Barred.switchJudge {b : Bool} {s : State} (h : Barred b s) (stop : s.hold.stopCharge = b) :
    Stays s (switchJudge s) ∧ Barred b (switchJudge s) := by
  have stays : Stays s (Machine.switchJudge s) := switchJudge_stays fun wanted => by
    obtain ⟨-, -, quiet, free⟩ := (switchWanted_iff s).mp wanted
    rcases h with driven | locked | ⟨-, closed | stands⟩
    · simp [driven] at quiet
    · simp [locked.not_wanted] at wanted
    · exact closed
    · simp [stop, stands] at free
  refine ⟨stays, ?_⟩
  have same := switchJudge_charge s
  rcases h with driven | locked | ⟨charging, closed⟩
  · exact .inl (by simpa [stays.drive] using driven)
  · exact .inr (.inl (locked.of_kept same))
  obtain ⟨phase, -, awaiting⟩ := same
  by_cases wanted : s.switchWanted = true
  · exact .inr (.inr ⟨phase ▸ charging, .inl ((switchJudge_switch s).trans wanted)⟩)
  have cause : s.charge.awaiting = true ∨ s.drive.state.quiet = false ∨ b = true := by
    simpa [switchWanted_iff, charging, stop, or_iff_not_imp_left] using wanted
  rcases cause with echo | driven | stands
  · exact .inr (.inl (.inr (.inl (awaiting.trans echo))))
  · exact .inl (by simpa [stays.drive] using driven)
  · exact .inr (.inr ⟨phase ▸ charging, .inr stands⟩)

/-! ### The charge controller under a bar -/

theorem Stays.of_frame {s t : State} (h : t.allow = s.allow ∧ t.drive = s.drive ∧ t.dirt = s.dirt) : Stays s t :=
  ⟨h.1, h.2.1, h.2.2⟩

theorem Barred.chargeSettle {b : Bool} {s : State} (h : Barred b s) (stop : s.hold.stopCharge = b) :
    Stays s (chargeSettle s) ∧ Barred b (chargeSettle s) := by
  have refreshed : Barred b (refreshAsk (chargeReview s)) :=
    (h.barring.of_locking (by simp) (by simp) chargeReview_locking).refresh
  obtain ⟨stays, barred⟩ := refreshed.switchJudge (by simpa using stop)
  exact ⟨(Stays.of_frame (by simp)).trans stays, barred⟩

theorem Barred.highFault {b : Bool} {s : State} (h : Barred b s) (high : Bool) :
    Stays s (highFault high s) ∧ Barred b (highFault high s) := by
  unfold Proofs.highFault
  split
  case isFalse => exact ⟨.of_frame (by simp), h⟩
  have locked : Locked (refreshAsk (enterPhase .fault s)).charge :=
    refreshAsk_locked_of_not_charging (by simp [enterPhase_phase, ChargePhase.charging])
  have stays := switchJudge_stays (s := refreshAsk (enterPhase .fault s)) (by simp [locked.not_wanted])
  have judged := switchJudge_locked locked
  exact ⟨((Stays.of_frame (by simp)).trans stays).trans (.of_frame (by simp [chargeFault])),
    .inr (.inl (by simpa [chargeFault] using judged))⟩

theorem scanReview_barred {b : Bool} {s : State} (h : Barred b s) : Barred b (scanReview s) := by
  have window : Barring b (windowReview s) := by
    rcases h with driven | locked | ⟨-, closed⟩
    · exact .inl (by simpa using driven)
    · exact .inr (.inl (windowReview_locking locked))
    · exact .inr (.inr (by simpa using closed))
  exact (window.of_locking (by simp) (by simp) chargeReview_locking).refresh

theorem scanProgress_barring {b : Bool} {s : State} (h : Barred b s) (p : ChargePhase) :
    Barring b (scanProgress p s) := by
  unfold scanProgress
  split
  case isFalse => exact h.barring
  rcases h with driven | locked | ⟨-, closed⟩
  · exact .inl (by simpa using driven)
  · exact .inr (.inl (phaseProgress_locking locked))
  · exact .inr (.inr (by simpa using closed))

@[simp] theorem scanProgress_frame (p : ChargePhase) (s : State) : (scanProgress p s).allow = s.allow ∧
    (scanProgress p s).drive = s.drive ∧ (scanProgress p s).dirt = s.dirt ∧ (scanProgress p s).hold = s.hold := by
  unfold scanProgress
  split <;> simp

@[simp] theorem scanReview_frame (s : State) : (scanReview s).allow = s.allow ∧ (scanReview s).drive = s.drive ∧
    (scanReview s).dirt = s.dirt ∧ (scanReview s).hold = s.hold := by simp [scanReview]

theorem Barred.scanFrom {b : Bool} {s : State} (h : Barred b s) (stop : s.hold.stopCharge = b) :
    Stays s (scanFrom s) ∧ Barred b (scanFrom s) := by
  have refreshed := (scanProgress_barring (scanReview_barred h) s.charge.phase).refresh
  obtain ⟨stays, barred⟩ := refreshed.switchJudge (by simpa using stop)
  have judged := (Stays.of_frame (s := s) (by simp)).trans stays
  unfold Proofs.scanFrom scanConclusion
  dsimp only
  split
  case isFalse => exact ⟨judged, barred⟩
  case isTrue =>
    refine ⟨judged.trans (.of_frame (by simp)), ?_⟩
    unfold terminationJudge
    split
    · exact barred
    · exact barred

@[simp] theorem highFault_outputs (high : Bool) (s : State) :
    (highFault high s).hold.stopSuction = s.hold.stopSuction ∧
    (highFault high s).hold.stopCharge = s.hold.stopCharge := by
  unfold highFault
  split <;> simp [chargeFault, pushHistory]

theorem Barred.chargeScan {b : Bool} {s : State} (h : Barred b s) (stop : s.hold.stopCharge = b)
    (high throughout : Bool) : Stays s (chargeScan high throughout s) ∧ Barred b (chargeScan high throughout s) := by
  obtain ⟨fault, barred⟩ := h.highFault high
  have guarded : Barred b (supplyGuard throughout (Proofs.highFault high s)) := by
    unfold supplyGuard
    split <;> exact barred
  obtain ⟨scan, barred⟩ := guarded.scanFrom (by simpa using stop)
  rw [chargeScan_eq]
  exact ⟨(fault.trans (.of_frame (by simp))).trans scan, barred⟩

/-! ### The hold unit under a bar -/

@[simp] theorem handStopSuction_stopCharge (s : State) :
    (handStopSuction s).hold.stopCharge = s.liveReasons.stopsCharge := by
  unfold handStopSuction
  split <;> simp [formHolds_stopCharge]

@[simp] theorem handStopSuction_charge (s : State) : (handStopSuction s).charge = s.charge := by
  unfold handStopSuction
  split <;> simp

/-- With its stop-suction handed on, a handing of reasons under a bar zeroes nothing more. -/
theorem handReasons_barred {b : Bool} {s : State} (h : Barred b (handStopSuction s))
    (stop : s.liveReasons.stopsCharge = b) :
    Stays (handStopSuction s) (handReasons s) ∧ Barred b (handReasons s) := by
  have judged : Stays (handStopSuction s) (handStopCharge s.hold.stopCharge (handStopSuction s)) ∧
      Barred b (handStopCharge s.hold.stopCharge (handStopSuction s)) := by
    unfold handStopCharge
    split
    · exact h.switchJudge (by simpa using stop)
    · exact h.chargeSettle (by simpa using stop)
  obtain ⟨stays, barred⟩ := judged
  rw [handReasons_eq]
  exact ⟨stays.trans (.of_frame (by simp)), barred.of_kept (by simp) (by simp)⟩

/-- No stop-suction begins as the outputs are formed. -/
def NoRise (s : State) : Prop := (formHolds s).hold.stopSuction = true → s.hold.stopSuction = true

theorem handStopSuction_of_noRise {s : State} (h : NoRise s) : handStopSuction s = formHolds s := by
  have calm : ¬ ((formHolds s).hold.stopSuction && !s.hold.stopSuction) = true := by
    simpa [NoRise] using h
  rw [handStopSuction, if_neg calm]

theorem Barred.handReasons {b : Bool} {s : State} (h : Barred b s) (stop : s.liveReasons.stopsCharge = b)
    (calm : NoRise s) : Stays s (handReasons s) ∧ Barred b (handReasons s) := by
  have formed := handStopSuction_of_noRise calm
  obtain ⟨stays, barred⟩ := handReasons_barred (formed ▸ h.of_kept (by simp) (by simp)) stop
  exact ⟨(Stays.of_frame (by simp [formed])).trans stays, barred⟩

end Sys2Proof.Proofs
end

section
/-! ## The events of a completion before its computation, and the arrival of its target (R3, R23, R60) -/

namespace Sys2Proof.Proofs
open Sys2Proof.Machine Sys2Proof.Safety

/-! ### Stop-suction as it is formed (R170) -/

/-- Stop-suction but for LOW_ALLOWANCE, as the owners' conditions and the table give it. -/
def stopsOther (s : State) : Bool :=
  stopsSuction { s.liveReasons with lowAllowance := false } (s.table.heardUnion s.cfg.holdStations)

theorem formHolds_stopSuction (s : State) :
    (formHolds s).hold.stopSuction = (s.allow.low || stopsOther s) := by
  simp only [formHolds, stopsOther, stopsSuction, Reasons.localStop, State.liveReasons, onHold_hold]
  cases s.allow.low <;> simp

/-- A settling under the same line conflict gives stop-suction no other cause than the allowance. -/
theorem ScanSettling.stopsOther {s t : State} (h : ScanSettling s t) (conflict : t.line.conflict = s.line.conflict) :
    stopsOther t = stopsOther s := by
  have sensor : t.pack.sensor = s.pack.sensor ∧ t.pack.packState = s.pack.packState := by rw [h.pack]; simp
  have high := h.any_activeCells (fun c => decide (c.cls = .high)) fun _ => rfl
  simp only [Proofs.stopsOther, stopsSuction, Reasons.localStop, State.liveReasons, high, sensor, h.stuck, h.own, h.attach,
    h.cfg, h.frame, conflict]

/-- PACK_HOT and PACK_COLD that are clear until a scan judges them stop no suction before it does (R165). -/
theorem stopsOther_of_packReasons {s : State} (hot : s.hold.reasons.packHot = false)
    (cold : s.hold.reasons.packCold = false) (h : stopsOther (packReasons s) = false) : stopsOther s = false := by
  simp only [stopsOther, stopsSuction, Reasons.localStop, State.liveReasons, Bool.or_eq_false_iff, and_assoc] at h ⊢
  obtain ⟨empty, -, -, others⟩ := h
  exact ⟨empty, hot, cold, others⟩

/-- Stop-suction and stop-charge are those of the live reasons. -/
def Formed (s : State) : Prop :=
  s.hold.stopSuction = (s.allow.low || stopsOther s) ∧ s.hold.stopCharge = s.liveReasons.stopsCharge

theorem Formed.of_settled {s t : State} (h : Formed s) (settled : ScanSettling s t)
    (conflict : t.line.conflict = s.line.conflict) (low : t.allow.low = s.allow.low)
    (suction : t.hold.stopSuction = s.hold.stopSuction) (charge : t.hold.stopCharge = s.hold.stopCharge) :
    Formed t := by
  obtain ⟨hs, hc⟩ := h
  exact ⟨by rw [suction, hs, low, settled.stopsOther conflict], by rw [charge, hc, settled.stopsCharge]⟩

theorem handReasons_stopSuction (s : State) :
    (handReasons s).hold.stopSuction = (s.allow.low || stopsOther s) := by
  rw [handReasons_hold, formHolds_stopSuction]

theorem handReasons_formed (s : State) : Formed (handReasons s) := by
  have settled := (handReasons_settling s).toScanSettling
  have easing := handReasons_easing s
  exact ⟨by rw [handReasons_stopSuction, easing.low, settled.stopsOther easing.conflict],
    by rw [handReasons_hold, formHolds_stopCharge, settled.stopsCharge]⟩

theorem Formed.publish {s : State} (h : Formed s) (s0 : State) : Formed (publish s0 s) :=
  h.of_settled ((Settling.refl s).publish s0).toScanSettling (by simp) (by simp) (by simp) (by simp)

/-! ### The events before the computation -/

/-- The pack monitor's own part of a completion: its readings, or the scan's rejection (R3, R5). -/
def readingsTaken (r : ScanReading) (s : State) : State :=
  if ScanReading.accepted r then acceptScan r (clearScan s) else rejectScan (clearScan s)

theorem readingsTaken_frame (r : ScanReading) (s : State) : (readingsTaken r s).allow = s.allow ∧
    (readingsTaken r s).drive = s.drive ∧ (readingsTaken r s).dirt = s.dirt ∧ (readingsTaken r s).charge = s.charge ∧
    (readingsTaken r s).attach = s.attach ∧ (readingsTaken r s).hold = s.hold ∧ (readingsTaken r s).time = s.time ∧
    (readingsTaken r s).loader = s.loader := by
  unfold readingsTaken
  split <;> simp [clearScan]

/-- The pack monitor's event of a completion, its live reasons with it. -/
def packTold (r : ScanReading) (s : State) : State := publish s (handReasons (readingsTaken r s))

theorem scanBefore_eq (r : ScanReading) (s : State) :
    scanBefore r s = asEvent (scanCharge r s) (asEvent (scanTemps r) (packTold r s)) := rfl

theorem packTold_formed (r : ScanReading) (s : State) : Formed (packTold r s) := (handReasons_formed _).publish s

theorem packTold_easing (r : ScanReading) (s : State) : Easing (readingsTaken r s) (packTold r s) :=
  (handReasons_easing _).publish s

theorem packTold_settling (r : ScanReading) (s : State) : Settling (readingsTaken r s) (packTold r s) :=
  (handReasons_settling _).publish s

theorem scanTemps_easing (r : ScanReading) (s : State) : Easing s (scanTemps r s) := by
  unfold scanTemps
  split
  · exact (Easing.of_kept (s := s) (t := packReasons s) (by simp [packReasons])).trans (handReasons_easing _)
  · exact .refl s

theorem scanBefore_easing (r : ScanReading) (s : State) : Easing (readingsTaken r s) (scanBefore r s) := by
  have event : ∀ {f : State → State} {u}, Easing u (f u) → Easing u (asEvent f u) := fun h => h.publish _
  rw [scanBefore_eq]
  exact ((packTold_easing r s).trans (event (scanTemps_easing r _))).trans (event (scanCharge_easing r s _))

theorem scanTemps_formed {r : ScanReading} {s : State} (h : Formed s) : Formed (scanTemps r s) := by
  unfold scanTemps
  split
  · exact handReasons_formed _
  · exact h

@[simp] theorem chargeScan_outputs (high throughout : Bool) (s : State) :
    (chargeScan high throughout s).hold.stopSuction = s.hold.stopSuction ∧
    (chargeScan high throughout s).hold.stopCharge = s.hold.stopCharge := by
  rw [chargeScan_eq, scanFrom, scanConclusion]
  split <;> simp

@[simp] theorem scanCharge_outputs (r : ScanReading) (s0 s : State) :
    (scanCharge r s0 s).hold.stopSuction = s.hold.stopSuction ∧
    (scanCharge r s0 s).hold.stopCharge = s.hold.stopCharge := by
  unfold scanCharge
  split <;> simp

theorem scanBefore_formed (r : ScanReading) (s : State) : Formed (scanBefore r s) := by
  have temps : Formed (asEvent (scanTemps r) (packTold r s)) := (scanTemps_formed (packTold_formed r s)).publish _
  have easing := scanCharge_easing r s (asEvent (scanTemps r) (packTold r s))
  exact (temps.of_settled (scanCharge_scanSettling r s _) easing.conflict easing.low (by simp) (by simp)).publish _

/-! ### A completion that begins no stop-suction before its computation -/

/-- The temperatures' event ends with the stop-suction that stands at the computation. -/
theorem scanTemps_stopSuction (r : ScanReading) (s : State) :
    (scanTemps r (packTold r s)).hold.stopSuction = (scanBefore r s).hold.stopSuction := by
  simp [scanBefore_eq]

/-- Without a stop-suction at the computation none has begun before it: a reason that the pack monitor's event brings
stands at the computation too, since only PACK_HOT and PACK_COLD are judged after it, and these stood before (R165). -/
theorem readingsTaken_noRise {r : ScanReading} {s : State} (outputs : lawOutputs s)
    (free : (scanBefore r s).hold.stopSuction = false) : NoRise (readingsTaken r s) := by
  obtain ⟨allow, -, -, -, -, hold, -, -⟩ := readingsTaken_frame r s
  intro risen
  rw [formHolds_stopSuction, allow] at risen
  by_contra clear
  rw [hold, Bool.not_eq_true] at clear
  have low : s.allow.low = false := by
    have formed := (scanBefore_formed r s).1
    rw [free, (scanBefore_curbing r s).low] at formed
    simpa using (Bool.or_eq_false_iff.mp formed.symm).1
  have before : stopsOther (packTold r s) = true := by
    rw [(packTold_settling r s).stopsOther (packTold_easing r s).conflict]
    simpa [low] using risen
  have cleared := scanTemps_stopSuction r s
  rw [free] at cleared
  unfold scanTemps at cleared
  split at cleared
  case isTrue =>
    rw [handReasons_stopSuction, Bool.or_eq_false_iff] at cleared
    have temps : s.hold.reasons.packHot = false ∧ s.hold.reasons.packCold = false := by
      have none := outputs.1
      rw [clear] at none
      simp only [stopsSuction, Reasons.localStop, eq_comm (a := false), Bool.or_eq_false_iff] at none
      simp [none]
    have own := (packTold_settling r s).own
    have gone := stopsOther_of_packReasons (by rw [own.1, hold]; exact temps.1)
      (by rw [own.2.1, hold]; exact temps.2) cleared.2
    simp [before] at gone
  case isFalse =>
    rw [(packTold_formed r s).1, before] at cleared
    simp at cleared

theorem scanTemps_barred {b : Bool} {r : ScanReading} {s : State} (barred : Barred b s) (formed : Formed s)
    (stop : s.liveReasons.stopsCharge = b) (free : (scanTemps r s).hold.stopSuction = false) :
    Stays s (scanTemps r s) ∧ Barred b (scanTemps r s) ∧ (scanTemps r s).hold.stopCharge = b := by
  unfold scanTemps at free ⊢
  split
  case isTrue accepted =>
    rw [if_pos accepted, handReasons_hold] at free
    obtain ⟨stays, bar⟩ := (barred.of_kept (t := packReasons s) (by simp) (by simp)).handReasons stop
      fun risen => by simp [free] at risen
    exact ⟨(Stays.of_frame (by simp)).trans stays, bar, by rw [handReasons_hold, formHolds_stopCharge]; exact stop⟩
  case isFalse => exact ⟨.of_frame (by simp), barred, formed.2.trans stop⟩

theorem scanCharge_barred {b : Bool} {r : ScanReading} {s0 s : State} (barred : Barred b s)
    (stop : s.hold.stopCharge = b) : Stays s (scanCharge r s0 s) ∧ Barred b (scanCharge r s0 s) := by
  unfold scanCharge
  split
  · obtain ⟨stays, bar⟩ := barred.chargeScan stop (becameHigh s0.activeCells s.activeCells) s0.pack.scanSwitchClosed
    exact ⟨stays.trans (.of_frame (by simp)), bar.of_kept (by simp) (by simp)⟩
  · exact ⟨.of_frame (by simp), barred⟩

/-- Under a bar, and with no stop-suction at the computation, the events before it leave the allowance and the drive. -/
theorem scanBefore_barred {r : ScanReading} {s : State} (outputs : lawOutputs s) (barred : Barred false s)
    (free : (scanBefore r s).hold.stopSuction = false) :
    Stays s (scanBefore r s) ∧ Barred (scanBefore r s).liveReasons.stopsCharge (scanBefore r s) := by
  set b := (packTold r s).liveReasons.stopsCharge with hb
  have kept := readingsTaken_frame r s
  have first : Stays s (packTold r s) ∧ Barred b (packTold r s) := by
    have stop : (readingsTaken r s).liveReasons.stopsCharge = b := (packTold_settling r s).stopsCharge.symm
    obtain ⟨stays, bar⟩ := ((barred.stop b).of_kept (by simp [kept]) (by simp [kept])).handReasons stop
      (readingsTaken_noRise outputs free)
    exact ⟨((Stays.of_frame (by simp [kept])).trans stays).trans (.of_frame (by simp [packTold])),
      bar.of_kept (by simp [packTold]) (by simp [packTold])⟩
  obtain ⟨firstStays, firstBar⟩ := first
  obtain ⟨tempsStays, tempsBar, tempsStop⟩ :=
    scanTemps_barred firstBar (packTold_formed r s) hb.symm ((scanTemps_stopSuction r s).trans free)
  obtain ⟨chargeStays, chargeBar⟩ := scanCharge_barred (r := r) (s0 := s) (s := asEvent (scanTemps r) (packTold r s))
    (tempsBar.of_kept (by simp) (by simp)) (by simpa using tempsStop)
  have stop : (scanBefore r s).liveReasons.stopsCharge = b := by
    rw [← (scanBefore_formed r s).2, ← tempsStop]
    simp [scanBefore_eq]
  rw [stop, scanBefore_eq]
  exact ⟨((firstStays.trans tempsStays).trans (.of_frame (by simp))).trans (chargeStays.trans (.of_frame (by simp))),
    chargeBar.of_kept (by simp) (by simp)⟩

/-! ### The arrival of the target and what follows it -/

/-- The computation's target has arrived at the drive (R60). -/
def targetArrived (s : State) : State := driveTarget (allowanceFormed s).allow.target (allowanceFormed s)

theorem targetArrived_allow (s : State) : (targetArrived s).allow = s.computed := by
  simp [targetArrived, allowanceFormed_allow]

theorem targetArrived_frame (s : State) : (targetArrived s).charge = s.charge ∧ (targetArrived s).hold = s.hold ∧
    (targetArrived s).line = s.line ∧ (targetArrived s).table = s.table ∧ (targetArrived s).pack = s.pack ∧
    (targetArrived s).time = s.time := by simp [targetArrived, allowanceFormed]

/-- The drive's judgement and the handing of LOW_ALLOWANCE, and the end of the start scan. -/
theorem completeScan_eq_arrived (r : ScanReading) (s : State) :
    completeScan r s = startScanEnd s.pack.startScan
      (publish (scanBefore r s) (handReasons (handDrive (targetArrived (scanBefore r s))))) := rfl

theorem completeScan_easing (r : ScanReading) (s : State) :
    Easing (targetArrived (scanBefore r s)) (completeScan r s) := by
  rw [completeScan_eq_arrived]
  exact (((handDrive_easing _).trans (handReasons_easing _)).publish _).trans (startScanEnd_easing _ _)

theorem completeScan_settling (r : ScanReading) (s : State) : Settling (scanBefore r s) (completeScan r s) :=
  (asEvent_settling (scanAllowance_settling _)).trans (startScanEnd_settling _ _)

@[simp] theorem startScanEnd_frame (b : Bool) (s : State) : (startScanEnd b s).allow = s.allow ∧
    (startScanEnd b s).drive = s.drive ∧ (startScanEnd b s).dirt = s.dirt ∧
    (startScanEnd b s).charge = s.charge ∧ (startScanEnd b s).attach = s.attach := by
  cases b
  · simp [startScanEnd]
  · simp only [startScanEnd, endStartScan, if_true]
    split <;> simp [orderBreak]

theorem completeScan_formed (r : ScanReading) (s : State) : Formed (completeScan r s) := by
  have formed := (handReasons_formed (handDrive (targetArrived (scanBefore r s)))).publish (scanBefore r s)
  have easing := startScanEnd_easing s.pack.startScan
    (publish (scanBefore r s) (handReasons (handDrive (targetArrived (scanBefore r s)))))
  rw [completeScan_eq_arrived]
  exact formed.of_settled (startScanEnd_settling _ _).toScanSettling easing.conflict (by simp) (by simp) (by simp)

/-- A completion's stop-suction: the LOW_ALLOWANCE of its computation, and the causes that stood at it. -/
theorem completeScan_stopSuction (r : ScanReading) (s : State) : (completeScan r s).hold.stopSuction =
    ((scanBefore r s).computed.low || stopsOther (scanBefore r s)) := by
  have easing := completeScan_easing r s
  obtain ⟨-, -, line, -⟩ := targetArrived_frame (scanBefore r s)
  have conflict : (completeScan r s).line.conflict = (scanBefore r s).line.conflict := by rw [easing.conflict, line]
  rw [(completeScan_formed r s).1, (completeScan_settling r s).stopsOther conflict, easing.low, targetArrived_allow]

theorem newTarget_ne_zero {c : Settings} {stop low : Bool} {pMode pAllow prev : Nat}
    (h : newTarget c stop low pMode pAllow prev ≠ 0) : stop = false ∧ low = false := by
  unfold newTarget at h
  grind

/-- A target above 0 stands clear of stop-suction and LOW_ALLOWANCE (R33). -/
theorem computed_target_ne_zero {s : State} (h : s.computed.target ≠ 0) :
    s.hold.stopSuction = false ∧ s.computed.low = false := newTarget_ne_zero h

/-- Under a bar, what follows the arrival of a target above 0 leaves it and the drive. -/
theorem completeScan_stays {r : ScanReading} {s : State} (above : (scanBefore r s).computed.target ≠ 0)
    (barred : Barred (scanBefore r s).liveReasons.stopsCharge (targetArrived (scanBefore r s))) :
    Stays (targetArrived (scanBefore r s)) (completeScan r s) := by
  obtain ⟨free, low⟩ := computed_target_ne_zero above
  obtain ⟨suction, charge⟩ := scanBefore_formed r s
  obtain ⟨-, hold, -⟩ := targetArrived_frame (scanBefore r s)
  obtain ⟨judged, bar⟩ := barred.switchJudge (by rw [hold, charge])
  have settled : ScanSettling (scanBefore r s) (handDrive (targetArrived (scanBefore r s))) :=
    (allowanceComputation_settling _).toScanSettling
  have calm : NoRise (handDrive (targetArrived (scanBefore r s))) := by
    have ended : (completeScan r s).hold.stopSuction =
        (formHolds (handDrive (targetArrived (scanBefore r s)))).hold.stopSuction := by
      rw [completeScan_eq_arrived]
      simp [handReasons_hold]
    rw [suction, Bool.or_eq_false_iff] at free
    rw [NoRise, ← ended, completeScan_stopSuction, low, free.2]
    simp
  obtain ⟨handed, -⟩ := (bar.of_kept (t := handDrive (targetArrived (scanBefore r s))) (by simp [handDrive])
    (by simp [handDrive])).handReasons settled.stopsCharge calm
  rw [completeScan_eq_arrived]
  exact ((judged.trans (.of_frame (by simp [handDrive]))).trans handed).trans (.of_frame (by simp))

/-! ### The target that a completion ends with -/

/-- A target of 0 from the computation is handed on as 0, whatever has zeroed it before (R35). -/
theorem completeScan_of_target_zero {r : ScanReading} {s : State} (zero : (scanBefore r s).computed.target = 0) :
    (completeScan r s).allow.target = 0 ∧ (completeScan r s).drive = easedDrive s.drive s.now := by
  have easing := completeScan_easing r s
  obtain ⟨-, drive, -, -, -, -, time, -⟩ := readingsTaken_frame r s
  obtain ⟨-, -, -, -, -, arrivedTime⟩ := targetArrived_frame (scanBefore r s)
  have clock : (scanBefore r s).time = s.time := (scanBefore_easing r s).time.trans time
  have now : (readingsTaken r s).now = s.now ∧ (allowanceFormed (scanBefore r s)).now = s.now ∧
      (targetArrived (scanBefore r s)).now = s.now := by simp [State.now, allowanceFormed, arrivedTime, clock, time]
  obtain ⟨readNow, formedNow, arrivedNow⟩ := now
  have arrived : (targetArrived (scanBefore r s)).drive = easedDrive s.drive s.now := by
    have formed : (allowanceFormed (scanBefore r s)).drive = (scanBefore r s).drive := by simp [allowanceFormed]
    rw [targetArrived, allowanceFormed_allow, zero, driveTarget_zero, formed, formedNow]
    rcases (scanBefore_easing r s).drive with ⟨same, -⟩ | ⟨eased, -⟩
    · rw [same, drive]
    · rw [eased, drive, readNow, easedDrive_twice]
  constructor
  · rcases easing.target with kept | zeroed
    · rw [kept, targetArrived_allow, zero]
    · exact zeroed
  · rcases easing.drive with ⟨same, -⟩ | ⟨eased, -⟩
    · rw [same, arrived]
    · rw [eased, arrived, arrivedNow, easedDrive_twice]

end Sys2Proof.Proofs
end

section
/-! ## The allowance at a scan completion (R23 to R35, R49, R60, R180) -/

namespace Sys2Proof.Proofs
open Sys2Proof.Machine Sys2Proof.Safety

/-! ### The law of the switch at a completion (R99) -/

theorem switchJudge_lawSwitch (s : State) : lawSwitch (switchJudge s) := by
  intro closed
  have wanted := (switchJudge_switch s).symm.trans closed
  obtain ⟨charging, -, quiet, -⟩ := (switchWanted_iff s).mp wanted
  refine ⟨by rw [switchJudge_phase]; exact charging, ?_⟩
  rcases (switchJudge_easing s).drive with ⟨same, -⟩ | ⟨eased, -⟩
  · rw [same, quiet]
  · rw [eased, easedDrive_quiet]

theorem handReasons_lawSwitch (s : State) : lawSwitch (handReasons s) := by
  have judged : ∀ b u, lawSwitch (handStopCharge b u) := by
    intro b u
    unfold handStopCharge
    split <;> exact switchJudge_lawSwitch _
  simpa [handReasons_eq, lawSwitch] using judged s.hold.stopCharge (handStopSuction s)

theorem chargeScan_lawSwitch (high throughout : Bool) (s : State) : lawSwitch (chargeScan high throughout s) := by
  have conclusion : ∀ p u, lawSwitch (scanConclusion p u) := by
    intro p u
    have judged := switchJudge_lawSwitch (refreshAsk u)
    unfold scanConclusion terminationJudge
    dsimp only
    split
    · split <;> exact judged
    · exact judged
  exact conclusion _ _

theorem scanBefore_lawSwitch (r : ScanReading) (s : State) : lawSwitch (scanBefore r s) := by
  have first : lawSwitch (packTold r s) := by simpa [packTold, lawSwitch] using handReasons_lawSwitch (readingsTaken r s)
  rw [scanBefore_eq]
  unfold scanCharge scanTemps
  split
  · simpa [lawSwitch] using chargeScan_lawSwitch _ _ _
  · simpa [lawSwitch] using first

/-! ### UNDOCKED through a completion (R91) -/

theorem handReasons_undocked {s : State} (h : s.charge.phase = .undocked) :
    (handReasons s).charge.phase = .undocked := by
  have hand : ∀ b u, u.charge.phase = .undocked → (handStopCharge b u).charge.phase = .undocked := by
    intro b u hu
    unfold handStopCharge
    split
    · rw [switchJudge_phase, hu]
    · rw [chargeSettle, switchJudge_phase, refreshAsk, changeAsk_phase, chargeReview]
      simp [hu]
  simpa [handReasons_eq] using hand s.hold.stopCharge (handStopSuction s) (by simp [h])

theorem chargeScan_undocked {high throughout : Bool} {s : State} (h : s.charge.phase = .undocked) :
    (chargeScan high throughout s).charge.phase = .undocked := by
  have fault : highFault high s = s := by simp [highFault, h, ChargePhase.charging]
  rw [chargeScan_eq, fault]
  have guarded : (supplyGuard throughout s).charge.phase = .undocked := (supplyGuard_phase _ _).trans h
  generalize supplyGuard throughout s = u at guarded
  have review : (scanReview u).charge.phase = .undocked := by
    simp [scanReview, refreshAsk, changeAsk_phase, windowReview, chargeReview, guarded]
  have progress : (scanProgress .undocked (scanReview u)).charge.phase = .undocked := by
    simp [scanProgress, phaseProgress, review]
  rw [scanFrom, guarded, scanConclusion, if_neg (by simp), switchJudge_phase, refreshAsk, changeAsk_phase, progress]

theorem scanBefore_undocked {r : ScanReading} {s : State} (h : s.charge.phase = .undocked) :
    (scanBefore r s).charge.phase = .undocked := by
  have first : (packTold r s).charge.phase = .undocked := by
    simpa [packTold] using handReasons_undocked (s := readingsTaken r s) (by simp [readingsTaken_frame, h])
  have second : (scanTemps r (packTold r s)).charge.phase = .undocked := by
    unfold scanTemps
    split
    · exact handReasons_undocked (by simpa using first)
    · exact first
  rw [scanBefore_eq]
  unfold scanCharge
  split
  · simpa [asEvent_frame] using chargeScan_undocked (by simpa using second)
  · simpa using second

theorem scanBefore_open {r : ScanReading} {s : State} (h : s.charge.phase = .undocked) :
    (scanBefore r s).charge.switch = false := by
  rw [Bool.eq_false_iff]
  intro closed
  obtain ⟨charging, -⟩ := scanBefore_lawSwitch r s closed
  simp [scanBefore_undocked h, ChargePhase.charging] at charging

/-! ### The drive at the arrival of a target above 0 (R49, R60) -/

theorem driveTarget_of_stopped {w : Nat} {s : State} (above : w ≠ 0) (h : s.drive.state = .stopped) :
    driveTarget w s = startRun (s.onDrive fun d => { d with target := w }) := by
  simp [driveTarget, h, above]

/-- Outside STOPPED the drive takes up a target above 0 and no more. -/
theorem driveTarget_of_ne_stopped {w : Nat} {s : State} (above : w ≠ 0) (h : s.drive.state ≠ .stopped) :
    (driveTarget w s).drive = { s.drive with target := w } := by
  unfold driveTarget
  cases hs : s.drive.state <;> simp_all

theorem driveTarget_driven {w : Nat} {s : State} (above : w ≠ 0) (h : s.drive.state = .stopped) :
    (driveTarget w s).drive.state.quiet = false := by
  simp [driveTarget_of_stopped above h, DriveState.quiet]

/-- The arrival of a target above 0 lifts no bar. -/
theorem targetArrived_barred {b : Bool} {s : State} (above : s.computed.target ≠ 0) (h : Barred b s) :
    Barred b (targetArrived s) := by
  have same : (allowanceFormed s).drive = s.drive := by simp [allowanceFormed]
  obtain ⟨charge, -⟩ := targetArrived_frame s
  by_cases stopped : s.drive.state = .stopped
  · refine .inl (driveTarget_driven ?_ (same ▸ stopped))
    rwa [allowanceFormed_allow]
  · refine h.of_kept ?_ charge
    rw [targetArrived, allowanceFormed_allow, driveTarget_of_ne_stopped above (same ▸ stopped), same]

/-- Under a bar a completion ends with the target of its computation. -/
theorem completeScan_target {r : ScanReading} {s : State} (outputs : lawOutputs s) (barred : Barred false s) :
    (completeScan r s).allow.target = (scanBefore r s).computed.target := by
  by_cases zero : (scanBefore r s).computed.target = 0
  · rw [(completeScan_of_target_zero zero).1, zero]
  · obtain ⟨-, bar⟩ := scanBefore_barred outputs barred (computed_target_ne_zero zero).1
    rw [(completeScan_stays zero (targetArrived_barred zero bar)).allow, targetArrived_allow]

/-- Under a bar a drive outside STOPPED takes the target of a completion as if it came alone (R60). -/
theorem completeScan_drive {r : ScanReading} {s : State} (outputs : lawOutputs s) (barred : Barred false s)
    (running : s.drive.state ≠ .stopped) :
    ((completeScan r s).allow.target = 0 → (completeScan r s).drive = easedDrive s.drive s.now) ∧
    ((completeScan r s).allow.target ≠ 0 →
      (completeScan r s).drive = { s.drive with target := (completeScan r s).allow.target }) := by
  rw [completeScan_target outputs barred]
  refine ⟨fun zero => (completeScan_of_target_zero zero).2, fun above => ?_⟩
  obtain ⟨stays, bar⟩ := scanBefore_barred outputs barred (computed_target_ne_zero above).1
  have same : (allowanceFormed (scanBefore r s)).drive = s.drive := by simp [allowanceFormed, stays.drive]
  rw [(completeScan_stays above (targetArrived_barred above bar)).drive, targetArrived, allowanceFormed_allow,
    driveTarget_of_ne_stopped above (same ▸ running), same]

/-! ### The figures of a completion -/

/-- The figures that the computation reads are those that the completion ends with. -/
theorem scanBefore_figures (r : ScanReading) (s : State) :
    (scanBefore r s).cfg = s.cfg ∧ (scanBefore r s).table = (completeScan r s).table ∧
    (scanBefore r s).packLimit =
      min (tempLimit s.cfg (completeScan r s).pack.tPack) (voltLimit s.cfg (completeScan r s).vMinC) ∧
    (scanBefore r s).pack.iRail = (completeScan r s).pack.iRail ∧
    (scanBefore r s).pack.vPack = (completeScan r s).pack.vPack ∧
    (scanBefore r s).pack.soc = (completeScan r s).pack.soc ∧ (scanBefore r s).allow.low = s.allow.low := by
  have settled := completeScan_settling r s
  have curbing := scanBefore_curbing r s
  have cfg : (scanBefore r s).cfg = s.cfg := by simp [State.cfg, curbing.loader]
  have limit : (completeScan r s).packLimit = (scanBefore r s).packLimit :=
    (completeScan_between r s).limit.trans (allowanceFormed_packLimit _)
  refine ⟨cfg, by simp [settled.frame], ?_, by rw [settled.pack], by rw [settled.pack], by rw [settled.pack],
    curbing.low⟩
  rw [← limit, State.packLimit, settled.cfg, cfg]

theorem completeScan_lowAllowance (r : ScanReading) (s : State) :
    (completeScan r s).hold.reasons.lowAllowance = (completeScan r s).allow.low := by
  have easing := (handReasons_easing (handDrive (targetArrived (scanBefore r s)))).low
  rw [completeScan_eq_arrived]
  simp [handReasons_hold, formHolds_reasons, easing, State.liveReasons]

/-- Stop-suction that stands at the end of a completion stands with a target of 0 (R35). -/
theorem completeScan_target_of_stopped {r : ScanReading} {s : State}
    (stop : (completeScan r s).hold.stopSuction = true) : (completeScan r s).allow.target = 0 := by
  rcases (completeScan_easing r s).stopped stop with before | zero
  · obtain ⟨-, hold, -⟩ := targetArrived_frame (scanBefore r s)
    rw [hold] at before
    exact (completeScan_of_target_zero (by simp [State.computed, newTarget, before])).1
  · exact zero

end Sys2Proof.Proofs
end

section
/-! ## The allowance at a scan completion, clause by clause (R23 to R35, R49, R60, R180) -/

namespace Sys2Proof.Proofs
open Sys2Proof.Machine Sys2Proof.Safety

/-! ### The stages on the figures that a state ends with (R24 to R28) -/

/-- The pack limit on the figures of `t`. -/
def limitOn (c : Settings) (t : State) : Nat := min (tempLimit c t.pack.tPack) (voltLimit c t.vMinC)

/-- The accessory share on the figures of `t`. -/
def shareOn (c : Settings) (t : State) : Nat := min c.iAccCap (limitOn c t - c.iHk)

/-- P_allow on the figures of `t`, with the charge switch open. -/
def allowanceOn (c : Settings) (t : State) : Nat :=
  let reserved := min (shareOn c t) (max t.pack.iRail t.table.wantedDraw)
  min c.pMotorMax ((limitOn c t - reserved - c.iHk) * t.pack.vPack / 1000000)

theorem computed_share (r : ScanReading) (s : State) :
    (scanBefore r s).computed.iShare = shareOn s.cfg (completeScan r s) := by
  obtain ⟨cfg, -, limit, -⟩ := scanBefore_figures r s
  simp only [State.computed, accessoryShare, cfg, limit]
  rfl

theorem computed_allowance (r : ScanReading) (s : State) : (scanBefore r s).computed.pAllow =
    if (scanBefore r s).charge.switch = true then 0 else allowanceOn s.cfg (completeScan r s) := by
  obtain ⟨cfg, table, limit, rail, volts, -⟩ := scanBefore_figures r s
  simp only [State.computed, allowance, motorLimit, reserve, accessoryShare, cfg, limit, table, rail, volts]
  rfl

theorem computed_low (r : ScanReading) (s : State) : (scanBefore r s).computed.low =
    lowAfter s.cfg (scanBefore r s).computed.pAllow s.allow.low := by
  obtain ⟨cfg, -, -, -, -, -, low⟩ := scanBefore_figures r s
  simp only [State.computed, cfg, low]

theorem completeScan_share (r : ScanReading) (s : State) :
    (completeScan r s).allow.iShare = shareOn s.cfg (completeScan r s) := by
  rw [(completeScan_easing r s).share, targetArrived_allow, computed_share]

theorem completeScan_mode (r : ScanReading) (s : State) :
    (completeScan r s).allow.mode = modeInForce (completeScan r s).table.activeRequest := by
  obtain ⟨-, table, -⟩ := scanBefore_figures r s
  rw [(completeScan_easing r s).mode, targetArrived_allow, ← table]
  rfl

theorem completeScan_low (r : ScanReading) (s : State) :
    (completeScan r s).allow.low = lowAfter s.cfg (scanBefore r s).computed.pAllow s.allow.low := by
  rw [(completeScan_easing r s).low, targetArrived_allow, computed_low]

/-! ### With the unit UNDOCKED -/

/-- UNDOCKED, P_allow is the formula's, even where stop-suction begins: no switch closes (R28, R29). -/
theorem completeScan_allowance_of_undocked {r : ScanReading} {s : State} (h : s.charge.phase = .undocked) :
    (completeScan r s).allow.pAllow = allowanceOn s.cfg (completeScan r s) ∧
    (scanBefore r s).computed.pAllow = allowanceOn s.cfg (completeScan r s) := by
  have formula : (scanBefore r s).computed.pAllow = allowanceOn s.cfg (completeScan r s) := by
    rw [computed_allowance, if_neg (by simp [scanBefore_open h])]
  refine ⟨?_, formula⟩
  obtain ⟨charge, -⟩ := targetArrived_frame (scanBefore r s)
  have locked : Locked (targetArrived (scanBefore r s)).charge := .inl (by rw [charge, scanBefore_undocked h])
  have judged := switchJudge_stays (s := targetArrived (scanBefore r s)) (by simp [locked.not_wanted])
  have handed := (handReasons_barred (b := (handDrive (targetArrived (scanBefore r s))).liveReasons.stopsCharge)
    (s := handDrive (targetArrived (scanBefore r s)))
    (.inr (.inl (by simpa [handDrive] using switchJudge_locked locked))) rfl).1
  have zeroing : (handStopSuction (handDrive (targetArrived (scanBefore r s)))).allow.pAllow =
      (handDrive (targetArrived (scanBefore r s))).allow.pAllow := by
    unfold handStopSuction
    split <;> simp [zeroTarget_allow]
  have arrived : (handDrive (targetArrived (scanBefore r s))).allow = (scanBefore r s).computed := by
    simp [handDrive, judged.allow, targetArrived_allow]
  rw [← formula, completeScan_eq_arrived]
  simp [handed.allow, zeroing, arrived]

/-- The slewed target of a completion that begins and ends clear of stop-suction and began clear of LOW_ALLOWANCE
(R33, R34). -/
theorem completeScan_slew {r : ScanReading} {s : State} (outputs : lawOutputs s) (h : s.charge.phase = .undocked)
    (low : s.allow.low = false) (free : (completeScan r s).hold.stopSuction = false) :
    (completeScan r s).allow.target =
      let wanted := wantedPower s.cfg (modeInForce (completeScan r s).table.activeRequest) s.dirt.level
        (completeScan r s).pack.soc s.drive.blocked
      if wanted = 0 then 0
      else slew s.cfg.pRunMin s.allow.target (min wanted (allowanceOn s.cfg (completeScan r s))) := by
  rw [completeScan_stopSuction, Bool.or_eq_false_iff] at free
  obtain ⟨clear, other⟩ := free
  have before : (scanBefore r s).hold.stopSuction = false := by
    rw [(scanBefore_formed r s).1, (scanBefore_curbing r s).low, low, other]
    rfl
  have barred : Barred false s := .inr (.inl (.inl h))
  obtain ⟨stays, -⟩ := scanBefore_barred outputs barred before
  obtain ⟨cfg, table, -, -, -, soc, -⟩ := scanBefore_figures r s
  have target : ∀ u : State, u.computed.target = newTarget u.cfg u.hold.stopSuction u.computed.low
      (wantedPower u.cfg (modeInForce u.table.activeRequest) u.dirt.level u.pack.soc u.drive.blocked) u.computed.pAllow
      u.allow.target := fun _ => rfl
  rw [completeScan_target outputs barred, target, (completeScan_allowance_of_undocked h).2, clear, before, cfg, table, soc,
    stays.dirt, stays.drive, stays.allow]
  simp [newTarget]

theorem completeScan_undocked {r : ScanReading} {s : State} (outputs : lawOutputs s) (h : s.charge.phase = .undocked) :
    let t := completeScan r s
    t.allow.iShare = shareOn s.cfg t ∧ t.allow.pAllow = allowanceOn s.cfg t ∧
    t.allow.mode = modeInForce t.table.activeRequest ∧ t.allow.low = lowAfter s.cfg (allowanceOn s.cfg t) s.allow.low ∧
    t.hold.reasons.lowAllowance = t.allow.low ∧
    (s.hold.stopSuction = false → t.hold.stopSuction = true → t.allow.target = 0) ∧
    (s.hold.stopSuction = false → s.allow.low = false → t.hold.stopSuction = false → t.allow.target =
      let wanted := wantedPower s.cfg (modeInForce t.table.activeRequest) s.dirt.level t.pack.soc s.drive.blocked
      if wanted = 0 then 0 else slew s.cfg.pRunMin s.allow.target (min wanted (allowanceOn s.cfg t))) := by
  obtain ⟨allowed, formula⟩ := completeScan_allowance_of_undocked (r := r) h
  exact ⟨completeScan_share r s, allowed, completeScan_mode r s, by rw [completeScan_low, formula],
    completeScan_lowAllowance r s, fun _ => completeScan_target_of_stopped, fun _ => completeScan_slew outputs h⟩

/-! ### In any charge phase -/

theorem lowAfter_of_lt {c : Settings} {p : Nat} (h : p < c.pRunMin) (before : Bool) : lowAfter c p before = true := by
  simp [lowAfter, h]

theorem completeScan_any_phase (r : ScanReading) (s : State) :
    let t := completeScan r s
    t.allow.iShare = shareOn s.cfg t ∧ t.allow.mode = modeInForce t.table.activeRequest ∧
    (t.charge.switch = true → t.allow.pAllow = 0) ∧ (t.allow.pAllow = allowanceOn s.cfg t ∨ t.allow.pAllow = 0) ∧
    t.hold.reasons.lowAllowance = t.allow.low ∧ (allowanceOn s.cfg t < s.cfg.pRunMin → t.allow.low = true) ∧
    (s.hold.stopSuction = false → t.hold.stopSuction = true → t.allow.target = 0) := by
  have between := completeScan_between r s
  have computed := computed_allowance r s
  refine ⟨completeScan_share r s, completeScan_mode r s, (between.lawAllowance (allowanceFormed_lawAllowance _)).2, ?_,
    completeScan_lowAllowance r s, fun below => ?_, fun _ => completeScan_target_of_stopped⟩
  · have kept := between.pAllow
    rw [allowanceFormed_allow, computed] at kept
    split at kept <;> omega
  · rw [completeScan_low]
    refine lowAfter_of_lt ?_ _
    rw [computed]
    split <;> omega

/-! ### The excess judgement (R180) -/

theorem completeScan_excess (r : ScanReading) (s : State) :
    let t := completeScan r s
    (t.attach.excess = true ↔ t.attach.rail = true ∧ 110 * t.allow.iShare < t.pack.iRail * 100) ∧
    t.attach.overdrawTimer =
      if t.attach.excess = true then some (s.attach.overdrawTimer.getD (s.now + 4000000)) else none := by
  have kept := readingsTaken_frame r s
  have before : RailKept s.attach (scanBefore r s).attach := by
    simpa only [kept] using (scanBefore_easing r s).rail
  have after := (completeScan_easing r s).rail
  have share : (completeScan r s).allow.iShare = (scanBefore r s).computed.iShare := by
    rw [(completeScan_easing r s).share, targetArrived_allow]
  obtain ⟨-, -, -, rail, -⟩ := scanBefore_figures r s
  have now : (scanBefore r s).now = s.now := by simp [State.now, (scanBefore_easing r s).time, kept]
  have judged : (targetArrived (scanBefore r s)).attach = { (scanBefore r s).attach with
      excess := (scanBefore r s).attach.rail &&
        decide (110 * (completeScan r s).allow.iShare < (completeScan r s).pack.iRail * 100)
      overdrawTimer := if (scanBefore r s).attach.rail &&
          decide (110 * (completeScan r s).allow.iShare < (completeScan r s).pack.iRail * 100)
        then some ((scanBefore r s).attach.overdrawTimer.getD (s.now + 4000000)) else none } := by
    have formed : (targetArrived (scanBefore r s)).attach = (allowanceFormed (scanBefore r s)).attach := by
      simp [targetArrived]
    rw [share, ← rail, ← now, formed]
    rfl
  rw [judged] at after
  unfold RailKept at before after
  dsimp only at after ⊢
  rcases after with ⟨hr, he, ht⟩ | ⟨hr, he, ht⟩ <;> rw [hr, he, ht]
  · rcases before with ⟨-, -, timer⟩ | ⟨off, -, -⟩
    · simp [timer]
    · simp [off]
  · simp

/-! ### The drive and a target of 0, state by state (R60) -/

theorem easedDrive_of_stopped {d : Drive} (h : d.state = .stopped) (now : Nat) :
    easedDrive d now = { d with target := 0 } := by simp [easedDrive, h]

theorem easedDrive_of_coast {d : Drive} (h : d.state = .coast) (now : Nat) :
    easedDrive d now = { d with target := 0, restart := false } := by simp [easedDrive, h]

theorem easedDrive_of_fault {d : Drive} (h : d.state = .fault) (now : Nat) :
    easedDrive d now = { d with target := 0 } := by simp [easedDrive, h]

theorem easedDrive_of_driven {d : Drive} (h : d.state.driven = true) (now : Nat) : easedDrive d now =
    { ({ d with target := 0 } : Drive).quieted .coast with coastTimer := some (now + ms 1500), restart := false } := by
  cases hs : d.state <;> simp_all [easedDrive, DriveState.driven]

theorem easedDrive_target (d : Drive) (now : Nat) : (easedDrive d now).target = 0 := by
  unfold easedDrive
  split <;> rfl

@[simp] theorem driveTarget_target (w : Nat) (s : State) : (driveTarget w s).drive.target = w := by
  cases hs : s.drive.state <;> by_cases h : w = 0 <;>
    simp [driveTarget, hs, h, startRun, enterAlign, enterCoast, quietDrive, Drive.quieted, writeDuty]

/-- A completion ends with the drive's target its own (R60). -/
theorem completeScan_drive_target (r : ScanReading) (s : State) :
    (completeScan r s).drive.target = (completeScan r s).allow.target := by
  rcases (completeScan_easing r s).drive with ⟨same, -, target⟩ | ⟨eased, zero⟩
  · rw [same, target, targetArrived_allow, targetArrived, driveTarget_target, allowanceFormed_allow]
  · rw [eased, easedDrive_target, zero]

theorem completeScan_charges (r : ScanReading) (s : State) : ChargesKept s.charge (completeScan r s).charge := by
  have before := (scanBefore_easing r s).charges
  have after := (completeScan_easing r s).charges
  obtain ⟨charge, -⟩ := targetArrived_frame (scanBefore r s)
  rw [charge] at after
  simp only [ChargesKept, readingsTaken_frame] at before after ⊢
  simp [before, after]

/-! ### In STOPPED (R49) -/

theorem scanBefore_stopped {r : ScanReading} {s : State} (h : s.drive.state = .stopped) :
    ∃ w, (scanBefore r s).drive = { s.drive with target := w } := by
  obtain ⟨-, drive, -⟩ := readingsTaken_frame r s
  rcases (scanBefore_easing r s).drive with ⟨same, -⟩ | ⟨eased, -⟩
  · exact ⟨s.drive.target, by rw [same, drive]⟩
  · exact ⟨0, by rw [eased, drive, easedDrive_of_stopped h]⟩

/-- The run that a target above 0 starts in STOPPED (R49, R50, R64). -/
theorem driveTarget_run {w : Nat} {s : State} (above : w ≠ 0) (h : s.drive.state = .stopped) :
    let d := (driveTarget w s).drive
    d.state = .align ∧ d.step = 1 ∧ d.alignTimer = some (s.now + 1200000) ∧
    d.bufDuty = min s.cfg.dutyAlign (s.drive.period - s.cfg.minOff) ∧ d.gatesOn = false ∧
    d.runNumber = (s.drive.runNumber + 1) % 65536 ∧ d.runs = min 65535 (s.drive.runs + 1) ∧ d.rampFailures = 0 ∧
    d.desyncs = 0 ∧ d.restart = false := by
  rw [driveTarget_of_stopped above h]
  exact ⟨rfl, rfl, rfl, rfl, rfl, rfl, rfl, rfl, rfl, rfl⟩

theorem completeScan_lawSwitch (r : ScanReading) (s : State) : lawSwitch (completeScan r s) := by
  have law := handReasons_lawSwitch (handDrive (targetArrived (scanBefore r s)))
  rw [completeScan_eq_arrived]
  simpa [lawSwitch] using law

theorem completeScan_of_stopped {r : ScanReading} {s : State} (h : s.drive.state = .stopped) :
    let t := completeScan r s
    (t.allow.target = 0 → t.drive.state = .stopped ∧ t.drive.runs = s.drive.runs ∧
      t.drive.runNumber = s.drive.runNumber) ∧
    (t.allow.target ≠ 0 → t.drive.state = .align ∧ t.drive.step = 1 ∧ t.drive.alignTimer = some (s.now + 1200000) ∧
      t.drive.bufDuty = min s.cfg.dutyAlign (s.drive.period - s.cfg.minOff) ∧ t.drive.gatesOn = false ∧
      t.drive.target = t.allow.target ∧ t.drive.runNumber = (s.drive.runNumber + 1) % 65536 ∧
      t.drive.runs = min 65535 (s.drive.runs + 1) ∧ t.drive.rampFailures = 0 ∧ t.drive.desyncs = 0 ∧
      t.drive.restart = false ∧ t.charge.switch = false) := by
  dsimp only
  by_cases zero : (scanBefore r s).computed.target = 0
  · obtain ⟨target, drive⟩ := completeScan_of_target_zero zero
    simp [target, drive, easedDrive_of_stopped h, h]
  set v := allowanceFormed (scanBefore r s) with hv
  obtain ⟨w, drive⟩ := scanBefore_stopped (r := r) h
  have formed : v.drive = { s.drive with target := w } := by simp [hv, allowanceFormed, drive]
  have now : v.now = s.now := by
    simp [hv, allowanceFormed, State.now, (scanBefore_easing r s).time, readingsTaken_frame]
  have cfg : v.cfg = s.cfg := by rw [hv, allowanceFormed_cfg, (scanBefore_figures r s).1]
  have stopped : v.drive.state = .stopped := by rw [formed]; exact h
  have above : v.allow.target ≠ 0 := by rwa [hv, allowanceFormed_allow]
  have stays : Stays (driveTarget v.allow.target v) (completeScan r s) :=
    completeScan_stays zero (.inl (driveTarget_driven above stopped))
  have target : (completeScan r s).allow.target ≠ 0 := by simpa [stays.allow] using above
  refine ⟨fun absent => absurd absent target, fun _ => ?_⟩
  have run := driveTarget_run above stopped
  rw [← stays.drive, formed, now, cfg] at run
  obtain ⟨state, step, timer, duty, gates, number, runs, failures, desyncs, restart⟩ := run
  have switch : (completeScan r s).charge.switch = false := by
    rw [Bool.eq_false_iff]
    intro closed
    obtain ⟨-, quiet⟩ := completeScan_lawSwitch r s closed
    simp [state, DriveState.quiet] at quiet
  exact ⟨state, step, timer, duty, gates, completeScan_drive_target r s, number, runs, failures, desyncs, restart,
    switch⟩

/-! ### In a driven state (R60) -/

theorem completeScan_of_driven {r : ScanReading} {s : State} (outputs : lawOutputs s)
    (h : s.drive.state.driven = true) :
    let t := completeScan r s
    (t.allow.target = 0 → t.drive.state = .coast ∧ t.drive.restart = false ∧ t.drive.target = 0 ∧
      t.drive.gatesOn = false ∧ t.drive.appDuty = 0 ∧ t.drive.bufDuty = 0 ∧
      t.drive.coastTimer = some (s.now + 12000000) ∧ t.drive.speed = 0) ∧
    (t.allow.target ≠ 0 → t.drive = { s.drive with target := t.allow.target }) ∧ CountersKept s t := by
  have running : s.drive.state.quiet = false ∧ s.drive.state ≠ .stopped := by
    cases hs : s.drive.state <;> simp_all [DriveState.driven, DriveState.quiet]
  obtain ⟨eased, taken⟩ := completeScan_drive (r := r) outputs (.inl running.1) running.2
  rw [easedDrive_of_driven h] at eased
  have charges := completeScan_charges r s
  refine ⟨fun zero => ?_, taken, ?_⟩
  · rw [eased zero]
    exact ⟨rfl, rfl, rfl, rfl, rfl, rfl, rfl, rfl⟩
  · by_cases zero : (completeScan r s).allow.target = 0
    · simpa [CountersKept, ChargesKept, eased zero, Drive.quieted] using charges
    · simpa [CountersKept, ChargesKept, taken zero] using charges

/-! ### In COAST and in FAULT (R60) -/

/-- A drive at rest has taken up targets: COAST may have lost its restart mark to one of 0. -/
def Rests (d e : Drive) : Prop :=
  ∃ w mark, (mark = d.restart ∨ (d.state = .coast ∧ mark = false)) ∧ e = { d with target := w, restart := mark }

theorem Rests.trans {a b c : Drive} (h : Rests a b) (k : Rests b c) : Rests a c := by
  obtain ⟨v, m, hm, rfl⟩ := h
  obtain ⟨w, n, hn, rfl⟩ := k
  exact ⟨w, n, by grind, rfl⟩

theorem rests_target (d : Drive) (w : Nat) : Rests d { d with target := w } := ⟨w, d.restart, .inl rfl, rfl⟩

theorem rests_eased {d : Drive} (h : d.state = .coast ∨ d.state = .fault) (now : Nat) : Rests d (easedDrive d now) := by
  rcases h with h | h
  · exact ⟨0, false, .inr ⟨h, rfl⟩, easedDrive_of_coast h now⟩
  · exact easedDrive_of_fault h now ▸ rests_target d 0

theorem Rests.atRest {d e : Drive} (h : Rests d e) (rest : d.state = .coast ∨ d.state = .fault) :
    e.state = .coast ∨ e.state = .fault := by
  obtain ⟨w, m, -, rfl⟩ := h
  exact rest

theorem DriveEased.rests {s t : State} (h : DriveEased s t) (rest : s.drive.state = .coast ∨ s.drive.state = .fault) :
    Rests s.drive t.drive := by
  rcases h with ⟨same, -⟩ | ⟨eased, -⟩
  · exact same ▸ rests_target s.drive s.drive.target
  · exact eased ▸ rests_eased rest _

theorem targetArrived_rests {s : State} (rest : s.drive.state = .coast ∨ s.drive.state = .fault) :
    Rests s.drive (targetArrived s).drive := by
  have same : (allowanceFormed s).drive = s.drive := by simp [allowanceFormed]
  by_cases zero : (allowanceFormed s).allow.target = 0
  · rw [targetArrived, zero, driveTarget_zero, same]
    exact rests_eased rest _
  · rw [targetArrived, driveTarget_of_ne_stopped zero (by rw [same]; rcases rest with h | h <;> simp [h]), same]
    exact rests_target _ _

theorem completeScan_rests {r : ScanReading} {s : State} (rest : s.drive.state = .coast ∨ s.drive.state = .fault) :
    Rests s.drive (completeScan r s).drive := by
  obtain ⟨-, drive, -⟩ := readingsTaken_frame r s
  have before : Rests s.drive (scanBefore r s).drive := drive ▸ (scanBefore_easing r s).drive.rests (drive ▸ rest)
  have arrived := before.trans (targetArrived_rests (before.atRest rest))
  exact arrived.trans ((completeScan_easing r s).drive.rests (arrived.atRest rest))

/-- In COAST with the ask disabled outside a charge, or with the switch closed, no switch closes. -/
theorem barred_of_lawAsk {s : State} (ask : lawAsk s) (h : s.charge.phase.charging = false ∨ s.charge.switch = true) :
    Barred false s := by
  by_cases charging : s.charge.phase.charging = true
  · exact .inr (.inr ⟨charging, .inl (h.resolve_left (by simp [charging]))⟩)
  · have idle : s.charge.phase.charging = false := by simpa using charging
    exact .inr (.inl (.inr (.inr ⟨idle, ask.1 idle⟩)))

theorem completeScan_of_rest {r : ScanReading} {s : State} (outputs : lawOutputs s) (ask : lawAsk s)
    (rest : s.drive.state = .coast ∨ s.drive.state = .fault) :
    let t := completeScan r s
    t.drive = { s.drive with target := t.allow.target, restart := t.drive.restart } ∧
    (s.drive.state = .fault ∨ s.charge.phase.charging = false ∨ s.charge.switch = true → t.drive.restart =
      if s.drive.state = .coast ∧ t.allow.target = 0 then false else s.drive.restart) ∧
    (t.drive.restart = s.drive.restart ∨ t.drive.restart = false) ∧ CountersKept s t := by
  obtain ⟨w, mark, hmark, drive⟩ := completeScan_rests (r := r) rest
  have target : (completeScan r s).allow.target = w := by rw [← completeScan_drive_target, drive]
  have charges := completeScan_charges r s
  refine ⟨by rw [target, drive], fun calm => ?_, ?_, by simpa [CountersKept, ChargesKept, drive] using charges⟩
  · by_cases fault : s.drive.state = .fault
    · simp_all
    have coast := rest.resolve_right fault
    obtain ⟨eased, taken⟩ := completeScan_drive (r := r) outputs (barred_of_lawAsk ask (calm.resolve_left fault))
      (by simp [coast])
    by_cases zero : (completeScan r s).allow.target = 0
    · simp [eased zero, easedDrive_of_coast coast, coast, zero]
    · simp [taken zero, zero]
  · rw [drive]
    exact hmark.imp_right And.right

/-! ### All clauses -/

theorem scanCompletion_answers {r : ScanReading} {s : State} (scanning : s.pack.scan ≠ .none) {P : State → Prop}
    (h : P (completeScan r s)) : Answers (exec (.scanCompletion r) s) P := ⟨_, exec_scanCompletion r s scanning, h⟩

/-- Settles O25: the computation's results last to the end of the completion but for the zeroings, which the clauses on
the target exclude by a bar on the switch and by a stop-suction that does not begin. -/
theorem allowanceAtScan : Obligations.AllowanceAtScan := by
  intro s r
  refine ⟨?_, ?_, ?_, ?_, ?_, ?_⟩
  · exact fun scanning outputs undocked _ => scanCompletion_answers scanning (completeScan_undocked outputs undocked)
  · exact fun scanning => scanCompletion_answers scanning (completeScan_any_phase r s)
  · exact fun scanning => scanCompletion_answers scanning (completeScan_excess r s)
  · exact fun scanning stopped => scanCompletion_answers scanning (completeScan_of_stopped stopped)
  · exact fun scanning outputs driven => scanCompletion_answers scanning (completeScan_of_driven outputs driven)
  · exact fun scanning outputs ask rest => scanCompletion_answers scanning (completeScan_of_rest outputs ask rest)

end Sys2Proof.Proofs
end

section
/-! ## What the other blocks do to the drive (R40, R49, R60, R62)

The charge controller, the hold unit, the station table and the power-state controller leave the drive and dirt sensing
as they are, hand the drive a target, quiet it, or end its run. A relation that these four keep, and that chains, is a
`DriveRelation`; every command keeps it but those that `setsDrive` names. -/

namespace Sys2Proof.Proofs
open Sys2Proof.Machine Sys2Proof.Safety

/-- The commands that set the drive or dirt sensing themselves: the power-on, the end of the load (R38), and the drive's
and dirt sensing's own commands but for the two faults, which only quiet the drive (R61). -/
def setsDrive : Instr → Bool
  | .powerOn | .configLoadEnd _ | .periodStart _ _ _ | .busCurrentTrip _ | .alignTimerExpiry | .forcedCommutation
  | .comparatorCapture _ _ _ | .commutationCompareExpiry | .missedCrossingDeadline | .desync | .rampTimerExpiry
  | .controlExpiry | .blockedSet | .blockedClear | .runSecond | .coastTimerExpiry | .envelopeSample _
  | .scoringCompletion | .windowExpiry => true
  | _ => false

/-- A relation between the states before and after what the other blocks do to the drive and dirt sensing. The sample
queue, which an answered SAMPLE shortens (R79), is left out of what is kept. -/
structure DriveRelation (R : State → State → Prop) : Prop where
  trans : ∀ {s t u}, R s t → R t u → R s u
  kept : ∀ {s t}, t.loader = s.loader ∧ t.drive = s.drive ∧ t.dirt = { s.dirt with samples := t.dirt.samples } → R s t
  target : ∀ w s, R s (driveTarget w s)
  quiet : ∀ st s, st.quiet = true → R s (quietDrive st s)
  stopped : ∀ s, R s (enterStopped s)

namespace DriveRelation
variable {R : State → State → Prop} (r : DriveRelation R)
include r

theorem refl (s : State) : R s s := r.kept ⟨rfl, rfl, rfl⟩

theorem events : EventRelation R where
  refl := r.refl
  trans := r.trans
  elapse := fun _ _ => r.kept (by simp)
  publish := fun _ _ => r.kept (by simp)

theorem raise (f : Flag) (s : State) : R s (raise f s) := r.kept (by simp)

theorem powerJudge (s : State) : R s (powerJudge s) := r.kept (by simp)

theorem railJudge (s : State) : R s (railJudge s) := r.kept (by simp)

/-! ### The switch and the target (R29, R35, R99) -/

theorem zeroTarget (s : State) : R s (zeroTarget s) :=
  r.trans (t := s.onAllow fun a => { a with target := 0 }) (r.kept (by simp)) (r.target 0 _)

theorem switchClosed (s : State) : R s (switchClosed s) := by
  have zeroed : R s (s.onAllow fun a => { a with pAllow := 0 }) := r.kept (by simp)
  unfold Machine.switchClosed
  dsimp only
  split
  · exact zeroed
  · exact r.trans zeroed (r.zeroTarget _)

theorem switchJudge (s : State) : R s (switchJudge s) := by
  unfold Machine.switchJudge
  split
  · exact r.refl s
  split
  · exact r.trans (r.kept (by simp)) (r.switchClosed _)
  · exact r.kept (by simp)

theorem chargeSettle (s : State) : R s (chargeSettle s) :=
  r.trans (t := refreshAsk (chargeReview s)) (r.kept (by simp)) (r.switchJudge _)

theorem handDrive (s : State) : R s (handDrive s) := r.trans (r.switchJudge s) (r.powerJudge _)

theorem handCharge (s : State) : R s (handCharge s) := r.trans (r.chargeSettle s) (r.powerJudge _)

theorem endCharge (ph : ChargePhase) (s : State) : R s (endCharge ph s) :=
  r.trans (t := refreshAsk (enterPhase ph s)) (r.kept (by simp)) (r.switchJudge _)

theorem chargeFault (k : FaultKind) (s : State) : R s (chargeFault k s) :=
  r.trans (r.endCharge .fault s) (r.kept (by simp [chargeFault_eq]))

theorem chargeDone (s : State) : R s (chargeDone s) :=
  r.trans (r.endCharge .done s) (r.kept (by simp [chargeDone_eq]))

theorem chargeScan (high throughout : Bool) (s : State) : R s (chargeScan high throughout s) := by
  have fault : R s (highFault high s) := by
    unfold highFault
    split
    · exact r.chargeFault _ s
    · exact r.refl s
  have conclusion : ∀ p u, R u (scanConclusion p u) := by
    intro p u
    have judged : R u (Machine.switchJudge (refreshAsk u)) :=
      r.trans (t := refreshAsk u) (r.kept (by simp)) (r.switchJudge _)
    unfold scanConclusion
    dsimp only
    split
    · exact r.trans judged (r.kept (by simp))
    · exact judged
  have review : ∀ u, R u (scanProgress u.charge.phase (scanReview u)) := by
    intro u
    have reviewed : R u (scanReview u) := r.kept (by simp [scanReview])
    unfold scanProgress
    split
    · exact r.trans reviewed (r.kept (by simp))
    · exact reviewed
  rw [chargeScan_eq]
  exact r.trans (r.trans fault (r.kept (by simp))) (r.trans (review _) (conclusion _ _))

/-! ### The hold unit -/

theorem handReasons (s : State) : R s (handReasons s) := by
  have stopSuction : R s (handStopSuction s) := by
    unfold handStopSuction
    split
    · exact r.trans (t := formHolds s) (r.kept (by simp)) (r.zeroTarget _)
    · exact r.kept (by simp)
  have stopCharge : ∀ b u, R u (handStopCharge b u) := by
    intro b u
    unfold handStopCharge
    split
    · exact r.switchJudge u
    · exact r.chargeSettle u
  rw [handReasons_eq]
  exact r.trans (r.trans (r.trans stopSuction (stopCharge _ _)) (r.railJudge _)) (r.powerJudge _)

theorem onReasons (f : Reasons → Reasons) (s : State) : R s (onReasons f s) :=
  r.trans (r.kept (by simp)) (r.handReasons _)

theorem driveFault (k : FaultKind) (s : State) : R s (driveFault k s) := by
  have latched : R s (Machine.raise .driveFault (quietDrive .fault (pushHistory k s))) :=
    r.trans (r.trans (t := pushHistory k s) (r.kept (by simp)) (r.quiet .fault _ rfl)) (r.raise _ _)
  unfold Machine.driveFault
  dsimp only
  split
  · exact r.trans latched (r.onReasons _ _)
  · exact r.trans (r.trans latched (r.stopped _)) (r.onReasons _ _)

theorem latchTest (s : State) : R s (latchTest s) := by
  have left : R s (leaveFault s) := by
    unfold leaveFault
    split
    · exact r.stopped s
    · exact r.refl s
  unfold Machine.latchTest
  split
  · exact r.trans left (r.onReasons _ _)
  · exact r.refl s

/-! ### The station table, the dock and the head -/

theorem handTable (t0 : Table) (s : State) : R s (handTable t0 s) := by
  have latch : R s (if s.table.wish = t0.wish then s else Machine.latchTest s) := by
    split
    · exact r.refl s
    · exact r.latchTest s
  have holds : ∀ u, R u
      (if u.table.heardUnion u.cfg.holdStations = u.hold.heard then u else Machine.handReasons u) := by
    intro u
    split
    · exact r.refl u
    · exact r.handReasons u
  have dock : ∀ u, R u
      (if tellsDock t0.dockRecord u.table.dockRecord then Machine.handCharge u else Machine.powerJudge u) := by
    intro u
    split
    · exact r.handCharge u
    · exact r.powerJudge u
  exact r.trans (r.trans latch (holds _)) (dock _)

theorem setTable (tb : Table) (s : State) : R s (setTable tb s) := r.trans (r.kept (by simp)) (r.handTable _ _)

theorem supplyEvent (p : SupplyPart) (s : State) : R s (supplyEvent p s) := by
  have faulted : ∀ u, R u
      (if p.state = .fault && u.charge.phase.charging then Machine.chargeFault .dockFault u else u) := by
    intro u
    split
    · exact r.chargeFault _ u
    · exact r.refl u
  exact r.trans (r.kept (by simp)) (faulted _)

theorem undock (b : Bool) (s : State) : R s (undock b s) := by
  have asked : R s (if b && s.charge.phase.charging then putSlot .ask Ask.disabled.payload s else s) := by
    split
    · exact r.kept (by simp)
    · exact r.refl s
  exact r.trans asked (r.trans (r.kept (by simp)) (r.switchJudge _))

theorem removal (s : State) : R s (removal s) := by
  unfold Machine.removal
  exact r.trans (r.trans (r.kept (by simp)) (r.setTable _ _)) (r.onReasons _ _)

theorem judgeContacts (s : State) : R s (judgeContacts s) := by
  unfold Machine.judgeContacts
  (repeat' split)
  · exact r.kept (by simp)
  · exact r.refl s
  · exact r.refl s
  · exact r.removal s
  · exact r.refl s

/-! ### SLEEP, SHIP and the wake -/

theorem quietTarget (s : State) : R s (quietTarget s) := by
  have zeroed : R s ((Machine.zeroTarget s).onAllow fun a => { a with mode := .off }) :=
    r.trans (r.zeroTarget s) (r.kept ⟨rfl, rfl, rfl⟩)
  unfold Machine.quietTarget
  dsimp only
  split
  · exact zeroed
  · exact r.trans zeroed (r.quiet .stopped _ rfl)

theorem quietAll (p : PowerState) (s : State) : R s (Machine.quiet p s) := by
  unfold Machine.quiet
  exact r.trans (r.trans (r.trans (t := s.onPack Pack.quieted) (r.kept (by simp)) (r.quietTarget _))
    (r.undock false _)) (r.kept (by simp))

theorem wake (s : State) : R s (wake s) := by
  unfold Machine.wake
  dsimp only
  exact r.trans (r.trans (r.trans (r.kept (by simp)) (r.judgeContacts _)) (r.railJudge _)) (r.powerJudge _)

theorem wakeByLevel (s : State) : R s (wakeByLevel s) := by
  unfold Machine.wakeByLevel
  split
  · exact r.trans (r.wake s) (r.kept (by simp))
  · exact r.refl s

theorem enterSleep (s : State) : R s (enterSleep s) := r.trans (r.quietAll _ s) (r.wakeByLevel _)

theorem enterShip (s : State) : R s (enterShip s) := r.trans (r.quietAll _ s) (r.wakeByLevel _)

theorem endStarting (s : State) : R s (endStarting s) := by
  unfold Machine.endStarting
  dsimp only
  exact r.trans (r.trans (r.trans (r.kept (by simp)) (r.judgeContacts _)) (r.railJudge _)) (r.powerJudge _)

theorem thenShip (b : Bool) (s : State) : R s (thenShip b s) := by
  unfold Machine.thenShip giveShipOrder
  dsimp only
  (repeat' split)
  · exact r.refl s
  · exact r.kept (by simp)
  · exact r.trans (r.kept (by simp)) (r.enterShip _)
  · exact r.refl s

theorem putReport (p : List Byte) (s : State) : R s (putReport p s) := r.trans (r.kept (by simp)) (r.thenShip _ _)

theorem conflictEvidence (s : State) : R s (conflictEvidence s) := r.trans (r.kept (by simp)) (r.handReasons _)

/-! ### A scan's events (R3) -/

theorem completeScan (q : ScanReading) (s : State) : R s (completeScan q s) := by
  have e := r.events
  have read : ∀ u, R u (scanPack q u) := by
    intro u
    unfold scanPack
    split <;> exact r.trans (r.kept (by simp [clearScan])) (r.handReasons _)
  have temps : ∀ u, R u (scanTemps q u) := by
    intro u
    unfold scanTemps
    split
    · exact r.trans (r.kept (by simp)) (r.handReasons _)
    · exact r.refl u
  have charge : ∀ u, R u (scanCharge q s u) := by
    intro u
    unfold scanCharge
    split
    · exact r.trans (r.chargeScan _ _ u) (r.powerJudge _)
    · exact r.refl u
  have allowance : ∀ u, R u (scanAllowance u) := by
    intro u
    have formed : R u (allowanceFormed u) := r.kept (by simp [allowanceFormed])
    exact r.trans (r.trans (r.trans formed (r.target _ _)) (r.handDrive _)) (r.handReasons _)
  have finished : ∀ b u, R u (startScanEnd b u) := by
    intro b u
    unfold startScanEnd endStartScan
    (repeat' split) <;> exact r.kept (by simp)
  rw [completeScan_eq_before]
  exact r.trans (r.trans (r.trans (r.trans (e.asEvent read s) (e.asEvent temps _)) (e.asEvent charge _))
    (e.asEvent allowance _)) (finished _ _)

/-! ### Notices -/

theorem handledBy {act : Notice → Table → State → State} (hact : ∀ n tb s, R s (act n tb s)) (kind : Notice → Bool)
    (s : State) : AnswersWith R (handledBy kind act s) s :=
  r.events.handledBy (fun _ => r.kept (by simp [dropOldest])) r.setTable (r.raise _) hact kind s

theorem handled {act : Notice → Table → State → State} (hact : ∀ n tb s, R s (act n tb s)) (kind : Notice → Bool)
    (s : State) : AnswersWith R (handled kind act s) s :=
  r.handledBy (fun n tb => r.events.asEvent (hact n tb)) kind s

theorem actEntry (n : Notice) (tb : Table) (s : State) : R s (actEntry n tb s) := r.setTable tb s

theorem actRequest (n : Notice) (tb : Table) (s : State) : R s (actRequest n tb s) :=
  r.trans (r.setTable tb s) (r.kept (by simp [Machine.actRequest]))

theorem actSupply (n : Notice) (tb : Table) (s : State) : R s (actSupply n tb s) :=
  r.trans (r.trans (r.trans (t := s.onTable fun _ => tb) (r.kept (by simp)) (r.supplyEvent _ _)) (r.handTable _ _))
    (r.handCharge _)

theorem actAnswer (form : Notice → State → List Byte) (n : Notice) (tb : Table) (s : State) :
    R s (actAnswer form n tb s) := r.trans (r.setTable tb s) (r.putReport _ _)

theorem actSample (n : Notice) (tb : Table) (s : State) : R s (actSample n tb s) :=
  r.trans (r.trans (r.setTable tb s) (r.kept (by simp))) (r.putReport _ _)

theorem actAction {act : State → State} (hact : ∀ s, R s (act s)) (n : Notice) (tb : Table) (s : State) :
    R s (actAction act n tb s) := by
  have answered : ∀ u, R u (answerAction act n u) := by
    intro u
    unfold answerAction
    split
    · exact r.trans (hact u) (r.putReport _ _)
    · exact r.putReport _ u
  exact r.trans (r.events.asEvent (r.setTable tb) s) (r.events.asEvent answered _)

theorem actShip (n : Notice) (tb : Table) (s : State) : R s (actShip n tb s) := by
  have accepted : ∀ u, R u (acceptShip n u) := by
    intro u
    unfold acceptShip
    dsimp only
    split
    · exact r.putReport _ u
    · exact r.trans (r.putReport _ u) (r.kept ⟨rfl, rfl, rfl⟩)
  refine r.trans (r.setTable tb s) ?_
  unfold Machine.actShip
  dsimp only
  split
  · exact accepted _
  · exact r.putReport _ _

theorem receiveNotice (chars : List Byte) (s : State) : R s (receiveNotice chars s) := by
  refine r.trans (t := s.onLine fun l =>
    { l with reception := none, recessiveFrom := some s.now, dominantFrom := none, risesAt := none })
    (r.kept (by simp)) ?_
  unfold Machine.receiveNotice judgeNotice offerNotice
  (repeat' split)
  · exact r.conflictEvidence _
  · exact r.kept (by simp)
  · exact r.raise _ _
  · exact r.refl _
  · exact r.refl _

/-! ### The line -/

theorem becomeIdle (s : State) : R s (becomeIdle s) := by
  have counted : ∀ (u : Unsettled) (x : State), R x (countError u x) := by
    intro u x
    unfold countError
    dsimp only
    split
    · exact r.kept (by simp)
    · exact r.trans (r.trans (r.kept (by simp)) (r.conflictEvidence _)) (r.thenShip _ _)
  unfold Machine.becomeIdle settle
  split
  · exact r.trans (r.kept (by simp)) (counted _ _)
  · exact r.kept (by simp)

theorem loseHeader (s : State) : R s (loseHeader s) := r.trans (r.kept (by simp)) (r.thenShip _ _)

theorem endErrored (a : Attempt) (s : State) : R s (endErrored a s) := r.trans (r.kept (by simp)) (r.thenShip _ _)

theorem completeAttempt (a : Attempt) (s : State) : R s (completeAttempt a s) :=
  r.trans (r.kept (by simp)) (r.thenShip _ _)

theorem takeBreak (s : State) : R s (takeBreak s) := by
  have held : ∀ u, R u (breakSettled (holdAtBreak (putState (Machine.raise .lineReset u)))) := by
    intro u
    unfold breakSettled holdAtBreak
    split <;> exact r.kept (by simp)
  exact r.trans (r.trans (r.trans (r.kept (by simp)) (r.setTable .reset _)) (held _)) (r.thenShip _ _)

theorem releaseBreak (s : State) : R s (releaseBreak s) := by
  unfold Machine.releaseBreak
  dsimp only
  split
  · exact r.trans (r.kept (by simp)) (r.endStarting _)
  · exact r.kept (by simp)

theorem stickLine (s : State) : R s (stickLine s) :=
  r.trans (r.trans (r.kept (by simp)) (r.handReasons _)) (r.thenShip _ _)

theorem recoverLine (s : State) : R s (recoverLine s) := r.trans (r.kept (by simp)) (r.handReasons _)

theorem fallingEdge (low : Option Nat) (s : State) : R s (fallingEdge low s) := by
  unfold Machine.fallingEdge
  (repeat' split) <;> exact r.kept (by simp)

/-! ### The dock's and the head's commands -/

theorem dockRise (mv : Nat) (s : State) : R s (dockRise mv s) := by
  unfold Machine.dockRise
  dsimp only
  (repeat' split)
  case h_3 => exact r.trans (r.kept (by simp)) (r.wake _)
  case h_4 => exact r.trans (r.kept (by simp)) (r.wake _)
  all_goals exact r.kept (by simp)

theorem dockFall (mv : Nat) (s : State) : R s (dockFall mv s) := by
  have left : ∀ u, R u (leaveDock u) := fun u =>
    r.trans (r.trans (r.kept (by simp)) (r.undock true _)) (r.handReasons _)
  unfold Machine.dockFall
  dsimp only
  (repeat' split)
  case h_2.isTrue => exact r.trans (r.kept (by simp)) (left _)
  all_goals exact r.kept (by simp)

theorem settleDock (s : State) : R s (settleDock s) :=
  r.trans (r.trans (r.kept (by simp)) (r.chargeSettle _)) (r.handReasons _)

theorem unresponsive (s : State) : R s (unresponsive s) := r.trans (r.kept (by simp)) (r.handCharge _)

theorem regulateAsk (s : State) : R s (regulateAsk s) := by
  unfold Machine.regulateAsk stepAsk
  (repeat' split) <;> exact r.trans (r.kept (by simp)) (r.switchJudge _)

theorem contactsAsleep (h1 h2 : Bool) (s : State) : R s (contactsAsleep h1 h2 s) := by
  unfold Machine.contactsAsleep
  split
  · exact r.refl s
  · exact r.trans (r.kept (by simp [setContacts])) (r.wake _)

theorem contactsFall (s : State) : R s (contactsFall s) := by
  unfold Machine.contactsFall headFits
  (repeat' split)
  case h_3 => exact r.contactsAsleep _ _ s
  all_goals exact r.kept (by simp [setContacts])

theorem contactRises (h1 h2 : Bool) (s : State) : R s (contactRises h1 h2 s) := by
  have lets : ∀ u, R u (headLets u) := by
    intro u
    unfold headLets
    split
    · exact r.refl u
    · exact r.kept (by simp)
    · exact r.removal u
  unfold Machine.contactRises
  split
  case h_1 => exact r.trans (r.kept (by simp [setContacts])) (lets _)
  case h_2 => exact r.trans (r.kept (by simp [setContacts])) (lets _)
  case h_3 => exact r.contactsAsleep _ _ s
  all_goals exact r.kept (by simp [setContacts])

theorem latchShort (s : State) : R s (latchShort s) := r.trans (r.kept (by simp)) (r.onReasons _ _)

theorem latchOverdraw (s : State) : R s (latchOverdraw s) := by
  unfold Machine.latchOverdraw
  dsimp only
  split
  · exact r.kept (by simp)
  · exact r.trans (r.kept (by simp)) (r.onReasons _ _)

/-! ### The commands -/

/-- Every command but those that `setsDrive` names keeps the relation. -/
theorem exec (c : Instr) (s : State) (h : setsDrive c = false) : AnswersWith R (exec c s) s := by
  have e := r.events
  cases c with
  | powerOn | configLoadEnd | periodStart | busCurrentTrip | alignTimerExpiry | forcedCommutation | comparatorCapture
  | commutationCompareExpiry | missedCrossingDeadline | desync | rampTimerExpiry | controlExpiry | blockedSet
  | blockedClear | runSecond | coastTimerExpiry | envelopeSample | scoringCompletion | windowExpiry => contradiction
  | scanTimerExpiry => exact e.onTimerQuietly (f := startTimedScan) (fun s => r.kept (by simp [startTimedScan])) _ s
  | cellConversionsEnd => exact answersWith_next (r.kept (by simp))
  | scanCompletion q =>
    refine answersWith_next ?_
    split
    · exact r.refl s
    · exact r.completeScan q s
  | chargeDelivery m => exact e.onTimer (f := deliver m) (fun s => r.kept (by simp [deliver])) _ s
  | overcurrent => exact e.finishIf (r.driveFault _) _ s
  | undervoltageTimerExpiry => exact e.onTimer (r.driveFault _) _ s
  | dockInputRise mv => exact e.finishIf (r.dockRise mv) _ s
  | dockInputFall mv => exact e.finishIf (r.dockFall mv) _ s
  | settleTimerExpiry => exact e.onTimer r.settleDock _ s
  | resendTimerExpiry => exact e.onTimer (f := resendAsk) (fun s => r.kept (by simp [resendAsk])) _ s
  | echoTimerExpiry => exact e.onTimer r.unresponsive _ s
  | regulationExpiry => exact e.onTimer r.regulateAsk _ s
  | terminationTimerExpiry => exact e.onTimer (fun s => r.trans (r.chargeDone s) (r.powerJudge _)) _ s
  | prechargeTimerExpiry | totalTimerExpiry =>
    exact e.onTimer (fun s => r.trans (r.chargeFault _ s) (r.powerJudge _)) _ s
  | noticeReceived chars => exact e.finishIf (r.receiveNotice chars) _ s
  | hold | draw | headDirt | otherClassNotice => exact r.handled r.actEntry _ s
  | request => exact r.handled r.actRequest _ s
  | supply => exact r.handled r.actSupply _ s
  | ident | runs | modeTime | chargeCounts | cellsA | cellsB | fault | holds | table | unknownItem =>
    exact r.handled (r.actAnswer _) _ s
  | sample => exact r.handled r.actSample _ s
  | masterOn | masterOff => exact r.handledBy (r.actAction (r.onReasons _)) _ s
  | clearHistory => exact r.handledBy (r.actAction fun s => r.kept (by simp)) _ s
  | ship => exact r.handled r.actShip _ s
  | lineIdle => exact e.finishIf (fun s => r.trans (e.runTo _ s) (r.becomeIdle _)) _ s
  | headerLoss => exact e.finishIf r.loseHeader _ s
  | bitError =>
    unfold Machine.exec execBitError
    dsimp only
    split
    · exact e.finish (r.endErrored _) s
    · exact e.stay s
  | attemptCompletion =>
    unfold Machine.exec execAttemptCompletion
    dsimp only
    split
    · exact e.finish (fun s => r.trans (e.runTo _ s) (r.completeAttempt _ _)) s
    · exact e.stay s
  | shipOrderTimeout => exact e.onTimer (r.thenShip true) _ s
  | breakInProgress =>
    unfold Machine.exec execBreakInProgress
    dsimp only
    split
    · exact e.onTimerQuietly (f := (·.onLine fun l => { l with state := .inBreak })) (fun s => r.kept (by simp)) _ s
    · exact e.stay s
  | breakTaken => exact e.finishIf (fun s => r.trans (e.runTo _ s) (r.takeBreak _)) _ s
  | ownBreakRelease => exact e.onTimer r.releaseBreak _ s
  | lineStuck =>
    unfold Machine.exec execLineStuck
    dsimp only
    split
    · exact e.onTimer r.stickLine _ s
    · exact e.stay s
  | stuckRecovery => exact e.finishIf (fun s => r.trans (e.runTo _ s) (r.recoverLine _)) _ s
  | conflictTimerExpiry =>
    exact e.onTimer (f := fun s => Machine.handReasons (s.onLine fun l => { l with conflict := none }))
      (fun s => r.trans (r.kept (by simp)) (r.handReasons _)) _ s
  | stateCadenceExpiry | holdoffExpiry => exact e.onTimer (f := putState) (fun s => r.kept (by simp)) _ s
  | holdCadenceExpiry => exact e.onTimer (f := putHold) (fun s => r.kept (by simp)) _ s
  | recordStale st =>
    exact e.onTimer (f := fun s => Machine.setTable (s.table.update st fun q => { q with stale := true }) s)
      (fun s => r.setTable _ s) _ s
  | recordAgeRemoval st =>
    exact e.onTimer (f := fun s => Machine.setTable (s.table.remove st) (Machine.raise .stationLost s))
      (fun s => r.trans (r.raise _ s) (r.setTable _ _)) _ s
  | headContactsLow => exact e.finish r.contactsFall s
  | headContactHigh h1 h2 => exact e.finishIf (r.contactRises h1 h2) _ s
  | seatTimerExpiry => exact e.onTimer (f := seatHead) (fun s => r.kept (by simp [seatHead])) _ s
  | railOnTimerExpiry => exact e.onTimerQuietly (f := railOn) (fun s => r.kept (by simp [railOn])) _ s
  | headRailShort ma => exact e.finishIf r.latchShort _ s
  | overdrawTimerExpiry => exact e.onTimer r.latchOverdraw _ s
  | dozeTimerExpiry => exact e.onTimer r.enterSleep _ s
  | shipTimerExpiry =>
    unfold Machine.exec execShipTimerExpiry
    dsimp only
    split
    · exact e.finish (fun s => r.trans (e.runToSecond _ s) (r.enterShip _)) s
    · exact e.stay s
  | trigEdge edge => exact e.finishIf r.wake _ s
  | sleepBreak =>
    unfold Machine.exec execSleepBreak
    dsimp only
    split
    · exact e.finish (fun s => r.trans (e.runToSteady _ s) (r.wake _)) s
    · exact e.stay s
  | lineFallingEdge low => exact answersWith_next (r.fallingEdge low s)
  | framingError => exact e.nextIf (r.kept (by simp [Machine.discard]))
  | lengthTooGreat len => exact e.nextIf (r.kept (by simp [Machine.discard]))

end DriveRelation

end Sys2Proof.Proofs
end

section
/-! ## The drive after each of its own operations (R43 to R57) -/

namespace Sys2Proof.Proofs
open Sys2Proof.Machine Sys2Proof.Safety

/-- The ticks since the latest crossing, on the 32-bit counter (R45). -/
def crossingInterval (s : State) : Nat := (s.counter - s.drive.tRef).toNat

/-- The drive after a good interval: it enters the ring in place of the oldest (R45, R46). -/
def goodCrossing (d : Drive) (advance now interval : Nat) (counter : Tick) : Drive :=
  let ring := d.ring.drop 1 ++ [interval]
  let avg := ring.sum / 6
  { d with
    ring := ring
    stepAvg := avg
    speed := 80000000 / avg
    badSteps := if d.badSteps = 3 then 3 else 0
    tRef := counter
    crossed := true
    deadline := none
    compare := some (now + (avg / 2 - avg * advance / 100)) }

/-- The drive after a bad interval: ring and speed stay, a bad step counts (R45, R46). -/
def badCrossing (d : Drive) (advance now : Nat) (counter : Tick) : Drive :=
  { d with
    badSteps := min 3 (d.badSteps + 1)
    tRef := counter
    crossed := true
    deadline := none
    compare := some (now + (d.stepAvg / 2 - d.stepAvg * advance / 100)) }

theorem crossingInRun_drive (s : State) : (crossingInRun s).drive =
    if goodIn s.drive.stepAvg (crossingInterval s) = true
      then goodCrossing s.drive s.cfg.advance s.now (crossingInterval s) s.counter
      else badCrossing s.drive s.cfg.advance s.now s.counter := by
  unfold crossingInRun
  by_cases good : goodIn s.drive.stepAvg (crossingInterval s) = true
  · rw [if_pos good]
    rw [crossingInterval] at good
    simp only [onDrive_drive, good, if_true]
    rfl
  · rw [if_neg good]
    rw [crossingInterval] at good
    simp only [onDrive_drive, good]
    rfl

theorem goodIn_iff (avg interval : Nat) :
    goodIn avg interval = true ↔ 1 ≤ interval ∧ avg / 2 ≤ interval ∧ interval ≤ 3 * avg / 2 := by
  simp [goodIn, and_assoc]

/-- The drive after a crossing in RAMP that does not make twelve (R52). -/
def rampCrossing (d : Drive) (off : Nat) : Drive :=
  { d with
    crossed := true
    goodCrossings := if d.forced / 4 ≤ off ∧ off ≤ 3 * d.forced / 4 then d.goodCrossings + 1 else 0 }

/-- The drive at its entry to RUN (R52, R54). -/
def runEntered (d : Drive) (advance now : Nat) (counter : Tick) : Drive :=
  { d with
    state := .run
    rampTimer := none
    forcedTimer := none
    ring := List.replicate 6 d.forced
    stepAvg := d.forced
    speed := 80000000 / d.forced
    tRef := counter
    badSteps := 0
    blocked := false
    blockedSetSince := none
    blockedClearSince := none
    compare := some (now + (d.forced / 2 - d.forced * advance / 100))
    deadline := none
    controlTimer := some (now + 8000)
    powerSum := 0
    powerCount := 0 }

theorem crossingInRamp_eq (off : Nat) (s : State) : crossingInRamp off s =
    if 12 ≤ (rampCrossing s.drive off).goodCrossings then enterRun (s.onDrive (rampCrossing · off))
    else s.onDrive (rampCrossing · off) := by
  simp only [crossingInRamp, Bool.and_eq_true, decide_eq_true_eq]
  rfl

theorem enterRun_drive (s : State) : (enterRun s).drive = runEntered s.drive s.cfg.advance s.now s.counter := rfl

theorem enterRun_dirt (s : State) : (enterRun s).dirt = s.dirt.openRun s.now s.drive.runNumber := rfl

/-- A commutation moves the step from k to k + 1 and 6 to 1 (R43). -/
def nextStep (d : Drive) (counter : Tick) : Drive :=
  { d with step := if d.step = 6 then 1 else d.step + 1, tC := counter, armed := true, crossed := false }

theorem commutateOnCompare_drive (s : State) : (commutateOnCompare s).drive =
    { nextStep s.drive s.counter with compare := none, deadline := some (s.now + 2 * s.drive.stepAvg) } := rfl

theorem missCrossing_drive (s : State) : (missCrossing s).drive =
    { nextStep s.drive s.counter with
      badSteps := min 3 (s.drive.badSteps + 1)
      deadline := some (s.now + 2 * s.drive.stepAvg)
      tRef := s.counter - BitVec.ofNat 32 (s.drive.stepAvg / 2 - s.drive.stepAvg * s.cfg.advance / 100) } := rfl

/-- The duty of a forced commutation, before its clamp (R51). -/
def forcedDuty (s : State) : Nat := rampDuty s.cfg.dutyAlign s.drive.dutyMinRun (s.now - s.drive.rampEntry)

theorem forceCommutation_drive (s : State) : (forceCommutation s).drive =
    { nextStep s.drive s.counter with
      forced := forcedInterval (s.now - s.drive.rampEntry)
      forcedTimer := some (s.now + forcedInterval (s.now - s.drive.rampEntry))
      speed := speedOf (forcedInterval (s.now - s.drive.rampEntry))
      bufDuty := min (forcedDuty s) s.dutyMax } := rfl

theorem nextForced_drive (s : State) : (nextForced s).drive =
    { nextStep s.drive s.counter with
      goodCrossings := if s.drive.crossed then s.drive.goodCrossings else 0
      forced := forcedInterval (s.now - s.drive.rampEntry)
      forcedTimer := some (s.now + forcedInterval (s.now - s.drive.rampEntry))
      speed := speedOf (forcedInterval (s.now - s.drive.rampEntry))
      bufDuty := min (forcedDuty s) s.dutyMax } := rfl

/-- The first forced commutation comes 0 ticks after the entry to RAMP (R50, R51). -/
theorem enterRamp_drive (s : State) : (enterRamp s).drive =
    { nextStep s.drive s.counter with
      state := .ramp
      alignTimer := none
      rampTimer := some (s.now + 3200000)
      rampEntry := s.now
      forced := 40000
      forcedTimer := some (s.now + 40000)
      speed := 2000
      goodCrossings := 0
      bufDuty := min s.cfg.dutyAlign s.dutyMax } := by
  rw [enterRamp, forceCommutation_drive]
  simp [forcedInterval, speedOf, forcedDuty, rampDuty, alongSegment, nextStep, State.now, State.counter, State.cfg,
    State.dutyMax, ms] <;> rfl

theorem controlStep_drive (s : State) : (controlStep s).drive =
    { s.drive with
      bufDuty := min (regulate s.cfg s.drive s.dutyMax (meanPower s.drive.powerSum s.drive.powerCount s.free)) s.dutyMax
      blockedSetSince :=
        if s.cfg.blockedSpeed * 1000 ≤ s.drive.speed then some (s.drive.blockedSetSince.getD s.now) else none
      blockedClearSince :=
        if s.drive.blocked && decide (s.drive.speed < s.cfg.blockedSpeed * 1000 - 10000) then
          some (s.drive.blockedClearSince.getD s.now) else none
      powerSum := 0
      powerCount := 0
      runFraction := min 1000 (s.drive.runFraction + 1)
      controlTimer := s.drive.controlTimer.map (· + 8000) } := rfl

theorem enterAlign_drive (s : State) : (enterAlign s).drive =
    { s.drive with
      bufDuty := min s.cfg.dutyAlign s.dutyMax
      state := .align
      step := 1
      alignTimer := some (s.now + 1200000)
      coastTimer := none
      cutoffs := 0
      cutEarly := false
      gatesOn := false
      speed := 0
      armed := false } := rfl

end Sys2Proof.Proofs
end

section
/-! ## The applied and the buffered duty from step to step (R39, R40) -/

namespace Sys2Proof.Proofs
open Sys2Proof.Machine Sys2Proof.Safety

/-- Each timer of the drive runs in its own state, both duties lie within the PWM period less min_off, and are 0 with
the gates off (R38 to R40). -/
structure DriveSound (c : Settings) (d : Drive) : Prop where
  timers : driveTimers d
  buffered : d.bufDuty ≤ d.period - c.minOff
  applied : d.appDuty ≤ d.period - c.minOff
  quiet : d.state.quiet = true → d.bufDuty = 0 ∧ d.appDuty = 0

theorem driveSound_iff (s : State) : DriveSound s.cfg s.drive ↔ driveTimers s.drive ∧ lawDuty s :=
  ⟨fun h => ⟨h.timers, h.buffered, h.applied, h.quiet⟩, fun ⟨timers, buffered, applied, quiet⟩ =>
    ⟨timers, buffered, applied, quiet⟩⟩

/-- What `DriveSound` reads of a drive: the period, the duties, the state, and which timers run. -/
theorem DriveSound.of_kept {c : Settings} {d e : Drive} (h : DriveSound c d)
    (same : e.state = d.state ∧ e.period = d.period ∧ e.bufDuty = d.bufDuty ∧ e.appDuty = d.appDuty ∧
      e.alignTimer = d.alignTimer ∧ e.rampTimer = d.rampTimer ∧ e.forcedTimer = d.forcedTimer ∧
      e.controlTimer = d.controlTimer ∧ e.coastTimer = d.coastTimer ∧ e.compare = d.compare ∧
      e.deadline = d.deadline) : DriveSound c e := by
  obtain ⟨state, period, buf, app, align, ramp, forced, control, coast, compare, deadline⟩ := same
  obtain ⟨timers, buffered, applied, quiet⟩ := h
  constructor <;>
    simp only [state, period, buf, app, driveTimers, align, ramp, forced, control, coast, compare, deadline]
  · exact timers
  · exact buffered
  · exact applied
  · exact quiet

/-- No timer of the drive runs. -/
def Still (d : Drive) : Prop :=
  d.alignTimer = none ∧ d.rampTimer = none ∧ d.forcedTimer = none ∧ d.controlTimer = none ∧ d.compare = none ∧
  d.deadline = none

theorem DriveSound.still {c : Settings} {d : Drive} (h : DriveSound c d) (quiet : d.state.quiet = true) : Still d := by
  obtain ⟨align, ramp, forced, control, compare, deadline, -⟩ := h.timers
  cases hs : d.state <;> simp_all [DriveState.quiet, Still]

/-- A drive that is quiet with no timer, or in COAST with the coast timer alone (R40, R59). -/
theorem driveSound_of_still {c : Settings} {d : Drive} (still : Still d)
    (coast : d.coastTimer.isSome → d.state = .coast) (zero : d.bufDuty = 0 ∧ d.appDuty = 0) : DriveSound c d := by
  obtain ⟨align, ramp, forced, control, compare, deadline⟩ := still
  obtain ⟨buf, app⟩ := zero
  exact ⟨by simp [driveTimers, align, ramp, forced, control, compare, deadline]; simpa using coast, by simp [buf],
    by simp [app], fun _ => ⟨buf, app⟩⟩

theorem quietDrive_sound (c : Settings) (st : DriveState) (s : State) : DriveSound c (quietDrive st s).drive := by
  apply driveSound_of_still <;> simp [quietDrive, Drive.quieted, Still]

theorem enterCoast_sound (c : Settings) (b : Bool) (s : State) : DriveSound c (enterCoast b s).drive := by
  apply driveSound_of_still <;> simp [enterCoast, quietDrive, Drive.quieted, Still]

/-- The entry to ALIGN from a drive at rest (R50): its duty is clamped (R39). -/
theorem enterAlign_sound {s : State} (h : DriveSound s.cfg s.drive) (quiet : s.drive.state.quiet = true) :
    DriveSound s.cfg (enterAlign s).drive := by
  obtain ⟨align, ramp, forced, control, compare, deadline⟩ := h.still quiet
  exact ⟨by simp [enterAlign, writeDuty, driveTimers, ramp, forced, control, compare, deadline],
    by simp [enterAlign, writeDuty, State.dutyMax], h.applied, fun hq => by simp [DriveState.quiet] at hq⟩

theorem startRun_sound {s : State} (h : DriveSound s.cfg s.drive) (quiet : s.drive.state.quiet = true) :
    DriveSound s.cfg (startRun s).drive :=
  enterAlign_sound (s := s.onDrive _) (h.of_kept (by simp)) quiet

theorem enterStopped_sound (s : State) : DriveSound s.cfg (enterStopped s).drive := by
  have quieted := quietDrive_sound s.cfg .stopped s
  have cfg : (quietDrive .stopped s).cfg = s.cfg := by simp [State.cfg]
  unfold enterStopped
  dsimp only
  split
  · exact quieted
  · exact cfg ▸ startRun_sound (cfg.symm ▸ quieted) (by simp [DriveState.quiet])

theorem driveTarget_sound {s : State} (h : DriveSound s.cfg s.drive) (w : Nat) :
    DriveSound s.cfg (driveTarget w s).drive := by
  have recorded : DriveSound s.cfg (s.onDrive fun d => { d with target := w }).drive := h.of_kept (by simp)
  have coasts : DriveSound s.cfg (if w = 0 then enterCoast false (s.onDrive fun d => { d with target := w })
      else s.onDrive fun d => { d with target := w }).drive := by
    split
    · exact enterCoast_sound _ _ _
    · exact recorded
  unfold driveTarget
  dsimp only
  split
  case h_1 hs =>
    split
    · exact recorded
    · exact startRun_sound (s := s.onDrive _) recorded (by rw [hs]; rfl)
  case h_5 =>
    split
    · exact recorded.of_kept (by simp)
    · exact recorded
  case h_6 => exact recorded
  all_goals exact coasts

/-- The configuration stays, and a sound drive stays sound. -/
structure DutyKept (s t : State) : Prop where
  loader : t.loader = s.loader
  sound : DriveSound s.cfg s.drive → DriveSound t.cfg t.drive

/-- Only the drive's part counts, by what `DriveSound` says of it under the configuration that stays. -/
theorem DutyKept.of_loader {s t : State} (loader : t.loader = s.loader)
    (sound : DriveSound s.cfg s.drive → DriveSound s.cfg t.drive) : DutyKept s t :=
  ⟨loader, by simpa [State.cfg, loader] using sound⟩

theorem dutyKept_relation : DriveRelation DutyKept where
  trans := fun a b => ⟨b.loader.trans a.loader, fun h => b.sound (a.sound h)⟩
  kept := fun ⟨loader, drive, _⟩ => .of_loader loader fun h => drive ▸ h
  target := fun w s => .of_loader (by simp) fun h => driveTarget_sound h w
  quiet := fun st s _ => .of_loader (by simp) fun _ => quietDrive_sound _ st s
  stopped := fun s => .of_loader (by simp) fun _ => enterStopped_sound s

/-! ### The drive's own commands -/

section
variable {R : State → State → Prop} (e : EventRelation R) {f : State → State} {timer : Option Nat} {s : State}
include e

/-- The end of a timer, with what the running timer says of the state. -/
theorem onTimer_of_running (h : ∀ d, timer = some d → R (runTo d s) (f (runTo d s))) :
    AnswersWith R (onTimer timer f s) s := by
  cases timer with
  | none => exact e.stay s
  | some d => exact answersWith_next (e.trans (e.runTo d s) (e.trans (h d rfl) (e.publish s _)))

theorem onTimerQuietly_of_running (h : ∀ d, timer = some d → R (runTo d s) (f (runTo d s))) :
    AnswersWith R (onTimerQuietly timer f s) s := by
  cases timer with
  | none => exact e.stay s
  | some d => exact answersWith_next (e.trans (e.runTo d s) (h d rfl))

end

/-- A change of the drive alone. -/
theorem onDrive_duty {f : Drive → Drive} {s : State} (h : DriveSound s.cfg s.drive → DriveSound s.cfg (f s.drive)) :
    DutyKept s (s.onDrive f) := .of_loader rfl h

/-- PERIOD_START applies the buffered duty (R39). -/
theorem nextPeriod_duty (mv ma : Nat) (low : Option Nat) (s : State) : DutyKept s (nextPeriod mv ma low s) :=
  onDrive_duty fun h => ⟨h.timers, h.buffered, h.buffered, fun hq => ⟨(h.quiet hq).1, (h.quiet hq).1⟩⟩

/-- In ALIGN only the align timer runs. -/
theorem timers_of_align {d : Drive} (h : driveTimers d) (align : d.state = .align) :
    d.rampTimer = none ∧ d.forcedTimer = none ∧ d.controlTimer = none ∧ d.compare = none ∧ d.deadline = none ∧
    d.coastTimer = none := by
  simp_all [driveTimers]

/-- In RAMP only the ramp and forced timers run. -/
theorem timers_of_ramp {d : Drive} (h : driveTimers d) (ramp : d.state = .ramp) :
    d.alignTimer = none ∧ d.controlTimer = none ∧ d.compare = none ∧ d.deadline = none ∧ d.coastTimer = none := by
  simp_all [driveTimers]

/-- In RUN neither the align, ramp and forced timers nor the coast timer run. -/
theorem timers_of_run {d : Drive} (h : driveTimers d) (run : d.state = .run) :
    d.alignTimer = none ∧ d.rampTimer = none ∧ d.forcedTimer = none ∧ d.coastTimer = none := by
  simp_all [driveTimers]

/-- In a driven state a buffered duty within its bound is enough (R39). -/
theorem DriveSound.of_driven {c : Settings} {d e : Drive} (h : DriveSound c d) (timers : driveTimers e)
    (driven : e.state.quiet = false) (same : e.period = d.period ∧ e.appDuty = d.appDuty)
    (buffered : e.bufDuty ≤ d.period - c.minOff) : DriveSound c e := by
  obtain ⟨period, app⟩ := same
  exact ⟨timers, by rwa [period], by rw [app, period]; exact h.applied, fun hq => by simp [driven] at hq⟩

/-- The entry to RAMP at the end of the align timer (R50). -/
theorem enterRamp_duty {s : State} (running : s.drive.alignTimer.isSome) : DutyKept s (enterRamp s) := by
  refine .of_loader (by simp) fun h => ?_
  have align : s.drive.state = .align := by obtain ⟨align, -⟩ := h.timers; exact align running
  rw [enterRamp_drive]
  apply h.of_driven <;>
    simp [nextStep, driveTimers, timers_of_align h.timers align, State.dutyMax, DriveState.quiet]

/-- A forced commutation, which comes in RAMP alone (R51). -/
theorem nextForced_duty {s : State} (running : s.drive.forcedTimer.isSome) : DutyKept s (nextForced s) := by
  refine .of_loader (by simp [nextForced]) fun h => ?_
  have ramp : s.drive.state = .ramp := by obtain ⟨-, -, forced, -⟩ := h.timers; exact forced running
  rw [nextForced_drive]
  apply h.of_driven <;>
    simp [nextStep, driveTimers, timers_of_ramp h.timers ramp, ramp, State.dutyMax, DriveState.quiet]

/-- A change of the drive in RUN that writes no duty, and starts no timer but the compare, the deadline and the control
timer. -/
theorem DriveSound.of_run {c : Settings} {d e : Drive} (h : DriveSound c d) (run : d.state = .run)
    (same : e.state = d.state ∧ e.period = d.period ∧ e.bufDuty = d.bufDuty ∧ e.appDuty = d.appDuty ∧
      e.alignTimer = d.alignTimer ∧ e.rampTimer = d.rampTimer ∧ e.forcedTimer = d.forcedTimer ∧
      e.coastTimer = d.coastTimer) : DriveSound c e := by
  obtain ⟨state, period, buf, app, align, ramp, forced, coast⟩ := same
  refine h.of_driven ?_ (by rw [state, run]; rfl) ⟨period, app⟩ (buf ▸ h.buffered)
  simp [driveTimers, state, run, align, ramp, forced, coast, timers_of_run h.timers run]

theorem crossingInRun_duty {s : State} (run : s.drive.state = .run) : DutyKept s (crossingInRun s) := by
  refine .of_loader (by simp) fun h => ?_
  rw [crossingInRun_drive]
  split
  · exact h.of_run run ⟨rfl, rfl, rfl, rfl, rfl, rfl, rfl, rfl⟩
  · exact h.of_run run ⟨rfl, rfl, rfl, rfl, rfl, rfl, rfl, rfl⟩

/-- The twelfth good crossing enters RUN, with the ramp's timers gone (R52). -/
theorem crossingInRamp_duty {s : State} (ramp : s.drive.state = .ramp) (off : Nat) :
    DutyKept s (crossingInRamp off s) := by
  refine .of_loader (by simp) fun h => ?_
  have counted : DriveSound s.cfg (rampCrossing s.drive off) := h.of_kept (by simp [rampCrossing])
  rw [crossingInRamp_eq]
  split
  · rw [enterRun_drive]
    refine counted.of_driven ?_ rfl ⟨rfl, rfl⟩ counted.buffered
    simp [runEntered, driveTimers, rampCrossing, timers_of_ramp h.timers ramp]
  · exact counted

theorem captureEdge_duty (p : MotorPhase) (e : Edge) (s : State) : DutyKept s (captureEdge p e s) := by
  unfold captureEdge
  split
  · split
    case h_1 run => exact crossingInRun_duty run
    case h_2 ramp => exact crossingInRamp_duty ramp _
    case h_3 => exact dutyKept_relation.refl s
  · exact dutyKept_relation.refl s

/-- The scheduled commutation, whose compare runs in RUN alone (R46). -/
theorem commutateOnCompare_duty {s : State} (running : s.drive.compare.isSome) : DutyKept s (commutateOnCompare s) := by
  refine .of_loader (by simp [commutateOnCompare]) fun h => ?_
  have run : s.drive.state = .run := by obtain ⟨-, -, -, -, compare, -⟩ := h.timers; exact compare running
  rw [commutateOnCompare_drive]
  exact h.of_run run ⟨rfl, rfl, rfl, rfl, rfl, rfl, rfl, rfl⟩

/-- The missed crossing, whose deadline runs in RUN alone (R47). -/
theorem missCrossing_duty {s : State} (running : s.drive.deadline.isSome) : DutyKept s (missCrossing s) := by
  refine .of_loader (by simp [missCrossing]) fun h => ?_
  have run : s.drive.state = .run := by obtain ⟨-, -, -, -, -, deadline, -⟩ := h.timers; exact deadline running
  rw [missCrossing_drive]
  exact h.of_run run ⟨rfl, rfl, rfl, rfl, rfl, rfl, rfl, rfl⟩

/-- A control expiry, which comes in RUN alone, writes a clamped duty (R39, R54, R56). -/
theorem controlStep_duty {s : State} (running : s.drive.controlTimer.isSome) : DutyKept s (controlStep s) := by
  refine .of_loader (by simp [controlStep]) fun h => ?_
  have run : s.drive.state = .run := by obtain ⟨-, -, -, control, -⟩ := h.timers; exact control running
  rw [controlStep_drive]
  apply h.of_driven <;> simp [driveTimers, timers_of_run h.timers run, run, State.dutyMax, DriveState.quiet]

/-- A desync or a failed start: a count, and then a FAULT or a COAST (R53, R58, R61). -/
theorem faultOrCoast_duty (c : Prop) [Decidable c] (k : FaultKind) (s : State) :
    DutyKept s (if c then driveFault k s else handDrive (enterCoast true s)) := by
  have r := dutyKept_relation
  split
  · exact r.driveFault k s
  · exact r.trans (.of_loader (by simp) fun _ => enterCoast_sound _ _ s) (r.handDrive _)

theorem takeDesync_duty (s : State) : DutyKept s (takeDesync s) :=
  dutyKept_relation.trans (onDrive_duty fun h => h.of_kept (by simp)) (faultOrCoast_duty _ .desync _)

theorem failRamp_duty (s : State) : DutyKept s (failRamp s) :=
  dutyKept_relation.trans (onDrive_duty fun h => h.of_kept (by simp)) (faultOrCoast_duty _ .startFail _)

/-- The end of a coast, which comes in COAST alone: the same run goes on in ALIGN, or ends (R59). -/
theorem endCoast_duty {s : State} (running : s.drive.coastTimer.isSome) : DutyKept s (endCoast s) := by
  have r := dutyKept_relation
  unfold endCoast
  split
  · refine r.trans (.of_loader (by simp) fun h => ?_) (r.handDrive _)
    have coast : s.drive.state = .coast := by obtain ⟨-, -, -, -, -, -, coast⟩ := h.timers; exact coast running
    exact enterAlign_sound h (by rw [coast]; rfl)
  · exact r.trans (r.stopped s) (r.handDrive _)

/-- A change of dirt sensing and of the table alone. -/
theorem duty_of_drive_kept {s t : State} (loader : t.loader = s.loader) (drive : t.drive = s.drive) : DutyKept s t :=
  .of_loader loader fun h => drive ▸ h

theorem expireWindow_duty (s : State) : DutyKept s (expireWindow s) := by
  unfold expireWindow
  split <;> exact duty_of_drive_kept rfl rfl

theorem countSecond_duty (m : Mode) (s : State) : DutyKept s (s.onDrive (·.countSecond m)) :=
  onDrive_duty fun h => h.of_kept (by cases m <;> simp [Drive.countSecond])

/-- Every command but POWER_ON and the end of the load keeps the configuration, and a sound drive sound. -/
theorem exec_duty (c : Instr) (s : State) (hp : c ≠ .powerOn) (hl : ∀ b, c ≠ .configLoadEnd b) :
    AnswersWith DutyKept (exec c s) s := by
  have r := dutyKept_relation
  have e := r.events
  by_cases other : setsDrive c = false
  · exact r.exec c s other
  cases c with
  | powerOn => contradiction
  | configLoadEnd b => exact absurd rfl (hl b)
  | periodStart mv ma low => exact e.nextIf (r.trans (e.runTo _ s) (nextPeriod_duty mv ma low _))
  | busCurrentTrip ma => exact e.nextIf (onDrive_duty fun h => h.of_kept (by simp))
  | alignTimerExpiry => exact onTimer_of_running e fun d hd => enterRamp_duty (by simp [hd])
  | forcedCommutation =>
    unfold exec execForcedCommutation
    dsimp only
    split
    · exact onTimerQuietly_of_running e fun d hd => nextForced_duty (by simp [hd])
    · exact e.stay s
  | comparatorCapture after p edge =>
    exact e.finishIf (fun s => r.trans (e.runTo _ s) (captureEdge_duty p edge _)) _ s
  | commutationCompareExpiry => exact onTimerQuietly_of_running e fun d hd => commutateOnCompare_duty (by simp [hd])
  | missedCrossingDeadline => exact onTimerQuietly_of_running e fun d hd => missCrossing_duty (by simp [hd])
  | desync => exact e.finishIf takeDesync_duty _ s
  | rampTimerExpiry => exact e.onTimer failRamp_duty _ s
  | controlExpiry => exact onTimerQuietly_of_running e fun d hd => controlStep_duty (by simp [hd])
  | blockedSet => exact e.onTimer (fun s => r.trans (onDrive_duty fun h => h.of_kept (by simp)) (r.raise _ _)) _ s
  | blockedClear => exact e.onTimer (fun s => onDrive_duty fun h => h.of_kept (by simp)) _ s
  | runSecond => exact e.nextIf (countSecond_duty _ s)
  | coastTimerExpiry => exact onTimer_of_running e fun d hd => endCoast_duty (by simp [hd])
  | envelopeSample code => exact e.onTimerQuietly (f := takeSample code) (fun s => duty_of_drive_kept rfl rfl) _ s
  | scoringCompletion => exact answersWith_next (duty_of_drive_kept rfl rfl)
  | windowExpiry => exact e.onTimer expireWindow_duty _ s
  | _ => exact absurd rfl other

/-- The power-on drive, whatever the PWM period and its start are then (R38, R66). -/
theorem reset_sound (c : Settings) (period start : Nat) :
    DriveSound c { Drive.reset with period := period, periodAt := start } :=
  driveSound_of_still ⟨rfl, rfl, rfl, rfl, rfl, rfl⟩ (by simp [Drive.reset]) ⟨rfl, rfl⟩

/-- Settles O9: the blocks around the drive only hand it targets, quiet it or end its run (`DriveRelation`), each of
which leaves it sound, and its own commands find the state in which their timers run. -/
theorem dutyLaw : Obligations.DutyLaw := by
  rintro s t ⟨loading, timers, duty⟩ stepped
  have kept := step_keeps (P := fun s => DriveSound s.cfg s.drive) ?_ ?_ ?_ (fun _ _ h => h) (fun _ h => h) loading
    ((driveSound_iff s).mpr ⟨timers, duty⟩) stepped
  · exact ⟨kept.1, (driveSound_iff t).mp kept.2⟩
  · exact fun _ _ _ _ => reset_sound _ 0 0
  · exact fun b time pins free pending => reset_sound _ (48000 / (loadResult b).1.fPwm) (6 * time.ticks)
  · intro c s t hp hl sound answered
    have kept := exec_duty c s hp hl t answered
    exact ⟨kept.loader, kept.sound sound⟩

end Sys2Proof.Proofs
end

section
/-! ## The idle step, and commands that have no occasion (R37, log 1, log 2) -/

namespace Sys2Proof.Proofs
open Sys2Proof.Machine Sys2Proof.Safety

/-- Settles O2: the idle step queues the due command, or is one unit of time. -/
theorem idleStep : Obligations.IdleStep := by
  intro s c
  refine ⟨fun waiting due => ?_, fun waiting due => ?_⟩
  · exact ⟨{ s with pending := [c] }, by simp [step, waiting, idle, due], rfl, rfl⟩
  · refine ⟨elapse 1 s, by simp [step, waiting, idle, due], ?_, rfl, rfl, by simp [OnlyIn]⟩
    cases power : s.power.state <;> simp [elapse, PowerState.ticking, power]

/-- A command answers the same state. -/
abbrev NoEffect (o : Out) (s : State) : Prop := Answers o fun t => t = s

theorem noEffect_next (s : State) : NoEffect (.next s) s := ⟨s, rfl, rfl⟩

section
variable {s : State} {f : State → State} {timer : Option Nat}

theorem onTimer_noEffect (absent : timer = none) : NoEffect (onTimer timer f s) s := by
  subst absent
  exact noEffect_next s

theorem onTimerQuietly_noEffect (absent : timer = none) : NoEffect (onTimerQuietly timer f s) s := by
  subst absent
  exact noEffect_next s

theorem finishIf_noEffect {c : Bool} (absent : c = false) : NoEffect (finishIf c f s) s := by
  subst absent
  exact noEffect_next s

theorem nextIf_noEffect {c : Prop} [Decidable c] {t : State} (absent : ¬ c) :
    NoEffect (.next (if c then t else s)) s := by
  rw [if_neg absent]
  exact noEffect_next s

/-- No notice waits, or the unit is not awake: nothing is handled (R120, log 40). -/
theorem handledBy_noEffect (absent : s.running = false ∨ s.line.rx = []) (kind : Notice → Bool)
    (act : Notice → Table → State → State) : NoEffect (handledBy kind act s) s := by
  have none : s.handling kind = none := by rcases absent with h | h <;> simp [State.handling, h]
  rw [handledBy, none]
  exact noEffect_next s

end

theorem forcedCommutation_noEffect {s : State} (absent : s.drive.forcedInRamp = false) :
    NoEffect (exec .forcedCommutation s) s := by
  simp only [exec, execForcedCommutation, absent]
  exact noEffect_next s

theorem endsAt_none {w : Stopwatch} (absent : w.since = none) (limit : Nat) : w.endsAt limit = none := by
  simp [Stopwatch.endsAt, absent]

/-- Settles O60: each command asks for its timer, its attempt or its notice first. -/
theorem noTimerNoEffect : Obligations.NoTimerNoEffect := by
  intro s c q v
  refine ⟨?_, ?_, ?_, ?_, ?_, ?_, ?_, ?_, ?_, ?_, ?_, ?_, ?_, ?_, ?_, ?_, ?_, ?_, ?_, ?_, ?_, ?_, ?_, ?_, ?_,
    ?_, ?_, ?_, ?_, ?_, ?_, ?_, ?_, ?_, ?_⟩
  · rintro absent rfl; exact onTimerQuietly_noEffect absent
  · rintro absent rfl; exact onTimer_noEffect absent
  · rintro absent rfl; exact onTimer_noEffect absent
  · rintro absent rfl; exact forcedCommutation_noEffect (by simp [Drive.forcedInRamp, absent])
  · rintro absent rfl; exact onTimerQuietly_noEffect absent
  · rintro absent rfl; exact onTimerQuietly_noEffect absent
  · rintro absent rfl; exact onTimer_noEffect absent
  · rintro absent rfl; exact onTimerQuietly_noEffect absent
  · rintro absent rfl; exact onTimer_noEffect absent
  · rintro absent rfl; exact onTimerQuietly_noEffect absent
  · rintro absent rfl; exact onTimer_noEffect absent
  · rintro absent rfl; exact onTimer_noEffect absent
  · rintro absent rfl; exact onTimer_noEffect absent
  · rintro absent rfl; exact onTimer_noEffect absent
  · rintro absent rfl; exact onTimer_noEffect absent
  · rintro absent rfl; simp only [exec, execTerminationTimerExpiry, endsAt_none absent]; exact noEffect_next s
  · rintro absent rfl; simp only [exec, execPrechargeTimerExpiry, endsAt_none absent]; exact noEffect_next s
  · rintro absent rfl; simp only [exec, execTotalTimerExpiry, endsAt_none absent]; exact noEffect_next s
  · rintro absent rfl; exact finishIf_noEffect (by simp [State.inHeader, absent])
  · rintro absent rfl; simp only [exec, execBitError, absent]; exact noEffect_next s
  · rintro absent rfl; simp only [exec, execAttemptCompletion, absent]; exact noEffect_next s
  · rintro absent rfl
    simp only [exec, execShipOrderTimeout, absent, Option.map_none]
    exact noEffect_next s
  · rintro absent rfl; exact onTimer_noEffect absent
  · rintro absent rfl; simp only [exec, execConflictTimerExpiry, absent]; exact noEffect_next s
  · rintro absent rfl; exact onTimer_noEffect absent
  · rintro absent rfl
    have held : s.line.holdoffEnds = none := by simp [Line.holdoffEnds, absent]
    simp only [exec, execHoldoffExpiry, held]
    exact noEffect_next s
  · rintro absent rfl; exact onTimer_noEffect absent
  · rintro absent rfl; exact onTimer_noEffect absent
  · rintro absent rfl; exact onTimerQuietly_noEffect absent
  · rintro absent rfl; exact onTimer_noEffect absent
  · rintro absent rfl; exact onTimer_noEffect absent
  · rintro absent rfl; simp only [exec, execShipTimerExpiry, absent]; exact noEffect_next s
  · intro absent notice
    simp only [List.mem_cons, List.not_mem_nil, or_false] at notice
    rcases notice with rfl | rfl | rfl | rfl | rfl | rfl | rfl | rfl | rfl | rfl | rfl | rfl | rfl | rfl | rfl | rfl |
      rfl | rfl | rfl | rfl | rfl <;> exact handledBy_noEffect absent _ _
  · rintro absent rfl; exact finishIf_noEffect absent
  · rintro absent rfl; exact finishIf_noEffect absent

end Sys2Proof.Proofs
end

section
/-! ## The drive's own commands in RAMP and RUN (R43 to R57, R65) -/

namespace Sys2Proof.Proofs
open Sys2Proof.Machine Sys2Proof.Safety

/-! ### How a command answers -/

section
variable {s : State} {f : State → State} {timer : Option Nat} {d : Nat} {P : State → Prop}

/-- The end of a running timer is its effect at its tick, told to the line (log 3). -/
theorem onTimer_answers (running : timer = some d) (h : P (publish s (f (runTo d s)))) :
    Answers (onTimer timer f s) P := by
  subst running
  exact ⟨_, rfl, h⟩

theorem onTimerQuietly_answers (running : timer = some d) (h : P (f (runTo d s))) :
    Answers (onTimerQuietly timer f s) P := by
  subst running
  exact ⟨_, rfl, h⟩

theorem finishIf_answers {c : Bool} (stands : c = true) (h : P (publish s (f s))) : Answers (finishIf c f s) P := by
  subst stands
  exact ⟨_, rfl, h⟩

end

/-- What an event tells the line of an effect that has left the line and the flags alone. -/
theorem publish_told_of_kept {s0 s t : State} (line : t.line = s.line) (report : t.report = s.report) :
    LineTold s (publish s0 t) :=
  lineTold_trans (by simp [LineTold, line, report]) (publish_told s0 t)

theorem runTo_drive (d : Nat) (s : State) : (runTo d s).drive = s.drive := by simp

theorem runTo_cfg (d : Nat) (s : State) : (runTo d s).cfg = s.cfg := by simp [State.cfg]

theorem runTo_dutyMax (d : Nat) (s : State) : (runTo d s).dutyMax = s.drive.period - s.cfg.minOff := by
  simp [State.dutyMax, State.cfg]

/-! ### The BLOCKED mark and the RUN seconds (R57, R65) -/

theorem blockedSetEnds_of_running {d : Drive} {u : Nat} (clear : d.blocked = false)
    (running : d.blockedSetSince = some u) : d.blockedSetEnds = some (u + 8000000) := by
  simp [Drive.blockedSetEnds, clear, running, sec]

theorem blockedClearEnds_of_running {d : Drive} {u : Nat} (set : d.blocked = true)
    (running : d.blockedClearSince = some u) : d.blockedClearEnds = some (u + 8000000) := by
  simp [Drive.blockedClearEnds, set, running, sec]

theorem countSecond_eq (d : Drive) (m : Mode) : d.countSecond m =
    { d with
      runFraction := 0
      secTotal := min 4294967295 (d.secTotal + 1)
      secEco := if m = .eco then min 4294967295 (d.secEco + 1) else d.secEco
      secMid := if m = .mid then min 4294967295 (d.secMid + 1) else d.secMid
      secBoost := if m = .boost then min 4294967295 (d.secBoost + 1) else d.secBoost
      secAuto := if m = .auto then min 4294967295 (d.secAuto + 1) else d.secAuto } := by
  cases m <;> rfl

/-- The mark is set, its clear timer stopped, and BLOCKED raised (R57). -/
def setBlocked (s : State) : State :=
  raise .blocked (s.onDrive fun d => { d with blocked := true, blockedClearSince := none })

theorem setBlocked_told (s0 s : State) : Raised .blocked (publish s0 (setBlocked s)) ∧
    (publish s0 (setBlocked s)).report.shipPending = s.report.shipPending := by
  obtain ⟨-, -, -, -, -, -, -, -, -, -, ship, flags⟩ := publish_told s0 (setBlocked s)
  exact ⟨Raised.told (raise_raised _ _) flags, ship.trans (by simp [setBlocked, raise])⟩

theorem exec_blockedSet (s : State) : exec .blockedSet s = onTimer s.drive.blockedSetEnds setBlocked s := rfl

theorem exec_blockedClear (s : State) : exec .blockedClear s =
    onTimer s.drive.blockedClearEnds
      (·.onDrive fun d => { d with blocked := false, blockedClearSince := none }) s := rfl

theorem exec_runSecond (s : State) : exec .runSecond s =
    .next (if 1000 ≤ s.drive.runFraction then s.onDrive (·.countSecond s.allow.mode) else s) := rfl

/-- BLOCKED_SET at the end `e` of the set timer. -/
theorem blockedSet_answers {s : State} {e : Nat} (ends : s.drive.blockedSetEnds = some e) :
    Answers (exec .blockedSet s) fun t => t.time = (runTo e s).time ∧
      t.drive = { s.drive with blocked := true, blockedClearSince := none } ∧ Raised .blocked t ∧
      t.report.shipPending = s.report.shipPending ∧ OnlyIn [.time, .drive, .line, .report] s t := by
  rw [exec_blockedSet]
  obtain ⟨raised, ship⟩ := setBlocked_told s (runTo e s)
  exact onTimer_answers ends
    ⟨by simp [setBlocked], by simp [setBlocked], raised, by simp [ship], by simp [OnlyIn, setBlocked]⟩

/-- BLOCKED_CLEAR at the end `e` of the clear timer. -/
theorem blockedClear_answers {s : State} {e : Nat} (ends : s.drive.blockedClearEnds = some e) :
    Answers (exec .blockedClear s) fun t => t.time = (runTo e s).time ∧
      t.drive = { s.drive with blocked := false, blockedClearSince := none } ∧
      LineTold s t ∧ OnlyIn [.time, .drive, .line, .report] s t := by
  rw [exec_blockedClear]
  exact onTimer_answers ends ⟨by simp, by simp, publish_told_of_kept (by simp) (by simp), by simp [OnlyIn]⟩

/-- Settles O33: each command runs its one change at the tick of its timer, where its condition stands. -/
theorem blockedMarkAndRunSeconds : Obligations.BlockedMarkAndRunSeconds := by
  intro s u
  refine ⟨fun clear running => blockedSet_answers (blockedSetEnds_of_running clear running),
    fun set running => blockedClear_answers (blockedClearEnds_of_running set running), fun full => ?_, fun absent => ?_,
    fun absent => ?_, fun below => ?_⟩
  · rw [exec_runSecond, if_pos full]
    exact ⟨_, rfl, countSecond_eq _ _, by simp [OnlyIn]⟩
  · rw [exec_blockedSet]
    exact onTimer_noEffect (by rcases absent with h | h <;> simp [Drive.blockedSetEnds, h])
  · rw [exec_blockedClear]
    exact onTimer_noEffect (by rcases absent with h | h <;> simp [Drive.blockedClearEnds, h])
  · rw [exec_runSecond]
    exact nextIf_noEffect (by omega)

/-! ### The commutations (R43, R46, R47, R50, R51) -/

/-- The line of the ramp, its division rounded toward zero (R51). -/
def rampLine (align floor : Int) (t : Nat) : Int :=
  align + (floor + 60 - align) * t / 3200000 +
    (if floor + 60 < align ∧ (floor + 60 - align) * t % 3200000 ≠ 0 then 1 else 0)

theorem alongSegment_ramp (align floor t : Nat) :
    alongSegment align ((floor : Int) + 60 - align) t 3200000 = rampLine align floor t := by
  have neg : ¬ (0 ≤ ((floor : Int) + 60 - align) * t ∨ (3200000 : Int) ∣ ((floor : Int) + 60 - align) * t) ↔
      (floor : Int) + 60 < align ∧ ((floor : Int) + 60 - align) * t % 3200000 ≠ 0 := by
    rw [Int.dvd_iff_emod_eq_zero, not_or, not_le, ← ne_eq]
    refine and_congr_left fun uneven => ⟨fun h => ?_, fun h => ?_⟩
    · by_contra up
      exact absurd h (not_lt.mpr (mul_nonneg (by omega) (by omega)))
    · have moved : (t : Int) ≠ 0 := by
        rintro still
        simp [still] at uneven
      exact mul_neg_of_neg_of_pos (by omega) (by omega)
  rw [alongSegment, rampLine, Int.tdiv_eq_ediv]
  by_cases up : 0 ≤ ((floor : Int) + 60 - align) * t ∨ (3200000 : Int) ∣ ((floor : Int) + 60 - align) * t
  · rw [if_pos up, if_neg (by rw [← neg]; exact not_not.mpr up)]
    omega
  · rw [if_neg up, if_pos (neg.mp up)]
    simp [Int.sign, add_assoc]

/-- The duty that a forced commutation writes, clamped (R39, R51). -/
theorem forcedDuty_clamped (s : State) : ((min (forcedDuty s) s.dutyMax : Nat) : Int) =
    max 0 (min (s.dutyMax : Int)
      (rampLine s.cfg.dutyAlign (s.drive.period / 10 : Nat) (s.now - s.drive.rampEntry))) := by
  rw [forcedDuty, rampDuty, alongSegment_ramp, Drive.dutyMinRun]
  omega

theorem exec_forcedCommutation {s : State} {d e : Nat} (forced : s.drive.forcedTimer = some d)
    (ramp : s.drive.rampTimer = some e) : exec .forcedCommutation s =
      if d ≤ e then onTimerQuietly s.drive.forcedTimer nextForced s else .next s := by
  simp [exec, execForcedCommutation, Drive.forcedInRamp, forced, ramp]

@[simp] theorem nextForced_time (s : State) : (nextForced s).time = s.time := rfl

@[simp] theorem commutateOnCompare_time (s : State) : (commutateOnCompare s).time = s.time := rfl

@[simp] theorem missCrossing_time (s : State) : (missCrossing s).time = s.time := rfl

/-- Settles O28: each commutation is its equation of the drive, at the tick of its timer. -/
theorem commutationsInRampAndRun : Obligations.CommutationsInRampAndRun := by
  intro s d e
  refine ⟨fun running => ?_, fun forced ramp within => ?_, fun forced ramp past => ?_, fun running => ?_,
    fun running => ?_⟩
  · refine onTimer_answers (f := enterRamp) running
      ⟨by simp, ?_, publish_told_of_kept (by simp) (by simp), by simp [OnlyIn]⟩
    simp [enterRamp_drive, nextStep, runTo_dutyMax, runTo_cfg, State.now, State.counter]
  · rw [exec_forcedCommutation forced ramp, if_pos within]
    refine onTimerQuietly_answers forced ⟨by simp, ?_, ?_, by simp [OnlyIn, nextForced]⟩
    · have clamped := forcedDuty_clamped (runTo d s)
      rw [runTo_dutyMax, runTo_cfg] at clamped
      simpa [nextForced_drive, runTo_dutyMax, rampLine, State.now] using clamped
    · simp [nextForced_drive, nextStep, forcedInterval, speedOf, State.now, State.counter]
  · rw [exec_forcedCommutation forced ramp, if_neg (by omega)]
    exact noEffect_next s
  · refine onTimerQuietly_answers running ⟨by simp, ?_, by simp [OnlyIn, commutateOnCompare]⟩
    simp [commutateOnCompare_drive, nextStep, State.now, State.counter]
  · refine onTimerQuietly_answers running ⟨by simp, ?_, by simp [OnlyIn, missCrossing]⟩
    simp [missCrossing_drive, nextStep, State.now, State.counter, runTo_cfg]

/-! ### The control expiry (R54 to R57, R65) -/

/-- The duty that a control expiry writes at a mean power `p`, between duty_min_run and duty_max (R55, R56). -/
def regulatedDuty (s : State) (p : Nat) : Int :=
  min ((s.drive.period - s.cfg.minOff : Nat) : Int)
    (max ((s.drive.period / 10 : Nat) : Int)
      (if 5 * s.drive.target < 4 * p then ((s.drive.bufDuty * s.drive.target / p : Nat) : Int)
       else if s.cfg.overspeed * 1000 < s.drive.speed then (s.drive.bufDuty : Int) - 8
       else (s.drive.bufDuty : Int) + max (-8) (min 8 ((((s.drive.target : Int) - p) * s.cfg.gain).tdiv 16))))

theorem regulate_clamped (s : State) (p : Nat) :
    ((min (regulate s.cfg s.drive s.dutyMax p) s.dutyMax : Nat) : Int) = regulatedDuty s p := by
  simp only [regulate, regulatedDuty, State.dutyMax, Drive.dutyMinRun, clampInt]
  generalize (if 5 * s.drive.target < 4 * p then _ else _ : Int) = raw
  omega

/-- The drive after a control expiry but for its duty: the period's products are gone, the timers of the BLOCKED mark
are judged, a millisecond of RUN counts, and the next expiry keeps the grid (R54, R57, R65). -/
def controlled (c : Settings) (d : Drive) (duty now next : Nat) : Drive :=
  { d with
    bufDuty := duty
    powerSum := 0
    powerCount := 0
    controlTimer := some (next + 8000)
    runFraction := min 1000 (d.runFraction + 1)
    blockedSetSince := if c.blockedSpeed * 1000 ≤ d.speed then some (d.blockedSetSince.getD now) else none
    blockedClearSince :=
      if d.blocked = true ∧ d.speed < c.blockedSpeed * 1000 - 10000 then some (d.blockedClearSince.getD now)
      else none }

theorem controlStep_free (s : State) :
    (controlStep s).free = if s.drive.powerCount = 0 then s.free + 1 else s.free := rfl

@[simp] theorem controlStep_time (s : State) : (controlStep s).time = s.time := rfl

theorem controlExpiry_answers {s : State} {d : Nat} (running : s.drive.controlTimer = some d) :
    Answers (exec .controlExpiry s) fun t =>
      (t.drive.bufDuty : Int) = regulatedDuty s (meanPower s.drive.powerSum s.drive.powerCount s.free) ∧
      t.time = (runTo d s).time ∧ t.drive = controlled s.cfg s.drive t.drive.bufDuty t.now d ∧
      t.free = (if s.drive.powerCount = 0 then s.free + 1 else s.free) ∧ OnlyIn [.time, .drive, .free] s t := by
  refine onTimerQuietly_answers running ⟨?_, by simp, ?_, ?_, ?_⟩
  · have clamped := regulate_clamped (runTo d s) (meanPower s.drive.powerSum s.drive.powerCount s.free)
    simpa [controlStep_drive, regulatedDuty, runTo_cfg] using clamped
  · simp [controlStep_drive, controlled, runTo_cfg, running, State.now]
  · simp [controlStep_free]
  · simp [OnlyIn, controlStep]

/-- Settles O32: one equation of the drive and one of the duty, at the mean of the products or at the free value. -/
theorem controlExpiryRegulates : Obligations.ControlExpiryRegulates := by
  intro s d
  refine ⟨fun running products => ?_, fun running none => ?_⟩
  · obtain ⟨t, answered, duty, time, drive, free, only⟩ := controlExpiry_answers running
    rw [meanPower, if_neg products] at duty
    rw [if_neg products] at free
    exact ⟨t, answered, duty, time, drive, by simpa [OnlyIn, free] using only⟩
  · obtain ⟨t, answered, duty, time, drive, free, only⟩ := controlExpiry_answers running
    rw [meanPower, if_pos none] at duty
    rw [if_pos none] at free
    exact ⟨t, answered, duty, time, drive, free, only⟩

end Sys2Proof.Proofs
end

section
/-! ## The crossings in RUN and RAMP (R44 to R46, R52) -/

namespace Sys2Proof.Proofs
open Sys2Proof.Machine Sys2Proof.Safety

/-! ### Which edge is a crossing -/

theorem accepts_iff (d : Drive) (ph : MotorPhase) (ed : Edge) (off : Nat) : d.accepts ph ed off = true ↔
    d.armed = true ∧ d.crossed = false ∧ floating d.step = (ph, ed) ∧ d.blanking ≤ off := by
  simp [Drive.accepts, and_assoc]

/-- An edge within its step in RAMP or RUN is judged at its tick (R44, log 3). -/
theorem comparatorCapture_answers {s : State} {after : Nat} {ph : MotorPhase} {ed : Edge} {P : State → Prop}
    (state : s.drive.state = .ramp ∨ s.drive.state = .run) (within : s.inStep after = true)
    (h : P (publish s (captureEdge ph ed (runTo (s.now + after) s)))) :
    Answers (exec (.comparatorCapture after ph ed) s) P :=
  finishIf_answers (by simpa [within] using state) h

theorem comparatorCapture_noEffect {s : State} {after : Nat} {ph : MotorPhase} {ed : Edge}
    (outside : (s.drive.state ≠ .run ∧ s.drive.state ≠ .ramp) ∨ s.inStep after = false) :
    NoEffect (exec (.comparatorCapture after ph ed) s) s :=
  finishIf_noEffect (by rcases outside with ⟨h, k⟩ | h <;> simp [*])

/-- An edge that is not accepted is none of the step's (R44). -/
theorem captureEdge_rejected {s : State} {ph : MotorPhase} {ed : Edge}
    (h : s.drive.armed = false ∨ s.drive.crossed = true ∨ floating s.drive.step ≠ (ph, ed) ∨
      s.stepOffset < s.drive.blanking) : captureEdge ph ed s = s := by
  have rejected : s.drive.accepts ph ed s.stepOffset = false := by
    rw [Bool.eq_false_iff, ne_eq, accepts_iff]
    rintro ⟨armed, fresh, kind, late⟩
    rcases h with h | h | h | h
    · simp [armed] at h
    · simp [fresh] at h
    · exact h kind
    · omega
  simp [captureEdge, rejected]

/-- The accepted edge is the step's crossing (R44). -/
theorem captureEdge_accepted {s : State} {ph : MotorPhase} {ed : Edge} (armed : s.drive.armed = true)
    (fresh : s.drive.crossed = false) (kind : floating s.drive.step = (ph, ed))
    (late : s.drive.blanking ≤ s.stepOffset) :
    (s.drive.state = .run → captureEdge ph ed s = Machine.crossingInRun s) ∧
    (s.drive.state = .ramp → captureEdge ph ed s = Machine.crossingInRamp s.stepOffset s) := by
  have accepted := (accepts_iff s.drive ph ed s.stepOffset).mpr ⟨armed, fresh, kind, late⟩
  exact ⟨fun state => by simp [captureEdge, accepted, state], fun state => by simp [captureEdge, accepted, state]⟩

/-! ### The effect of a crossing -/

section
variable {s : State} {after : Nat} {ph : MotorPhase} {ed : Edge}

/-- An edge that is none of the step's changes nothing but the time. -/
theorem comparatorCapture_rejected (state : s.drive.state = .ramp ∨ s.drive.state = .run)
    (within : s.inStep after = true)
    (rejected : s.drive.armed = false ∨ s.drive.crossed = true ∨ floating s.drive.step ≠ (ph, ed) ∨
      ((runTo (s.now + after) s).counter - s.drive.tC).toNat < s.drive.blanking) :
    Answers (exec (.comparatorCapture after ph ed) s) fun t =>
      t.time = (runTo (s.now + after) s).time ∧ LineTold s t ∧ OnlyIn [.time, .line, .report] s t := by
  have same : captureEdge ph ed (runTo (s.now + after) s) = runTo (s.now + after) s :=
    captureEdge_rejected (by simpa [State.stepOffset] using rejected)
  refine comparatorCapture_answers state within ?_
  rw [same]
  exact ⟨by simp, publish_told_of_kept (by simp) (by simp), by simp [OnlyIn]⟩

/-- An accepted edge in RUN is the crossing of the step, at its tick (R44, R45). -/
theorem comparatorCapture_run (state : s.drive.state = .run) (within : s.inStep after = true)
    (armed : s.drive.armed = true) (fresh : s.drive.crossed = false) (kind : floating s.drive.step = (ph, ed))
    (late : s.drive.stepAvg / 4 ≤ ((runTo (s.now + after) s).counter - s.drive.tC).toNat) :
    Answers (exec (.comparatorCapture after ph ed) s) fun t =>
      t.time = (runTo (s.now + after) s).time ∧
      t.drive = (Machine.crossingInRun (runTo (s.now + after) s)).drive ∧
      LineTold s t ∧ OnlyIn [.time, .drive, .line, .report] s t := by
  have crossing : captureEdge ph ed (runTo (s.now + after) s) = Machine.crossingInRun (runTo (s.now + after) s) :=
    (captureEdge_accepted (by simpa) (by simpa) (by simpa)
      (by simpa [Drive.blanking, State.stepOffset, state] using late)).1 (by simpa)
  refine comparatorCapture_answers (.inr state) within ?_
  rw [crossing]
  exact ⟨by simp, by simp, publish_told_of_kept (by simp) (by simp), by simp [OnlyIn]⟩

/-- An accepted edge in RAMP at offset `off` counts or restarts the count, and may enter RUN (R52). -/
theorem comparatorCapture_ramp {off : Nat} (offset : ((runTo (s.now + after) s).counter - s.drive.tC).toNat = off)
    (state : s.drive.state = .ramp) (within : s.inStep after = true) (armed : s.drive.armed = true)
    (fresh : s.drive.crossed = false) (kind : floating s.drive.step = (ph, ed)) (late : s.drive.forced / 4 ≤ off) :
    Answers (exec (.comparatorCapture after ph ed) s) fun t =>
      t.time = (runTo (s.now + after) s).time ∧
      t.drive = (Machine.crossingInRamp off (runTo (s.now + after) s)).drive ∧
      t.dirt = (Machine.crossingInRamp off (runTo (s.now + after) s)).dirt ∧
      LineTold s t ∧ OnlyIn [.time, .drive, .dirt, .line, .report] s t := by
  subst offset
  have crossing : captureEdge ph ed (runTo (s.now + after) s) =
      Machine.crossingInRamp ((runTo (s.now + after) s).counter - s.drive.tC).toNat (runTo (s.now + after) s) := by
    have ramp := (captureEdge_accepted (s := runTo (s.now + after) s) (by simpa) (by simpa) (by simpa)
      (by simpa [Drive.blanking, State.stepOffset, state] using late)).2 (by simpa)
    rwa [State.stepOffset, runTo_drive] at ramp
  refine comparatorCapture_answers (.inl state) within ?_
  rw [crossing]
  exact ⟨by simp, by simp, by simp, publish_told_of_kept (by simp) (by simp), by simp [OnlyIn]⟩

/-- A crossing in RAMP with which the count stays below twelve (R52). -/
theorem crossingInRamp_below {off : Nat} (below : (rampCrossing s.drive off).goodCrossings < 12) :
    Machine.crossingInRamp off s = s.onDrive (rampCrossing · off) := by
  rw [crossingInRamp_eq, if_neg (by omega)]

/-- The twelfth good crossing in a row enters RUN (R52). -/
theorem crossingInRamp_twelfth {off : Nat} (twelfth : 12 ≤ (rampCrossing s.drive off).goodCrossings) :
    Machine.crossingInRamp off s = enterRun (s.onDrive (rampCrossing · off)) := by
  rw [crossingInRamp_eq, if_pos twelfth]

theorem rampCrossing_good {d : Drive} {off : Nat} (early : d.forced / 4 ≤ off) (late : off ≤ 3 * d.forced / 4) :
    rampCrossing d off = { d with crossed := true, goodCrossings := d.goodCrossings + 1 } := by
  simp [rampCrossing, early, late]

theorem rampCrossing_late {d : Drive} {off : Nat} (late : 3 * d.forced / 4 < off) :
    rampCrossing d off = { d with crossed := true, goodCrossings := 0 } := by
  simp [rampCrossing, late]

/-- An edge after the end of the ramp timer is outside its step (R53, log 25). -/
theorem not_inStep_of_rampEnded (state : s.drive.state = .ramp)
    (ended : s.drive.rampTimer.any (fun e => decide (e < s.now + after)) = true) : s.inStep after = false := by
  obtain ⟨e, ramp, past⟩ : ∃ e, s.drive.rampTimer = some e ∧ e < s.now + after := by
    simpa [Option.any_eq_true_iff_get, Option.eq_some_iff_get_eq] using ended
  cases forced : s.drive.forcedTimer with
  | none => simp [State.inStep, Drive.stepEnds, state, forced, ramp, sooner, past]
  | some f => simp [State.inStep, Drive.stepEnds, state, forced, ramp, sooner, past]

end

/-- Settles O29: the drive after the crossing, by whether its interval is good. -/
theorem crossingInRun : Obligations.CrossingInRun := by
  intro s after ph ed
  refine ⟨fun state within armed fresh kind late good => ?_, fun state within armed fresh kind late bad => ?_,
    fun state within rejected => ?_, comparatorCapture_noEffect⟩
  · obtain ⟨t, answered, time, drive, told, only⟩ := comparatorCapture_run state within armed fresh kind late
    rw [crossingInRun_drive, if_pos ((goodIn_iff _ _).mpr (by simpa [crossingInterval] using good))] at drive
    refine ⟨t, answered, time, ?_, told, only⟩
    simpa [goodCrossing, crossingInterval, runTo_cfg, State.now, State.counter, time] using drive
  · obtain ⟨t, answered, time, drive, told, only⟩ := comparatorCapture_run state within armed fresh kind late
    have bad : ¬ goodIn (runTo (s.now + after) s).drive.stepAvg
        (crossingInterval (runTo (s.now + after) s)) = true := by
      rw [goodIn_iff, crossingInterval, runTo_drive]
      omega
    rw [crossingInRun_drive, if_neg bad] at drive
    refine ⟨t, answered, time, ?_, told, only⟩
    simpa [badCrossing, runTo_cfg, State.now, State.counter, time] using drive
  · exact comparatorCapture_rejected (.inr state) within (by simpa [Drive.blanking, state] using rejected)

/-- Settles O30: the count of good crossings, and the entry to RUN at the twelfth. -/
theorem crossingInRamp : Obligations.CrossingInRamp := by
  intro s after ph ed
  obtain ⟨off, offset⟩ : ∃ off, ((runTo (s.now + after) s).counter - s.drive.tC).toNat = off := ⟨_, rfl⟩
  rw [offset]
  refine ⟨fun state within armed fresh kind early late below => ?_, fun state within armed fresh kind late => ?_,
    fun state within armed fresh kind early late eleven => ?_, fun state within rejected => ?_,
    fun state ended => comparatorCapture_noEffect (.inr (not_inStep_of_rampEnded state ended))⟩
  · obtain ⟨t, answered, time, drive, dirt, told, only⟩ :=
      comparatorCapture_ramp offset state within armed fresh kind early
    have good := rampCrossing_good (d := s.drive) early late
    rw [crossingInRamp_below (by simp [good]; omega)] at drive dirt
    exact ⟨t, answered, time, by simpa [good] using drive, told, by simpa [OnlyIn, dirt] using only⟩
  · obtain ⟨t, answered, time, drive, dirt, told, only⟩ :=
      comparatorCapture_ramp offset state within armed fresh kind (by omega)
    have restart := rampCrossing_late (d := s.drive) late
    rw [crossingInRamp_below (by simp [restart])] at drive dirt
    exact ⟨t, answered, time, by simpa [restart] using drive, told, by simpa [OnlyIn, dirt] using only⟩
  · obtain ⟨t, answered, time, drive, dirt, told, only⟩ :=
      comparatorCapture_ramp offset state within armed fresh kind early
    have good := rampCrossing_good (d := s.drive) early late
    rw [crossingInRamp_twelfth (by simp [good]; omega)] at drive dirt
    rw [enterRun_drive] at drive
    rw [enterRun_dirt] at dirt
    refine ⟨t, answered, time, ?_, ?_, told, only⟩
    · simpa [good, runEntered, State.cfg, State.now, State.counter, time] using drive
    · simpa [good, Dirt.openRun, us, ms, State.now, time] using dirt
  · exact comparatorCapture_rejected (.inl state) within
      (by simpa only [offset, Drive.blanking, state, if_true] using rejected)

end Sys2Proof.Proofs
end

section
/-! ## The PWM period and the current trip (R38, R39, R41, R42, R54) -/

namespace Sys2Proof.Proofs
open Sys2Proof.Machine Sys2Proof.Safety

/-- The count at which a period begins by `n`, on the grid of the periods of `p` counts from `a` (R38, log 26). -/
def gridPoint (a p n : Nat) : Nat := 6 * n - (6 * n - a) % p

section
variable {a p n : Nat}

theorem lt_gridPoint_add (pos : p ≠ 0) : 6 * n < gridPoint a p n + p := by
  have below : (6 * n - a) % p < p := Nat.mod_lt _ (by omega)
  unfold gridPoint
  omega

theorem gridPoint_le : gridPoint a p n ≤ 6 * n := Nat.sub_le _ _

/-- A grid point is a number of whole periods after the old one. -/
theorem gridPoint_eq (past : a + p ≤ 6 * n) : gridPoint a p n = a + p * ((6 * n - a) / p) := by
  have split := Nat.mod_add_div (6 * n - a) p
  unfold gridPoint
  omega

theorem gridPoint_whole (past : a + p ≤ 6 * n) : (gridPoint a p n - a) % p = 0 := by
  rw [gridPoint_eq past, Nat.add_sub_cancel_left, Nat.mul_mod_right]

theorem add_le_gridPoint (pos : p ≠ 0) (past : a + p ≤ 6 * n) : a + p ≤ gridPoint a p n := by
  have one : 1 ≤ (6 * n - a) / p := (Nat.one_le_div_iff (by omega)).mpr (by omega)
  rw [gridPoint_eq past]
  exact Nat.add_le_add_left (Nat.le_mul_of_pos_right p one) a

/-- The first tick at which the running period is over lies before the grid point after the next. -/
theorem gridPoint_next (long : 6 ≤ p) : gridPoint a p ((a + p + 5) / 6) = a + p := by
  have split : (6 * ((a + p + 5) / 6) - a) % p = 6 * ((a + p + 5) / 6) - a - p := by
    rw [Nat.mod_eq_sub_mod (by omega), Nat.mod_eq_of_lt (by omega)]
  rw [gridPoint, split]
  omega

end

theorem nextPeriod_drive (mv ma : Nat) (low : Option Nat) (s : State) : (nextPeriod mv ma low s).drive =
    s.drive.beginPeriod mv ma low (gridPoint s.drive.periodAt s.drive.period s.now) s.now := rfl

@[simp] theorem nextPeriod_time (mv ma : Nat) (low : Option Nat) (s : State) : (nextPeriod mv ma low s).time = s.time :=
  rfl

section
variable (d : Drive) (mv ma : Nat) (low : Option Nat) (at_ now : Nat)

theorem beginPeriod_eq : d.beginPeriod mv ma low at_ now =
    { d with
      periodAt := at_
      appDuty := d.bufDuty
      gatesOn := d.state.driven
      cutEarly := false
      cutoffs := (d.beginPeriod mv ma low at_ now).cutoffs
      uvSince := d.lowSince mv low now
      powerSum := d.powerSum + (if d.state = .run then mv * ma else 0)
      powerCount := d.powerCount + (if d.state = .run then 1 else 0) } := by
  by_cases run : d.state = .run <;> simp [Drive.beginPeriod, run]

theorem beginPeriod_cutoffs : (d.beginPeriod mv ma low at_ now).cutoffs =
    if d.cutEarly = true ∨ 8 ≤ d.cutoffs then min 8 (d.cutoffs + 1) else 0 := by
  simp [Drive.beginPeriod]

variable {d mv low now}

/-- The undervoltage timer runs where the voltage is judged and low (R42, log 27). -/
theorem lowSince_low (below : mv < 14000) (watched : d.state.driven = true ∨ d.state = .coast) :
    d.lowSince mv low now = some (max d.watchedFrom (d.fellAt low now)) := by
  rw [Drive.lowSince, if_pos (by simpa [DriveState.watched, below] using watched)]

theorem lowSince_high (above : 14000 ≤ mv) : d.lowSince mv low now = none := by
  simp [Drive.lowSince, above]

theorem lowSince_unwatched (still : d.state = .stopped ∨ d.state = .fault) : d.lowSince mv low now = none := by
  rcases still with h | h <;> simp [Drive.lowSince, DriveState.watched, DriveState.driven, h]

end

theorem exec_periodStart (s : State) (mv ma : Nat) (low : Option Nat) : exec (.periodStart mv ma low) s =
    .next (if s.drive.period ≠ 0 ∧ s.power.state.ticking then
      nextPeriod mv ma low (runTo s.drive.periodEnds s) else s) := rfl

theorem exec_busCurrentTrip (s : State) (ma : Nat) : exec (.busCurrentTrip ma) s =
    .next (if s.drive.state.driven ∧ s.legsOn ∧ s.cfg.iTrip * 1000 < ma then
      s.onDrive fun d => { d with cutEarly := true } else s) := rfl

/-- Settles O26: the period starts on its grid with `beginPeriod`'s drive; the trip ends the on-pulse. -/
theorem pwmPeriodAndTrip : Obligations.PwmPeriodAndTrip := by
  intro s mv ma low
  refine ⟨fun pos ticking => ?_, fun absent => ?_, fun driven on past => ?_, fun absent => ?_⟩
  · obtain ⟨r, hr⟩ : ∃ r, runTo s.drive.periodEnds s = r := ⟨_, rfl⟩
    have now : r.now = max ((s.drive.periodAt + s.drive.period + 5) / 6) s.now := by
      rw [← hr, runTo_now _ _ ticking, Drive.periodEnds]
    have past : s.drive.periodAt + s.drive.period ≤ 6 * r.now := by omega
    have next : (nextPeriod mv ma low r).drive =
        s.drive.beginPeriod mv ma low (gridPoint s.drive.periodAt s.drive.period r.now) r.now := by
      rw [nextPeriod_drive, ← hr, runTo_drive]
    have now' : (nextPeriod mv ma low r).now = r.now := by simp [State.now]
    have cutoffs := beginPeriod_cutoffs s.drive mv ma low (gridPoint s.drive.periodAt s.drive.period r.now) r.now
    rw [exec_periodStart, if_pos ⟨pos, ticking⟩, hr]
    refine ⟨_, rfl, by rw [nextPeriod_time, ← hr, Drive.periodEnds], ?_⟩
    rw [next, now']
    refine ⟨lt_gridPoint_add pos, fun _ => ⟨gridPoint_le, add_le_gridPoint pos past, gridPoint_whole past, ?_⟩,
      beginPeriod_eq .., fun early => ?_, fun full below => ?_, fun above => lowSince_high above,
      fun below watched => ?_, fun still => lowSince_unwatched still, ?_⟩
    · intro early long
      rw [now, max_eq_left early]
      exact gridPoint_next long
    · rw [cutoffs, if_pos (.inl early)]
    · rw [cutoffs, if_neg (by simp [full, below])]
    · refine (lowSince_low below watched).trans ?_
      cases low <;> rfl
    · simp [OnlyIn, ← hr, nextPeriod]
  · rw [exec_periodStart]
    exact nextIf_noEffect (by rcases absent with h | h <;> simp [h])
  · rw [exec_busCurrentTrip, if_pos ⟨driven, on, past⟩]
    exact ⟨_, rfl, rfl, by simp [State.legsOn], by simp [OnlyIn]⟩
  · rw [exec_busCurrentTrip]
    refine nextIf_noEffect ?_
    rintro ⟨driven, on, past⟩
    rcases absent with h | h | h
    · simp [h] at driven
    · simp [h] at on
    · omega

end Sys2Proof.Proofs
end

section
/-! ## The drive told of its own change (R49, R59, R99, R184) -/

namespace Sys2Proof.Proofs
open Sys2Proof.Machine Sys2Proof.Safety

/-! ### The charge controller and the power-state controller are told -/

section
variable {s : State}

/-- A driven state keeps the charge switch open, so nothing comes back to the drive (R99). -/
theorem handDrive_driven (driven : s.drive.state.quiet = false) :
    Stays s (handDrive s) ∧ (handDrive s).charge.switch = false := by
  have open_ : s.switchWanted = false := by simp [State.switchWanted, driven]
  obtain ⟨allow, drive, dirt⟩ := switchJudge_stays (s := s) (by simp [open_])
  refine ⟨⟨?_, ?_, ?_⟩, ?_⟩
  · simpa [Machine.handDrive] using allow
  · simpa [Machine.handDrive] using drive
  · simpa [Machine.handDrive] using dirt
  · simpa [Machine.handDrive, switchJudge_switch] using open_

theorem handDrive_charges (s : State) : ChargesKept s.charge (handDrive s).charge := (handDrive_easing s).charges

/-- The blocks that a change of the drive's own state may reach (R63, R99, R184). -/
abbrev driveBlocks : List Block := [.time, .pack, .allow, .drive, .dirt, .charge, .line, .report, .power]

theorem handDrive_onlyIn {s t : State} (h : OnlyIn [.time, .drive, .dirt] s t) (s0 : State) :
    OnlyIn driveBlocks s (publish s0 (handDrive t)) := by
  simp_all [OnlyIn]

end

/-! ### The end of a coast (R49, R59, R64) -/

theorem quietDrive_drive (st : DriveState) (s : State) : (quietDrive st s).drive = s.drive.quieted st := by
  unfold quietDrive
  split <;> rfl

theorem endCoast_restart {s : State} (mark : s.drive.restart = true) (target : s.drive.target ≠ 0) :
    endCoast s = handDrive (enterAlign s) := by
  rw [endCoast, if_pos ⟨mark, target⟩]

theorem endCoast_new {s : State} (mark : s.drive.restart = false) (target : s.drive.target ≠ 0) :
    endCoast s = handDrive (startRun (quietDrive .stopped s)) := by
  have kept : (quietDrive .stopped s).drive.target ≠ 0 := by simpa [quietDrive_drive, Drive.quieted] using target
  rw [endCoast, if_neg (by simp [mark]), enterStopped, if_neg kept]

theorem endCoast_stops {s : State} (target : s.drive.target = 0) :
    endCoast s = handDrive (quietDrive .stopped s) := by
  have kept : (quietDrive .stopped s).drive.target = 0 := by simpa [quietDrive_drive, Drive.quieted] using target
  rw [endCoast, if_neg (by simp [target]), enterStopped, if_pos kept]

/-- A drive that has been told to the others in STOPPED is STOPPED, with no target or the one it had. -/
theorem handDrive_stopped {s : State} (h : s.drive.state = .stopped) :
    ∃ w, (handDrive s).drive = { s.drive with target := w } := by
  rcases (handDrive_easing s).drive with ⟨same, -⟩ | ⟨eased, -⟩
  · exact ⟨s.drive.target, same⟩
  · exact ⟨0, by rw [eased, easedDrive_of_stopped h]⟩

/-- A run starts: its number and the saturating count rise, its restart counts are 0, and the drive is in ALIGN
(R49, R50, R64). -/
theorem startRun_drive (s : State) : (startRun s).drive =
    { s.drive with
      runNumber := (s.drive.runNumber + 1) % 65536
      runs := min 65535 (s.drive.runs + 1)
      rampFailures := 0
      desyncs := 0
      restart := false
      watchedFrom := s.now
      bufDuty := min s.cfg.dutyAlign (s.drive.period - s.cfg.minOff)
      state := .align
      step := 1
      alignTimer := some (s.now + 1200000)
      coastTimer := none
      cutoffs := 0
      cutEarly := false
      gatesOn := false
      speed := 0
      armed := false } := rfl

theorem enterAlign_quiet (s : State) : (enterAlign s).drive.state.quiet = false := rfl

theorem startRun_quiet (s : State) : (startRun s).drive.state.quiet = false := rfl

/-- Settles O34: the same run goes on in ALIGN, or a new one begins there, or STOPPED is told to the others. -/
theorem coastEnds : Obligations.CoastEnds := by
  intro s d
  refine ⟨fun running mark target => ?_, fun running mark target => ?_, fun running target => ?_⟩
  · refine onTimer_answers running ?_
    rw [endCoast_restart (by simpa using mark) (by simpa using target)]
    obtain ⟨⟨-, drive, -⟩, switch⟩ := handDrive_driven (enterAlign_quiet (runTo d s))
    have charges := handDrive_charges (enterAlign (runTo d s))
    have only := handDrive_onlyIn (s := s) (t := enterAlign (runTo d s)) (by simp [OnlyIn]) s
    refine ⟨by simp, ?_⟩
    simpa [drive, enterAlign_drive, switch, runTo_cfg, runTo_dutyMax, State.now, CountersKept, ChargesKept]
      using And.intro charges only
  · refine onTimer_answers running ?_
    rw [endCoast_new (by simpa using mark) (by simpa using target)]
    obtain ⟨⟨-, drive, -⟩, switch⟩ := handDrive_driven (startRun_quiet (quietDrive .stopped (runTo d s)))
    have only := handDrive_onlyIn (s := s) (t := startRun (quietDrive .stopped (runTo d s))) (by simp [OnlyIn]) s
    refine ⟨by simp, ?_⟩
    simpa [drive, startRun_drive, switch, quietDrive_drive, Drive.quieted, State.cfg, State.now] using only
  · refine onTimer_answers running ?_
    rw [endCoast_stops (by simpa using target)]
    obtain ⟨w, drive⟩ := handDrive_stopped (quietDrive_state .stopped (runTo d s))
    have charges := handDrive_charges (quietDrive .stopped (runTo d s))
    have only := handDrive_onlyIn (s := s) (t := quietDrive .stopped (runTo d s)) (by simp [OnlyIn]) s
    refine ⟨by simp, ?_⟩
    simpa [drive, quietDrive_drive, Drive.quieted, CountersKept, ChargesKept] using And.intro charges only

end Sys2Proof.Proofs
end

section
/-! ## The restart and the faults of the drive (R42, R48, R53, R58, R61, R62, R166) -/

namespace Sys2Proof.Proofs
open Sys2Proof.Machine Sys2Proof.Safety

/-! ### Dirt sensing as the drive leaves RUN (R68, R87) -/

/-- Outside RUN the queue and L stay, and RUN does not begin; where RUN has been left, both are cleared (R87). -/
structure RunLeft (s t : State) : Prop where
  atRest : s.drive.state ≠ .run →
    t.drive.state ≠ .run ∧ t.dirt.level = s.dirt.level ∧ t.dirt.queue = s.dirt.queue
  left : s.drive.state = .run → t.drive.state ≠ .run → t.dirt.level = 0 ∧ t.dirt.queue = []

theorem RunLeft.trans {s t u : State} (a : RunLeft s t) (b : RunLeft t u) : RunLeft s u where
  atRest rest := by
    obtain ⟨state, level, queue⟩ := a.atRest rest
    obtain ⟨state', level', queue'⟩ := b.atRest state
    exact ⟨state', level'.trans level, queue'.trans queue⟩
  left run rest := by
    by_cases still : t.drive.state = .run
    · exact b.left still rest
    · obtain ⟨level, queue⟩ := a.left run still
      obtain ⟨-, level', queue'⟩ := b.atRest still
      exact ⟨level'.trans level, queue'.trans queue⟩

/-- The state, the queue and L are the same. -/
theorem RunLeft.of_kept {s t : State} (state : t.drive.state = s.drive.state)
    (dirt : t.dirt = { s.dirt with samples := t.dirt.samples }) : RunLeft s t where
  atRest rest := ⟨state ▸ rest, by rw [dirt], by rw [dirt]⟩
  left run rest := absurd (state.trans run) rest

/-- The drive is out of RUN, and dirt sensing is closed where it was in it. -/
theorem RunLeft.of_closed {s t : State} (state : t.drive.state ≠ .run)
    (dirt : t.dirt = if s.drive.state = .run then s.dirt.closeRun else s.dirt) : RunLeft s t where
  atRest rest := by
    rw [if_neg rest] at dirt
    exact ⟨state, by rw [dirt], by rw [dirt]⟩
  left run _ := by
    rw [if_pos run] at dirt
    rw [dirt]
    exact ⟨rfl, rfl⟩

theorem quietDrive_dirt (st : DriveState) (s : State) : (quietDrive st s).dirt =
    if s.drive.state = .run then s.dirt.closeRun else s.dirt := by
  unfold quietDrive
  split <;> rfl

theorem enterCoast_runLeft (b : Bool) (s : State) : RunLeft s (enterCoast b s) :=
  .of_closed (by simp) (quietDrive_dirt .coast s)

theorem enterStopped_runLeft (s : State) : RunLeft s (enterStopped s) := by
  have state : (enterStopped s).drive.state ≠ .run := by
    rcases enterStopped_state s with h | h <;> simp [h]
  refine .of_closed state ?_
  unfold enterStopped
  dsimp only
  split
  · exact quietDrive_dirt .stopped s
  · simp [quietDrive_dirt]

theorem driveTarget_runLeft (w : Nat) (s : State) : RunLeft s (driveTarget w s) := by
  have recorded : RunLeft s (s.onDrive fun d => { d with target := w }) := .of_kept (by simp) (by simp)
  have coasts : RunLeft s (if w = 0 then enterCoast false (s.onDrive fun d => { d with target := w })
      else s.onDrive fun d => { d with target := w }) := by
    split
    · exact recorded.trans (enterCoast_runLeft false _)
    · exact recorded
  unfold driveTarget
  dsimp only
  cases hs : s.drive.state with
  | stopped =>
    simp only [onDrive_drive, hs]
    split
    · exact recorded
    · exact .of_closed (by simp) (by simp [hs])
  | align => simpa [hs] using coasts
  | ramp => simpa [hs] using coasts
  | run => simpa [hs] using coasts
  | coast =>
    simp only [onDrive_drive, hs]
    split
    · exact recorded.trans (.of_kept (by simp) (by simp))
    · exact recorded
  | fault => simpa [hs] using recorded

theorem runLeft_relation : DriveRelation RunLeft where
  trans := .trans
  kept := fun ⟨_, drive, dirt⟩ => .of_kept (by rw [drive]) dirt
  target := driveTarget_runLeft
  quiet := fun st s quiet => .of_closed (by cases st <;> simp_all [DriveState.quiet]) (quietDrive_dirt st s)
  stopped := enterStopped_runLeft

/-- L after the drive has left RUN, or was not in it. -/
theorem RunLeft.level {s t : State} (h : RunLeft s t) (rest : t.drive.state ≠ .run) :
    t.dirt.level = if s.drive.state = .run then 0 else s.dirt.level := by
  split
  case isTrue run => exact (h.left run rest).1
  case isFalse still => exact (h.atRest still).2.1

/-! ### The coast with the restart mark (R48, R53, R59) -/

/-- What a desync and a failed start have in common. -/
abbrev Coasted (s t : State) : Prop :=
  t.drive.state = .coast ∧ t.drive.coastTimer = some (t.now + 12000000) ∧ t.drive.gatesOn = false ∧
  t.drive.appDuty = 0 ∧ t.drive.bufDuty = 0 ∧ t.drive.speed = 0 ∧ t.drive.compare = none ∧ t.drive.deadline = none ∧
  t.drive.forcedTimer = none ∧ t.drive.armed = false ∧ t.drive.blocked = false ∧
  (s.charge.phase.charging = false → t.drive.restart = true ∧ t.drive.target = s.drive.target) ∧ CountersKept s t ∧
  t.hold.history = s.hold.history ∧ (s.running = true → t.power.state = .awake) ∧ OnlyIn driveBlocks s t

/-- A drive out of STOPPED keeps the unit AWAKE (R184). -/
theorem powerJudge_awake {s : State} (running : s.running = true) (moving : s.drive.state ≠ .stopped) :
    (powerJudge s).power.state = .awake := by
  have kept : s.keptAwake = true := by simp [State.keptAwake, moving]
  rw [powerJudge, if_pos running, kept]
  by_cases awake : s.power.state = .awake <;> simp [powerTimers, enterAwakeOrDoze, awake]

theorem enterCoast_drive (b : Bool) (s : State) : (enterCoast b s).drive =
    { s.drive.quieted .coast with coastTimer := some (s.now + 12000000), restart := b } := by
  simp [enterCoast, quietDrive_drive, ms]

/-- A drive told of its coast coasts on, with or without its target and its mark (R29, R60). -/
theorem switchJudge_coast {s : State} (coast : s.drive.state = .coast) : ∃ w mark,
    (s.charge.phase.charging = false → w = s.drive.target ∧ mark = s.drive.restart) ∧
    (switchJudge s).drive = { s.drive with target := w, restart := mark } := by
  by_cases charging : s.charge.phase.charging = true
  · rcases (switchJudge_easing s).drive with ⟨same, -⟩ | ⟨eased, -⟩
    · exact ⟨s.drive.target, s.drive.restart, fun _ => ⟨rfl, rfl⟩, same⟩
    · exact ⟨0, false, fun idle => absurd charging (by simp [idle]), by rw [eased, easedDrive_of_coast coast]⟩
  · obtain ⟨same, -⟩ := switchJudge_open (s := s) (by simpa using charging)
    exact ⟨s.drive.target, s.drive.restart, fun _ => ⟨rfl, rfl⟩, same⟩

theorem handDrive_coast (s : State) : ∃ w mark,
    (s.charge.phase.charging = false → w = s.drive.target ∧ mark = true) ∧
    (handDrive (enterCoast true s)).drive = { s.drive.quieted .coast with
      coastTimer := some (s.now + 12000000), restart := mark, target := w } := by
  obtain ⟨w, mark, idle, drive⟩ := switchJudge_coast (enterCoast_state true s)
  rw [enterCoast_drive] at drive idle
  exact ⟨w, mark, by simpa [Drive.quieted] using idle, by simpa [Machine.handDrive] using drive⟩

theorem coasted (s0 s : State) : Coasted s (publish s0 (handDrive (enterCoast true s))) := by
  obtain ⟨w, mark, idle, drive⟩ := handDrive_coast s
  have moving : (switchJudge (enterCoast true s)).drive.state ≠ .stopped := by
    obtain ⟨w, mark, -, same⟩ := switchJudge_coast (enterCoast_state true s)
    simp [same]
  have awake : s.running = true → (handDrive (enterCoast true s)).power.state = .awake := fun running =>
    powerJudge_awake (by simpa [State.running] using running) moving
  have charges := handDrive_charges (enterCoast true s)
  have only := handDrive_onlyIn (s := s) (t := enterCoast true s) (by simp [OnlyIn]) s0
  simpa [Coasted, drive, Drive.quieted, CountersKept, ChargesKept, State.now]
    using And.intro (fun h => (idle h).symm) (And.intro charges (And.intro awake only))

/-- The coast keeps the counts of the run (R48, R53). -/
theorem handDrive_coast_counts (s : State) : (handDrive (enterCoast true s)).drive.desyncs = s.drive.desyncs ∧
    (handDrive (enterCoast true s)).drive.badSteps = s.drive.badSteps ∧
    (handDrive (enterCoast true s)).drive.rampFailures = s.drive.rampFailures := by
  obtain ⟨w, mark, -, drive⟩ := handDrive_coast s
  simp [drive, Drive.quieted]

/-- The coast out of RUN empties the impact queue and sets L to 0 (R87). -/
theorem handDrive_coast_dirt {s : State} (run : s.drive.state = .run) :
    (handDrive (enterCoast true s)).dirt.level = 0 ∧ (handDrive (enterCoast true s)).dirt.queue = [] := by
  obtain ⟨w, mark, -, drive⟩ := handDrive_coast s
  exact ((enterCoast_runLeft true s).trans (runLeft_relation.handDrive _)).left run (by simp [drive, Drive.quieted])

/-! ### The faults (R61, R62, R166) -/

/-- What every entry to FAULT leaves behind: the gates off, the entry in the history, and the flag (R61, R166, R173). -/
abbrev FaultTaken (k : FaultKind) (s t : State) : Prop :=
  Logged k s t ∧ Raised .driveFault t ∧ t.dirt.level = (if s.drive.state = .run then 0 else s.dirt.level) ∧
  t.pack.q = s.pack.q ∧ t.drive.secTotal = s.drive.secTotal ∧ OnlyIn (.time :: consequent) s t

/-- With the trigger held the drive is in FAULT and the latch stands (R61, R170). -/
abbrev FaultHeld (k : FaultKind) (s t : State) : Prop :=
  t.drive.gatesOn = false ∧ t.drive.state = .fault ∧ t.hold.reasons.driveFault = true ∧ t.hold.stopSuction = true ∧
  t.drive.appDuty = 0 ∧ t.drive.bufDuty = 0 ∧ FaultTaken k s t

/-- Without it the latch is gone again and the drive out of FAULT (R62). -/
abbrev FaultPassed (k : FaultKind) (s t : State) : Prop :=
  t.drive.gatesOn = false ∧ t.drive.state ≠ .fault ∧ t.hold.reasons.driveFault = false ∧
  (s.drive.target = 0 → t.drive.state = .stopped) ∧ FaultTaken k s t

/-- The drive in FAULT, its entry pushed and its flag raised, before the latch is tested (R61). -/
def faultEntered (k : FaultKind) (s : State) : State := raise .driveFault (quietDrive .fault (pushHistory k s))

theorem driveFault_held {k : FaultKind} {s : State} (held : s.table.triggerHeld = true) :
    driveFault k s = onReasons (fun r => { r with driveFault := true }) (faultEntered k s) := by
  have held' : (faultEntered k s).table.triggerHeld = true := by simpa [faultEntered] using held
  exact if_pos held'

theorem driveFault_released {k : FaultKind} {s : State} (released : s.table.triggerHeld = false) :
    driveFault k s = onReasons (fun r => { r with driveFault := false }) (enterStopped (faultEntered k s)) := by
  have released' : ¬ (faultEntered k s).table.triggerHeld = true := by simpa [faultEntered] using released
  exact if_neg released'

/-- The hold unit after one of its own reasons has taken a value (R169, R170). -/
theorem onReasons_hold (f : Reasons → Reasons) (s : State) : (onReasons f s).hold =
    (formHolds (s.onHold fun h => { h with reasons := f h.reasons })).hold := handReasons_hold _

theorem onReasons_easing (f : Reasons → Reasons) (s : State) :
    DriveEased (s.onHold fun h => { h with reasons := f h.reasons }) (onReasons f s) := (handReasons_easing _).drive

/-- The hold unit's handing leaves the charge count and pushes no entry. -/
theorem onReasons_kept (f : Reasons → Reasons) (s : State) : (onReasons f s).hold.history = s.hold.history ∧
    (onReasons f s).pack.q = s.pack.q := by
  have settled := (handReasons_settling (s.onHold fun h => { h with reasons := f h.reasons })).pack
  refine ⟨by rw [onReasons_hold]; rfl, ?_⟩
  rw [onReasons, settled]
  simp

theorem faultEntered_drive (k : FaultKind) (s : State) : (faultEntered k s).drive = s.drive.quieted .fault := by
  simp [faultEntered, quietDrive_drive, pushHistory]

theorem faultEntered_history (k : FaultKind) (s : State) : (faultEntered k s).hold.history =
    (⟨k, s.drive.runNumber, s.pack.soc, s.pack.tPack, s.krpm, s.time.seconds⟩ :: s.hold.history).take 8 := by
  simp [faultEntered, pushHistory]

/-- L after a fault: the entry to FAULT leaves RUN (R87). -/
theorem driveFault_level {k : FaultKind} {s : State} (rest : (driveFault k s).drive.state ≠ .run) :
    (driveFault k s).dirt.level = if s.drive.state = .run then 0 else s.dirt.level :=
  (runLeft_relation.driveFault k s).level rest

/-- A fault's marks, whatever the latch test makes of it afterwards. -/
theorem faultTaken_of {k : FaultKind} {s u : State} {f : Reasons → Reasons} (s0 : State)
    (taken : driveFault k s = onReasons f u) (history : u.hold.history = (faultEntered k s).hold.history)
    (report : u.report = (faultEntered k s).report) (q : u.pack.q = s.pack.q)
    (rest : (driveFault k s).drive.state ≠ .run) (seconds : (driveFault k s).drive.secTotal = s.drive.secTotal) :
    FaultTaken k s (publish s0 (driveFault k s)) := by
  obtain ⟨pushed, charge⟩ := onReasons_kept f u
  have raised : Raised .driveFault (driveFault k s) := by
    simpa [Raised, State.flag, taken, report, faultEntered]
      using raise_raised .driveFault (quietDrive .fault (pushHistory k s))
  obtain ⟨-, -, -, -, -, -, -, -, -, -, -, flags⟩ := publish_told s0 (driveFault k s)
  have logged : (driveFault k s).hold.history =
      (⟨k, s.drive.runNumber, s.pack.soc, s.pack.tPack, s.krpm, s.time.seconds⟩ :: s.hold.history).take 8 := by
    rw [taken, pushed, history, faultEntered_history]
  refine ⟨by simpa [Logged] using logged, Raised.told raised flags, ?_, ?_, ?_, by simp [OnlyIn]⟩
  · simpa using driveFault_level rest
  · simpa [taken, charge] using q
  · simpa using seconds

/-! #### With the trigger held -/

theorem latched_drive (f : Reasons → Reasons) (k : FaultKind) (s : State) :
    ∃ w, (onReasons f (faultEntered k s)).drive = { s.drive.quieted .fault with target := w } := by
  rcases onReasons_easing f (faultEntered k s) with ⟨same, -⟩ | ⟨eased, -⟩
  · exact ⟨s.drive.target, by rw [same]; simp [faultEntered_drive, Drive.quieted]⟩
  · refine ⟨0, ?_⟩
    rw [eased, easedDrive_of_fault (by simp [faultEntered_drive, Drive.quieted])]
    simp [faultEntered_drive]

theorem driveFault_faultHeld {s : State} (s0 : State) (k : FaultKind) (held : s.table.triggerHeld = true) :
    FaultHeld k s (publish s0 (driveFault k s)) := by
  have taken := driveFault_held (k := k) held
  obtain ⟨w, drive⟩ := latched_drive (fun r => { r with driveFault := true }) k s
  rw [← taken] at drive
  have hold := onReasons_hold (fun r => { r with driveFault := true }) (faultEntered k s)
  rw [← taken] at hold
  have marks := faultTaken_of s0 taken rfl rfl (by simp [faultEntered, pushHistory])
    (by simp [drive, Drive.quieted]) (by simp [drive, Drive.quieted])
  refine ⟨?_, ?_, ?_, ?_, ?_, ?_, marks⟩
  · simp [drive, Drive.quieted]
  · simp [drive, Drive.quieted]
  · simp [hold, formHolds, State.liveReasons]
  · simp [hold, formHolds, State.liveReasons, stopsSuction, Reasons.localStop]
  · simp [drive, Drive.quieted]
  · simp [drive, Drive.quieted]

/-! #### With no held trigger -/

/-- A drive out of FAULT: its gates off, out of RUN, and STOPPED where it had no target; the seconds are kept
(R49, R62). -/
structure OutOfFault (target seconds : Nat) (d : Drive) : Prop where
  gates : d.gatesOn = false
  fault : d.state ≠ .fault
  run : d.state ≠ .run
  seconds : d.secTotal = seconds
  stopped : target = 0 → d.state = .stopped

theorem enterStopped_outOfFault (s : State) : OutOfFault s.drive.target s.drive.secTotal (enterStopped s).drive := by
  unfold enterStopped
  by_cases zero : s.drive.target = 0
  · constructor <;> simp [zero, quietDrive_drive, Drive.quieted]
  · constructor <;> simp [zero, startRun_drive, quietDrive_drive, Drive.quieted]

/-- A target of 0 that comes after it begins neither RUN nor FAULT (R60). -/
theorem OutOfFault.eased {w n : Nat} {d : Drive} (h : OutOfFault w n d) (now : Nat) :
    OutOfFault w n (easedDrive d now) := by
  obtain ⟨gates, fault, run, seconds, stopped⟩ := h
  cases state : d.state with
  | stopped => constructor <;> simp_all [easedDrive_of_stopped state]
  | fault => exact absurd state fault
  | run => exact absurd state run
  | coast => constructor <;> simp_all [easedDrive_of_coast state]
  | align => constructor <;> simp_all [easedDrive_of_driven, DriveState.driven, Drive.quieted]
  | ramp => constructor <;> simp_all [easedDrive_of_driven, DriveState.driven, Drive.quieted]

theorem driveFault_outOfFault {s : State} (k : FaultKind) (released : s.table.triggerHeld = false) :
    OutOfFault s.drive.target s.drive.secTotal (driveFault k s).drive := by
  have stopped : OutOfFault s.drive.target s.drive.secTotal (enterStopped (faultEntered k s)).drive := by
    simpa [faultEntered_drive, Drive.quieted] using enterStopped_outOfFault (faultEntered k s)
  rw [driveFault_released released]
  rcases onReasons_easing (fun r => { r with driveFault := false }) (enterStopped (faultEntered k s)) with
    ⟨same, -⟩ | ⟨eased, -⟩
  · rw [same]
    exact stopped
  · rw [eased]
    exact stopped.eased _

theorem driveFault_faultPassed {s : State} (s0 : State) (k : FaultKind) (released : s.table.triggerHeld = false) :
    FaultPassed k s (publish s0 (driveFault k s)) := by
  have taken := driveFault_released (k := k) released
  obtain ⟨gates, fault, rest, seconds, stopped⟩ := driveFault_outOfFault k released
  have hold := onReasons_hold (fun r => { r with driveFault := false }) (enterStopped (faultEntered k s))
  rw [← taken] at hold
  have marks := faultTaken_of s0 taken (by simp) (by simp) (by simp [faultEntered, pushHistory]) rest seconds
  refine ⟨?_, ?_, ?_, ?_, marks⟩
  · simpa using gates
  · simpa using fault
  · simp [hold, formHolds, State.liveReasons]
  · simpa using stopped

/-! ### The record and the blocks that a coast or a fault is judged against -/

/-- The same run at another time, with other counts of bad steps, desyncs and failed starts. -/
def Counted (s v : State) : Prop := ∃ time bad desyncs failures,
  v = { s with
    time := time, drive := { s.drive with badSteps := bad, desyncs := desyncs, rampFailures := failures } }

theorem runTo_eq (d : Nat) (s : State) : ∃ time, runTo d s = { s with time := time } := by
  unfold runTo
  split
  · exact ⟨s.time, rfl⟩
  · exact ⟨_, rfl⟩

theorem runTo_counted (d : Nat) (s : State) : Counted s (runTo d s) := by
  obtain ⟨time, same⟩ := runTo_eq d s
  exact ⟨time, s.drive.badSteps, s.drive.desyncs, s.drive.rampFailures, same⟩

section
variable {s v t : State} {k : FaultKind}

theorem Counted.coasted (h : Counted s v) (coast : Coasted v t) : Coasted s t := by
  obtain ⟨time, bad, desyncs, failures, rfl⟩ := h
  simpa [Coasted, CountersKept, OnlyIn, State.running] using coast

theorem Counted.faultHeld (h : Counted s v) (fault : FaultHeld k v t) : FaultHeld k s t := by
  obtain ⟨time, bad, desyncs, failures, rfl⟩ := h
  simpa [FaultHeld, FaultTaken, Logged, State.krpm, OnlyIn] using fault

theorem Counted.faultPassed (h : Counted s v) (fault : FaultPassed k v t) : FaultPassed k s t := by
  obtain ⟨time, bad, desyncs, failures, rfl⟩ := h
  simpa [FaultPassed, FaultTaken, Logged, State.krpm, OnlyIn] using fault

end

/-! ### OVERCURRENT and UNDERVOLT (R41, R42) -/

theorem exec_overcurrent (s : State) : exec .overcurrent s =
    finishIf (s.drive.state.driven && decide (8 ≤ s.drive.cutoffs)) (driveFault .overcurrent) s := rfl

theorem exec_undervoltage (s : State) : exec .undervoltageTimerExpiry s =
    onTimer s.drive.undervoltageEnds (driveFault .undervolt) s := rfl

theorem undervoltageEnds_of_running {d : Drive} {u : Nat} (watched : d.state.driven = true ∨ d.state = .coast)
    (running : d.uvSince = some u) : d.undervoltageEnds = some (u + 80000) := by
  have judged : d.state.watched = true := by simpa [DriveState.watched] using watched
  simp [Drive.undervoltageEnds, judged, running, ms]

theorem undervoltageEnds_none {d : Drive} (absent : d.state = .stopped ∨ d.state = .fault ∨ d.uvSince = none) :
    d.undervoltageEnds = none := by
  rcases absent with h | h | h <;> simp [Drive.undervoltageEnds, DriveState.watched, DriveState.driven, h]

/-- UNDERVOLT at the end `e` of the undervoltage timer. -/
theorem undervoltage_answers {s : State} {e : Nat} (ends : s.drive.undervoltageEnds = some e) :
    (s.table.triggerHeld = true → Answers (exec .undervoltageTimerExpiry s) fun t =>
      t.time = (runTo e s).time ∧ FaultHeld .undervolt s t) ∧
    (s.table.triggerHeld = false → Answers (exec .undervoltageTimerExpiry s) fun t =>
      t.time = (runTo e s).time ∧ FaultPassed .undervolt s t) := by
  rw [exec_undervoltage]
  refine ⟨fun held => onTimer_answers ends ⟨by simp, ?_⟩, fun released => onTimer_answers ends ⟨by simp, ?_⟩⟩
  · exact (runTo_counted e s).faultHeld (driveFault_faultHeld s .undervolt (by simpa using held))
  · exact (runTo_counted e s).faultPassed (driveFault_faultPassed s .undervolt (by simpa using released))

/-- Settles O27: both faults are `driveFault`, by whether the trigger is held. -/
theorem overcurrentAndUndervoltEnterFault : Obligations.OvercurrentAndUndervoltEnterFault := by
  intro s u
  refine ⟨fun driven full held => ?_, fun driven full released => ?_, fun watched running => ?_,
    fun watched running => ?_, fun absent => ?_, fun absent => ?_⟩
  · exact finishIf_answers (by simp [driven, full]) ⟨by simp, driveFault_faultHeld s .overcurrent held⟩
  · exact finishIf_answers (by simp [driven, full]) ⟨by simp, driveFault_faultPassed s .overcurrent released⟩
  · exact (undervoltage_answers (undervoltageEnds_of_running watched running)).1
  · exact (undervoltage_answers (undervoltageEnds_of_running watched running)).2
  · rw [exec_overcurrent]
    exact finishIf_noEffect (by rcases absent with h | h <;> simp [h])
  · rw [exec_undervoltage]
    exact onTimer_noEffect (undervoltageEnds_none absent)

/-! ### The desync and the failed start (R48, R53, R58) -/

theorem exec_desync (s : State) : exec .desync s =
    finishIf (decide (s.drive.state = .run) && decide (3 ≤ s.drive.badSteps)) takeDesync s := rfl

/-- The drive's counts after a desync (R48). -/
def desyncCounted (s : State) : State := s.onDrive fun d => { d with badSteps := 0, desyncs := min 6 (d.desyncs + 1) }

theorem desyncCounted_counted (s : State) : Counted s (desyncCounted s) :=
  ⟨s.time, 0, _, s.drive.rampFailures, rfl⟩

theorem takeDesync_eq (s : State) : takeDesync s =
    if 5 ≤ s.drive.desyncs then driveFault .desync (desyncCounted s)
    else handDrive (enterCoast true (desyncCounted s)) := by
  have sixth : 6 ≤ (desyncCounted s).drive.desyncs ↔ 5 ≤ s.drive.desyncs := by
    simp only [desyncCounted, onDrive_drive]
    omega
  rw [takeDesync]
  simp only [← sixth]
  rfl

/-- The drive's counts after a failed start (R53). -/
def failureCounted (s : State) : State := s.onDrive fun d => { d with rampFailures := min 3 (d.rampFailures + 1) }

theorem failureCounted_counted (d : Nat) (s : State) : Counted s (failureCounted (runTo d s)) := by
  obtain ⟨time, same⟩ := runTo_eq d s
  rw [same]
  exact ⟨time, s.drive.badSteps, s.drive.desyncs, _, rfl⟩

theorem failRamp_eq (s : State) : failRamp s =
    if 2 ≤ s.drive.rampFailures then driveFault .startFail (failureCounted s)
    else handDrive (enterCoast true (failureCounted s)) := by
  have third : 3 ≤ (failureCounted s).drive.rampFailures ↔ 2 ≤ s.drive.rampFailures := by
    simp only [failureCounted, onDrive_drive]
    omega
  rw [failRamp]
  simp only [← third]
  rfl

/-- Settles O31: below its limit a count coasts with the restart mark, at its limit it is a fault. -/
theorem desyncAndFailedRamp : Obligations.DesyncAndFailedRamp := by
  intro s d
  refine ⟨fun run bad below => ?_, fun run bad sixth held => ?_, fun run bad sixth released => ?_,
    fun running third released => ?_, fun running below => ?_, fun running third held => ?_, fun absent => ?_⟩
  · refine finishIf_answers (by simp [run, bad]) ?_
    rw [takeDesync_eq, if_neg (by omega)]
    obtain ⟨desyncs, steps, -⟩ := handDrive_coast_counts (desyncCounted s)
    obtain ⟨level, queue⟩ := handDrive_coast_dirt (s := desyncCounted s) run
    have count : (desyncCounted s).drive.desyncs = s.drive.desyncs + 1 := Nat.min_eq_right (by omega)
    have cleared : (desyncCounted s).drive.badSteps = 0 := rfl
    exact ⟨by simp [desyncCounted], by simpa using desyncs.trans count, by simpa using steps.trans cleared,
      by simpa using queue, by simpa using level, (desyncCounted_counted s).coasted (coasted s _)⟩
  · refine finishIf_answers (by simp [run, bad]) ?_
    rw [takeDesync_eq, if_pos sixth]
    exact ⟨by simp [desyncCounted], (desyncCounted_counted s).faultHeld (driveFault_faultHeld s .desync held)⟩
  · refine finishIf_answers (by simp [run, bad]) ?_
    rw [takeDesync_eq, if_pos sixth]
    exact ⟨by simp [desyncCounted], (desyncCounted_counted s).faultPassed (driveFault_faultPassed s .desync released)⟩
  · refine onTimer_answers running ?_
    rw [failRamp_eq, if_pos (by simpa using third)]
    exact ⟨by simp [failureCounted], (failureCounted_counted d s).faultPassed
      (driveFault_faultPassed s .startFail (by simpa [failureCounted] using released))⟩
  · refine onTimer_answers running ?_
    rw [failRamp_eq, if_neg (by simpa using below)]
    obtain ⟨-, -, failures⟩ := handDrive_coast_counts (failureCounted (runTo d s))
    have count : (failureCounted (runTo d s)).drive.rampFailures = s.drive.rampFailures + 1 := by
      simp only [failureCounted, onDrive_drive, runTo_drive]
      omega
    exact ⟨by simp [failureCounted], by simpa using failures.trans count,
      (failureCounted_counted d s).coasted (coasted s _)⟩
  · refine onTimer_answers running ?_
    rw [failRamp_eq, if_pos (by simpa using third)]
    exact ⟨by simp [failureCounted], (failureCounted_counted d s).faultHeld
      (driveFault_faultHeld s .startFail (by simpa [failureCounted] using held))⟩
  · rw [exec_desync]
    exact finishIf_noEffect (by rcases absent with h | h <;> simp [h])

end Sys2Proof.Proofs
end

section
/-! ## The dirt thresholds and the raw level (R83, R182, R192) -/

namespace Sys2Proof.Proofs
open Sys2Proof.Machine Sys2Proof.Safety

theorem ascending_pairwise : ∀ {th : List Nat}, ascending th = true → th.Pairwise (· < ·)
  | [], _ => .nil
  | [a], _ => List.pairwise_singleton _ a
  | a :: b :: rest, order => by
    simp only [ascending, Bool.and_eq_true, decide_eq_true_eq] at order
    have tail := ascending_pairwise order.2
    refine List.pairwise_cons.mpr ⟨fun x hx => ?_, tail⟩
    rcases List.mem_cons.mp hx with rfl | hx
    · exact order.1
    · exact order.1.trans (List.rel_of_pairwise_cons tail hx)

theorem rawLevel_eq_countP (th : List Nat) (score : Nat) : rawLevel th score = th.countP (· ≤ score) :=
  (List.countP_eq_length_filter ..).symm

theorem rawLevel_le_length (th : List Nat) (score : Nat) : rawLevel th score ≤ th.length := List.length_filter_le ..

/-- The thresholds that a score reaches come first (R83): past the first that it does not reach, it reaches none. -/
theorem getD_le_iff_lt_rawLevel {score : Nat} : ∀ {th : List Nat} {k : Nat}, th.Pairwise (· < ·) → k < th.length →
    (th.getD k 0 ≤ score ↔ k < rawLevel th score)
  | a :: rest, k, sorted, within => by
    obtain ⟨above, sorted⟩ := List.pairwise_cons.mp sorted
    rw [rawLevel_eq_countP]
    by_cases reached : a ≤ score
    · rw [List.countP_cons_of_pos (by simpa), ← rawLevel_eq_countP]
      cases k with
      | zero => simpa
      | succ k => simpa using getD_le_iff_lt_rawLevel sorted (by simpa using within)
    · have higher : ∀ x ∈ a :: rest, score < x := by
        intro x hx
        rcases List.mem_cons.mp hx with rfl | hx
        · omega
        · have := above x hx
          omega
      have none : (a :: rest).countP (· ≤ score) = 0 := by
        simpa [List.countP_eq_zero] using higher
      have past := higher _ (List.getElem_mem within)
      rw [none, List.getD_eq_getElem _ _ within]
      omega

/-- Of the judgements of R182, only the one of the dirt thresholds touches them. -/
theorem judges_dirt (c : Settings) :
    (judgeCells c).dirt = c.dirt ∧ (judgeTemps c).dirt = c.dirt ∧ (judgeVolts c).dirt = c.dirt ∧
    (judgeWindows c).dirt = c.dirt ∧ (judgeOcv c).dirt = c.dirt ∧ (judgeTherm c).dirt = c.dirt ∧
    (raisePowers c).dirt = c.dirt := by
  refine ⟨?_, ?_, ?_, ?_, ?_, ?_, rfl⟩
  · unfold judgeCells; split <;> rfl
  · unfold judgeTemps; split <;> rfl
  · unfold judgeVolts; split <;> rfl
  · unfold judgeWindows; split <;> rfl
  · unfold judgeOcv; split <;> rfl
  · unfold judgeTherm; split <;> rfl

theorem judgeDirt_dirt (c : Settings) : (judgeDirt c).dirt = if ascending c.dirt then c.dirt else defaultDirt := by
  unfold judgeDirt
  split <;> rfl

theorem decodeBlock_dirt_length (bs : List Byte) : (decodeBlock bs).dirt.length = 10 := by
  simp [decodeBlock, blockFields]

/-- Every block leaves ten thresholds in strictly ascending order: its own, or the default (R182, R192). -/
theorem judgeBlock_dirt (bs : List Byte) :
    (judgeBlock bs).dirt.length = 10 ∧ ascending (judgeBlock bs).dirt = true := by
  have judged : (judgeBlock bs).dirt =
      if ascending (decodeBlock bs).dirt then (decodeBlock bs).dirt else defaultDirt := by
    simp only [judgeBlock, judgeGroups, judges_dirt, judgeDirt_dirt]
  rw [judged]
  split
  case isTrue order => exact ⟨decodeBlock_dirt_length bs, order⟩
  case isFalse => decide

theorem loadResult_dirt (block : Option (List Byte)) : (loadResult block).1.dirt.length = 10 := by
  unfold loadResult
  (repeat' split)
  · exact (judgeBlock_dirt _).1
  all_goals rfl

/-- Settles O19: in a sorted list the thresholds that a score reaches come first, so their number places the highest. -/
theorem rawDirtLevel : Obligations.RawDirtLevel := by
  intro bs th score k
  refine ⟨fun ten order => ⟨ten ▸ rawLevel_le_length th score, rawLevel_eq_countP th score, fun within =>
    getD_le_iff_lt_rawLevel (ascending_pairwise order) (ten ▸ within)⟩, (judgeBlock_dirt bs).1,
    (judgeBlock_dirt bs).2, by decide, by decide, fun high => ?_⟩
  have reached : ∀ x ∈ defaultDirt, x ≤ 260 := by decide
  rw [rawLevel_eq_countP]
  exact List.countP_eq_length.mpr fun x hx => by simpa using (reached x hx).trans high

end Sys2Proof.Proofs
end

section
/-! ## The operations of dirt sensing (R69 to R84) -/

namespace Sys2Proof.Proofs
open Sys2Proof.Machine Sys2Proof.Safety

/-! ### The impact detector, by its state (R69 to R74) -/

/-- The impact in progress after a later sample of it: its peak class, its rings and the marks of TH_MID (R69, R71). -/
def tracked (d : Dirt) (c : Settings) (v : Nat) : Dirt :=
  { d with
    peak := max d.peak (if c.thHigh ≤ v then 3 else if c.thMid ≤ v then 2 else 1)
    ring := if c.thMid ≤ v ∧ d.midAbove = false ∧ d.midSeen = true then min 15 (d.ring + 1) else d.ring
    midSeen := d.midSeen || (decide (c.thMid ≤ v) && !d.midAbove)
    midAbove := c.thMid ≤ v }

theorem trackSample_eq (d : Dirt) (c : Settings) (v : Nat) : d.trackSample c v = tracked d c v := by
  simp [Dirt.trackSample, tracked, peakClass, satSucc, and_assoc]

theorem endImpact_glitch {d : Dirt} (short : d.duration < 3) :
    d.endImpact = { d with det := .dead, dead := 2, below := 0 } := by
  simp [Dirt.endImpact, short]

/-- The dirt block after an impact of three samples or more (R72 to R74). -/
def recorded (d : Dirt) : Dirt :=
  { d with
    det := .dead
    dead := 2
    below := 0
    queue := if d.queue.length < 32 then d.queue ++ [⟨d.peak, d.duration, d.ring, d.window⟩] else d.queue
    tally := if d.queue.length < 32 then d.tally else min 4095 (d.tally + 1) }

theorem endImpact_recorded {d : Dirt} (long : 3 ≤ d.duration) : d.endImpact = recorded d := by
  by_cases room : d.queue.length < 32 <;>
    simp [Dirt.endImpact, Dirt.offer, recorded, satSucc, not_lt.mpr long, room]

/-- An impact takes a place in the queue only where one is free (R73, R74). -/
theorem endImpact_sound {d : Dirt} (within : d.queue.length ≤ 32) :
    d.endImpact.queue.length ≤ 32 ∧ d.endImpact.level = d.level := by
  by_cases short : d.duration < 3
  · rw [endImpact_glitch short]
    exact ⟨within, rfl⟩
  · rw [endImpact_recorded (not_lt.mp short)]
    by_cases room : d.queue.length < 32
    · exact ⟨by simp [recorded, room], rfl⟩
    · exact ⟨by simpa [recorded, room] using within, rfl⟩

section
variable {d : Dirt} {c : Settings} {v : Nat}

theorem sample_begins (ready : d.det = .ready) (reached : c.thLow ≤ v) : d.sample c v = d.beginImpact c v := by
  simp [Dirt.sample, ready, reached]

theorem sample_idle (idle : d.det = .ready ∧ v < c.thLow ∨ d.det = .off) : d.sample c v = d := by
  rcases idle with ⟨ready, low⟩ | off
  · simp [Dirt.sample, ready, not_le.mpr low]
  · simp [Dirt.sample, off]

theorem sample_lengthens (impact : d.det = .above ∨ d.det = .trailing) (reached : c.thLow ≤ v) :
    d.sample c v = { tracked d c v with
      det := .above
      duration := min 255 (d.duration + 1)
      below := if d.det = .trailing then 0 else d.below } := by
  rcases impact with above | trailing
  · simp [Dirt.sample, above, reached, trackSample_eq, tracked, satSucc]
  · simp [Dirt.sample, trailing, reached, trackSample_eq, tracked, satSucc]

theorem sample_falls (above : d.det = .above) (low : v < c.thLow) :
    d.sample c v = { tracked d c v with det := .trailing, below := 1 } := by
  simp [Dirt.sample, above, not_le.mpr low, trackSample_eq]

theorem sample_trails (trailing : d.det = .trailing) (low : v < c.thLow) (few : d.below < 3) :
    d.sample c v = { tracked d c v with below := d.below + 1 } := by
  have fourth : d.below + 1 < 4 := by omega
  simp [Dirt.sample, trailing, not_le.mpr low, trackSample_eq, tracked, fourth]

theorem sample_ends (trailing : d.det = .trailing) (low : v < c.thLow) (fourth : 3 ≤ d.below) :
    d.sample c v = (tracked d c v).endImpact := by
  have fourth : ¬ d.below + 1 < 4 := by omega
  simp [Dirt.sample, trailing, not_le.mpr low, trackSample_eq, tracked, fourth]

theorem sample_dead (dead : d.det = .dead) :
    d.sample c v = { d with det := if d.dead ≤ 1 then .ready else .dead, dead := d.dead - 1 } := by
  by_cases last : d.dead ≤ 1 <;> simp [Dirt.sample, dead, last]

end

/-- A sample keeps the queue within its room, and leaves L (R73). -/
theorem sample_sound {d : Dirt} (within : d.queue.length ≤ 32) (c : Settings) (v : Nat) :
    (d.sample c v).queue.length ≤ 32 ∧ (d.sample c v).level = d.level := by
  have same : d.queue.length ≤ 32 ∧ d.level = d.level := ⟨within, rfl⟩
  cases det : d.det with
  | off => rwa [sample_idle (.inr det)]
  | ready =>
    by_cases reached : c.thLow ≤ v
    · rwa [sample_begins det reached]
    · rwa [sample_idle (.inl ⟨det, not_le.mp reached⟩)]
  | above =>
    by_cases reached : c.thLow ≤ v
    · rwa [sample_lengthens (.inl det) reached]
    · rwa [sample_falls det (not_le.mp reached)]
  | trailing =>
    by_cases reached : c.thLow ≤ v
    · rwa [sample_lengthens (.inr det) reached]
    by_cases few : d.below < 3
    · rwa [sample_trails det (not_le.mp reached) few]
    rw [sample_ends det (not_le.mp reached) (not_lt.mp few)]
    exact endImpact_sound (d := tracked d c v) within
  | dead => rwa [sample_dead det]

/-! ### Scoring (R75 to R78) -/

/-- The sample count and the sample queue after one more scored record (R77, R78). -/
theorem countSample_eq (d : Dirt) (prescale : Nat) (smp : Sample) : d.countSample prescale smp =
    { d with
      sampleCount := if prescale = 0 ∨ prescale ≤ d.sampleCount + 1 then 0 else d.sampleCount + 1
      samples := if prescale ≠ 0 ∧ prescale ≤ d.sampleCount + 1 ∧ d.samples.length < 16
        then d.samples ++ [smp] else d.samples } := by
  unfold Dirt.countSample Dirt.copySample
  by_cases off : prescale = 0
  · simp [off]
  by_cases due : prescale ≤ d.sampleCount + 1
  · by_cases room : d.samples.length < 16 <;> simp [off, due, room, not_lt.mpr due]
  · simp [off, due, lt_of_not_ge due]

/-- The scoring of the oldest record (R75). -/
theorem score_cons {d : Dirt} {r : Impact} {rest : List Impact} (queue : d.queue = r :: rest) (c : Settings)
    (run : Nat) : d.score c run =
      { d with
        queue := rest
        windowSum := min 65535 (d.windowSum + (classify r 0 c.classes).2)
        sampleCount := if c.prescale = 0 ∨ c.prescale ≤ d.sampleCount + 1 then 0 else d.sampleCount + 1
        samples := if c.prescale ≠ 0 ∧ c.prescale ≤ d.sampleCount + 1 ∧ d.samples.length < 16
          then d.samples ++ [⟨(classify r 0 c.classes).1, (classify r 0 c.classes).2, r.window, run % 256⟩]
          else d.samples } := by
  simp only [Dirt.score, queue, countSample_eq, max16]

theorem score_nil {d : Dirt} (queue : d.queue = []) (c : Settings) (run : Nat) : d.score c run = d := by
  simp [Dirt.score, queue]

/-- A scoring takes the oldest record from the queue, and leaves the level and the timers (R75). -/
theorem score_kept (d : Dirt) (c : Settings) (run : Nat) : (d.score c run).queue = d.queue.tail ∧
    (d.score c run).level = d.level ∧ (d.score c run).sampleAt = d.sampleAt ∧
    (d.score c run).windowTimer = d.windowTimer := by
  cases queue : d.queue with
  | nil => simp [score_nil queue, queue]
  | cons r rest => simp [score_cons queue]

/-! ### The window (R80 to R84) -/

theorem levelAfter_eq (d : Dirt) (raw : Nat) : d.levelAfter raw =
    { d with
      level := if d.level ≤ raw then raw else if d.fall + 1 < 5 then d.level else d.level - 1
      fall := if d.level ≤ raw then 0 else if d.fall + 1 < 5 then d.fall + 1 else 0 } := by
  unfold Dirt.levelAfter
  (repeat' split) <;> rfl

/-- The dirt block after a window that has ended with the raw level `raw` (R80, R84). -/
def windowClosed (d : Dirt) (raw : Nat) : Dirt :=
  { d with
    tally := 0
    windowSum := 0
    window := min 65535 (d.window + 1)
    windowTimer := d.windowTimer.map (· + 800000)
    level := if d.level ≤ raw then raw else if d.fall + 1 < 5 then d.level else d.level - 1
    fall := if d.level ≤ raw then 0 else if d.fall + 1 < 5 then d.fall + 1 else 0 }

theorem closeWindow_eq (d : Dirt) (c : Settings) (h : Nat) : d.closeWindow c h =
    windowClosed d (c.dirt.countP (· ≤ min 65535 (d.windowSum + d.tally * c.wOver + h))) := by
  rw [← rawLevel_eq_countP, Dirt.closeWindow, levelAfter_eq]
  rfl

/-- L after a window is the raw level, or no higher than it was (R84); the raw level counts thresholds (R83). -/
theorem closeWindow_level_le {d : Dirt} {c : Settings} (level : d.level ≤ 10) (table : c.dirt.length ≤ 10) (h : Nat) :
    (d.closeWindow c h).level ≤ 10 := by
  have raw := rawLevel_le_length c.dirt (min 65535 (d.windowSum + d.tally * c.wOver + h))
  rw [closeWindow_eq, ← rawLevel_eq_countP]
  unfold windowClosed
  dsimp only
  (repeat' split) <;> omega

theorem closeWindow_queue (d : Dirt) (c : Settings) (h : Nat) : (d.closeWindow c h).queue = d.queue := by
  rw [closeWindow_eq]
  rfl

/-- A window expiry closes the window with some head part, and touches the table beside (R81, R162). -/
theorem expireWindow_cases (s : State) : (expireWindow s).loader = s.loader ∧ (expireWindow s).drive = s.drive ∧
    ∃ h, (expireWindow s).dirt = s.dirt.closeWindow s.cfg h := by
  unfold expireWindow
  split <;> exact ⟨rfl, rfl, _, rfl⟩

end Sys2Proof.Proofs
end

section
/-! ## The timers of the drive from step to step (R43, R50 to R54, R59) -/

namespace Sys2Proof.Proofs
open Sys2Proof.Machine Sys2Proof.Safety

/-- The drive's timers stay in their states. -/
def TimersKept (s t : State) : Prop := driveTimers s.drive → driveTimers t.drive

theorem still_of_timers {d : Drive} (h : driveTimers d) (quiet : d.state.quiet = true) : Still d := by
  obtain ⟨align, ramp, forced, control, compare, deadline, -⟩ := h
  cases hs : d.state <;> simp_all [DriveState.quiet, Still]

/-- The same state and the same timers. -/
theorem driveTimers_of_kept {d e : Drive} (h : driveTimers d)
    (same : e.state = d.state ∧ e.alignTimer = d.alignTimer ∧ e.rampTimer = d.rampTimer ∧
      e.forcedTimer = d.forcedTimer ∧ e.controlTimer = d.controlTimer ∧ e.coastTimer = d.coastTimer ∧
      e.compare = d.compare ∧ e.deadline = d.deadline) : driveTimers e := by
  obtain ⟨state, align, ramp, forced, control, coast, compare, deadline⟩ := same
  simpa only [driveTimers, state, align, ramp, forced, control, coast, compare, deadline] using h

theorem onDrive_timersKept {f : Drive → Drive} {s : State}
    (same : (f s.drive).state = s.drive.state ∧ (f s.drive).alignTimer = s.drive.alignTimer ∧
      (f s.drive).rampTimer = s.drive.rampTimer ∧ (f s.drive).forcedTimer = s.drive.forcedTimer ∧
      (f s.drive).controlTimer = s.drive.controlTimer ∧ (f s.drive).coastTimer = s.drive.coastTimer ∧
      (f s.drive).compare = s.drive.compare ∧ (f s.drive).deadline = s.drive.deadline) :
    TimersKept s (s.onDrive f) := fun h => driveTimers_of_kept h same

/-- In RUN a change that starts no timer but the compare, the deadline and the control timer. -/
theorem driveTimers_of_run {d e : Drive} (h : driveTimers d) (run : d.state = .run)
    (same : e.state = d.state ∧ e.alignTimer = d.alignTimer ∧ e.rampTimer = d.rampTimer ∧
      e.forcedTimer = d.forcedTimer ∧ e.coastTimer = d.coastTimer) : driveTimers e := by
  obtain ⟨state, align, ramp, forced, coast⟩ := same
  simp [driveTimers, state, run, align, ramp, forced, coast, timers_of_run h run]

/-! ### The drive states -/

/-- Whatever the duties were, a quieted drive is sound. -/
theorem quietDrive_timers (st : DriveState) (s : State) : driveTimers (quietDrive st s).drive :=
  (quietDrive_sound s.cfg st s).timers

theorem enterCoast_timers (b : Bool) (s : State) : driveTimers (enterCoast b s).drive :=
  (enterCoast_sound s.cfg b s).timers

theorem enterStopped_timers (s : State) : driveTimers (enterStopped s).drive := (enterStopped_sound s).timers

/-- ALIGN is entered from rest, with no timer but the coast timer that it stops (R50). -/
theorem enterAlign_timersKept {s : State} (quiet : s.drive.state.quiet = true) : TimersKept s (enterAlign s) := by
  intro h
  obtain ⟨align, ramp, forced, control, compare, deadline⟩ := still_of_timers h quiet
  simp [enterAlign_drive, driveTimers, ramp, forced, control, compare, deadline]

theorem startRun_timersKept {s : State} (quiet : s.drive.state.quiet = true) : TimersKept s (startRun s) :=
  fun h => enterAlign_timersKept (s := s.onDrive _) (by simpa using quiet) (onDrive_timersKept (by simp) h)

theorem driveTarget_timersKept (w : Nat) (s : State) : TimersKept s (driveTarget w s) := by
  have recorded : TimersKept s (s.onDrive fun d => { d with target := w }) := onDrive_timersKept (by simp)
  have coasts : TimersKept s (if w = 0 then enterCoast false (s.onDrive fun d => { d with target := w })
      else s.onDrive fun d => { d with target := w }) := by
    split
    · exact fun _ => enterCoast_timers _ _
    · exact recorded
  unfold driveTarget
  dsimp only
  split
  case h_1 stopped =>
    split
    · exact recorded
    · exact fun h => startRun_timersKept (by rw [stopped]; rfl) (recorded h)
  case h_5 =>
    split
    · exact fun h => onDrive_timersKept (by simp) (recorded h)
    · exact recorded
  case h_6 => exact recorded
  all_goals exact coasts

theorem timersKept_relation : DriveRelation TimersKept where
  trans := fun a b h => b (a h)
  kept := fun ⟨_, drive, _⟩ h => drive ▸ h
  target := driveTarget_timersKept
  quiet := fun st s _ _ => quietDrive_timers st s
  stopped := fun s _ => enterStopped_timers s

/-! ### The drive's own commands -/

theorem enterRamp_timersKept {s : State} (running : s.drive.alignTimer.isSome) : TimersKept s (enterRamp s) := by
  intro h
  have align : s.drive.state = .align := by obtain ⟨align, -⟩ := h; exact align running
  simp [enterRamp_drive, nextStep, driveTimers, timers_of_align h align]

theorem nextForced_timersKept {s : State} (running : s.drive.forcedTimer.isSome) : TimersKept s (nextForced s) := by
  intro h
  have ramp : s.drive.state = .ramp := by obtain ⟨-, -, forced, -⟩ := h; exact forced running
  simp [nextForced_drive, nextStep, driveTimers, timers_of_ramp h ramp, ramp]

theorem captureEdge_timersKept (p : MotorPhase) (e : Edge) (s : State) : TimersKept s (captureEdge p e s) := by
  intro h
  unfold captureEdge
  split
  · split
    case h_1 run =>
      rw [crossingInRun_drive]
      split <;> exact driveTimers_of_run h run ⟨rfl, rfl, rfl, rfl, rfl⟩
    case h_2 ramp =>
      rw [crossingInRamp_eq]
      split
      · simp [enterRun_drive, runEntered, driveTimers, rampCrossing, timers_of_ramp h ramp]
      · exact onDrive_timersKept (by simp [rampCrossing]) h
    case h_3 => exact h
  · exact h

theorem commutateOnCompare_timersKept {s : State} (running : s.drive.compare.isSome) :
    TimersKept s (commutateOnCompare s) := by
  intro h
  have run : s.drive.state = .run := by obtain ⟨-, -, -, -, compare, -⟩ := h; exact compare running
  exact driveTimers_of_run h run ⟨rfl, rfl, rfl, rfl, rfl⟩

theorem missCrossing_timersKept {s : State} (running : s.drive.deadline.isSome) : TimersKept s (missCrossing s) := by
  intro h
  have run : s.drive.state = .run := by obtain ⟨-, -, -, -, -, deadline, -⟩ := h; exact deadline running
  exact driveTimers_of_run h run ⟨rfl, rfl, rfl, rfl, rfl⟩

theorem controlStep_timersKept {s : State} (running : s.drive.controlTimer.isSome) : TimersKept s (controlStep s) := by
  intro h
  have run : s.drive.state = .run := by obtain ⟨-, -, -, control, -⟩ := h; exact control running
  exact driveTimers_of_run h run ⟨rfl, rfl, rfl, rfl, rfl⟩

/-- A desync or a failed start: a count, and then a FAULT or a COAST (R53, R58, R61). -/
theorem faultOrCoast_timersKept (c : Prop) [Decidable c] (k : FaultKind) (s : State) :
    TimersKept s (if c then driveFault k s else handDrive (enterCoast true s)) := by
  have r := timersKept_relation
  split
  · exact r.driveFault k s
  · exact fun _ => r.handDrive _ (enterCoast_timers true s)

theorem endCoast_timersKept {s : State} (running : s.drive.coastTimer.isSome) : TimersKept s (endCoast s) := by
  have r := timersKept_relation
  intro h
  have coast : s.drive.state = .coast := by obtain ⟨-, -, -, -, -, -, coast⟩ := h; exact coast running
  unfold endCoast
  split
  · exact r.handDrive _ (enterAlign_timersKept (by rw [coast]; rfl) h)
  · exact r.handDrive _ (enterStopped_timers s)

theorem expireWindow_timersKept (s : State) : TimersKept s (expireWindow s) := by
  unfold expireWindow
  split <;> exact id

theorem countSecond_timersKept (m : Mode) (s : State) : TimersKept s (s.onDrive (·.countSecond m)) :=
  onDrive_timersKept (by cases m <;> simp [Drive.countSecond])

/-- Every command but POWER_ON and the end of the load keeps the drive's timers in their states. -/
theorem exec_timersKept (c : Instr) (s : State) (hp : c ≠ .powerOn) (hl : ∀ b, c ≠ .configLoadEnd b) :
    AnswersWith TimersKept (exec c s) s := by
  have r := timersKept_relation
  have e := r.events
  by_cases other : setsDrive c = false
  · exact r.exec c s other
  cases c with
  | powerOn => contradiction
  | configLoadEnd b => exact absurd rfl (hl b)
  | periodStart mv ma low => exact e.nextIf (r.trans (e.runTo _ s) (onDrive_timersKept (by simp [Drive.beginPeriod])))
  | busCurrentTrip ma => exact e.nextIf (onDrive_timersKept (by simp))
  | alignTimerExpiry => exact onTimer_of_running e fun d hd => enterRamp_timersKept (by simp [hd])
  | forcedCommutation =>
    unfold exec execForcedCommutation
    dsimp only
    split
    · exact onTimerQuietly_of_running e fun d hd => nextForced_timersKept (by simp [hd])
    · exact e.stay s
  | comparatorCapture after p edge =>
    exact e.finishIf (fun s => r.trans (e.runTo _ s) (captureEdge_timersKept p edge _)) _ s
  | commutationCompareExpiry =>
    exact onTimerQuietly_of_running e fun d hd => commutateOnCompare_timersKept (by simp [hd])
  | missedCrossingDeadline => exact onTimerQuietly_of_running e fun d hd => missCrossing_timersKept (by simp [hd])
  | desync =>
    exact e.finishIf (f := takeDesync)
      (fun _ => r.trans (onDrive_timersKept (by simp)) (faultOrCoast_timersKept _ .desync _)) _ s
  | rampTimerExpiry =>
    exact e.onTimer (f := failRamp)
      (fun _ => r.trans (onDrive_timersKept (by simp)) (faultOrCoast_timersKept _ .startFail _)) _ s
  | controlExpiry => exact onTimerQuietly_of_running e fun d hd => controlStep_timersKept (by simp [hd])
  | blockedSet => exact e.onTimer (fun s => r.trans (onDrive_timersKept (by simp)) (r.raise _ _)) _ s
  | blockedClear => exact e.onTimer (fun s => onDrive_timersKept (by simp)) _ s
  | runSecond => exact e.nextIf (countSecond_timersKept _ s)
  | coastTimerExpiry => exact onTimer_of_running e fun d hd => endCoast_timersKept (by simp [hd])
  | envelopeSample code => exact e.onTimerQuietly (f := takeSample code) (fun _ => id) _ s
  | scoringCompletion => exact answersWith_next id
  | windowExpiry => exact e.onTimer expireWindow_timersKept _ s
  | _ => exact absurd rfl other

end Sys2Proof.Proofs
end

section
/-! ## The impact queue and the dirt level from step to step (R68, R73, R80, R84, R87) -/

namespace Sys2Proof.Proofs
open Sys2Proof.Machine Sys2Proof.Safety

/-! ### Dirt sensing under the drive's changes of state -/

/-- The laws of the queue and of L, with the detector and the windows at rest outside RUN and ten thresholds. -/
structure DirtSound (s : State) : Prop where
  timers : dirtTimers s
  table : dirtTable s
  impacts : lawImpacts s
  level : lawLevel s

/-- The configuration stays, and sound dirt sensing stays sound. -/
structure DirtKept (s t : State) : Prop where
  loader : t.loader = s.loader
  sound : DirtSound s → DirtSound t

theorem DirtKept.trans {s t u : State} (a : DirtKept s t) (b : DirtKept t u) : DirtKept s u :=
  ⟨b.loader.trans a.loader, fun h => b.sound (a.sound h)⟩

section
variable {s t : State} (loader : t.loader = s.loader)
include loader

/-- The drive's state stays, and so does dirt sensing but for the sample queue. -/
theorem DirtKept.of_kept (state : t.drive.state = s.drive.state)
    (dirt : t.dirt = { s.dirt with samples := t.dirt.samples }) : DirtKept s t := by
  refine ⟨loader, fun ⟨timers, table, impacts, level⟩ => ?_⟩
  constructor
  · rw [dirtTimers, state, dirt]; exact timers
  · rw [dirtTable, State.cfg, loader]; exact table
  · rw [lawImpacts, state, dirt]; exact impacts
  · rw [lawLevel, state, dirt]; exact level

/-- Dirt sensing is closed where the drive was in RUN (R87). -/
theorem DirtKept.of_closed (dirt : t.dirt = if s.drive.state = .run then s.dirt.closeRun else s.dirt) :
    DirtKept s t := by
  refine ⟨loader, fun ⟨timers, table, impacts, level⟩ => ?_⟩
  have table : dirtTable t := by rw [dirtTable, State.cfg, loader]; exact table
  by_cases run : s.drive.state = .run
  · rw [if_pos run] at dirt
    constructor <;> simp [dirt, Dirt.closeRun, dirtTimers, lawImpacts, lawLevel, table]
  · rw [if_neg run] at dirt
    constructor <;> simp [dirt, dirtTimers, lawImpacts, lawLevel, table, timers run, impacts.2 run, level.2 run]

/-- In RUN only the two bounds and the table count. -/
theorem DirtKept.of_run
    (run : DirtSound s → t.drive.state = .run ∧ t.dirt.queue.length ≤ 32 ∧ t.dirt.level ≤ 10) : DirtKept s t := by
  refine ⟨loader, fun h => ?_⟩
  obtain ⟨run, queue, level⟩ := run h
  constructor
  · exact fun rest => absurd run rest
  · rw [dirtTable, State.cfg, loader]; exact h.table
  · exact ⟨queue, fun rest => absurd run rest⟩
  · exact ⟨level, fun rest => absurd run rest⟩

end

theorem quietDrive_dirtKept (st : DriveState) (s : State) : DirtKept s (quietDrive st s) :=
  .of_closed (by simp) (quietDrive_dirt st s)

theorem enterCoast_dirtKept (b : Bool) (s : State) : DirtKept s (enterCoast b s) :=
  .of_closed (by simp) (quietDrive_dirt .coast s)

theorem enterStopped_dirt (s : State) : (enterStopped s).dirt =
    if s.drive.state = .run then s.dirt.closeRun else s.dirt := by
  unfold enterStopped
  dsimp only
  split
  · exact quietDrive_dirt .stopped s
  · simp [quietDrive_dirt]

theorem enterStopped_dirtKept (s : State) : DirtKept s (enterStopped s) := .of_closed (by simp) (enterStopped_dirt s)

/-- ALIGN is entered from outside RUN. -/
theorem enterAlign_dirtKept {s : State} (rest : s.drive.state ≠ .run) : DirtKept s (enterAlign s) :=
  .of_closed (by simp) (by simp [rest])

theorem driveTarget_dirtKept (w : Nat) (s : State) : DirtKept s (driveTarget w s) := by
  have recorded : DirtKept s (s.onDrive fun d => { d with target := w }) := .of_kept (by simp) (by simp) (by simp)
  have coasts : DirtKept s (if w = 0 then enterCoast false (s.onDrive fun d => { d with target := w })
      else s.onDrive fun d => { d with target := w }) := by
    split
    · exact recorded.trans (enterCoast_dirtKept false _)
    · exact recorded
  unfold driveTarget
  dsimp only
  split
  case h_1 stopped =>
    split
    · exact recorded
    · have rest : s.drive.state ≠ .run := by
        intro run
        simp [run] at stopped
      exact .of_closed (by simp) (by simp [rest])
  case h_5 =>
    split
    · exact recorded.trans (.of_kept (by simp) (by simp) (by simp))
    · exact recorded
  case h_6 => exact recorded
  all_goals exact coasts

theorem dirtKept_relation : DriveRelation DirtKept where
  trans := .trans
  kept := fun ⟨loader, drive, dirt⟩ => .of_kept loader (by rw [drive]) dirt
  target := driveTarget_dirtKept
  quiet := fun st s _ => quietDrive_dirtKept st s
  stopped := enterStopped_dirtKept

/-! ### The commands of the drive -/

theorem onDrive_dirtKept {f : Drive → Drive} {s : State} (state : (f s.drive).state = s.drive.state) :
    DirtKept s (s.onDrive f) := .of_kept (by simp) (by simpa using state) (by simp)

/-- RAMP is entered from ALIGN (R50). -/
theorem enterRamp_dirtKept {s : State} (timers : driveTimers s.drive) (running : s.drive.alignTimer.isSome) :
    DirtKept s (enterRamp s) := by
  have align : s.drive.state = .align := by obtain ⟨align, -⟩ := timers; exact align running
  exact .of_closed (by simp) (by simp [align])

/-- The entry to RUN opens a window, and leaves the queue and L (R86). -/
theorem enterRun_dirtKept (s : State) : DirtKept s (enterRun s) :=
  .of_run (by simp) fun h => ⟨rfl, h.impacts.1, h.level.1⟩

theorem captureEdge_dirtKept (p : MotorPhase) (e : Edge) (s : State) : DirtKept s (captureEdge p e s) := by
  have counted : ∀ off, DirtKept s (s.onDrive (rampCrossing · off)) := fun off =>
    onDrive_dirtKept (by simp [rampCrossing])
  unfold captureEdge
  split
  · split
    case h_1 =>
      refine .of_kept (by simp) ?_ (by simp)
      rw [crossingInRun_drive]
      split <;> rfl
    case h_2 =>
      rw [crossingInRamp_eq]
      split
      · exact (counted _).trans (enterRun_dirtKept _)
      · exact counted _
    case h_3 => exact dirtKept_relation.refl s
  · exact dirtKept_relation.refl s

/-- A desync or a failed start: a count, and then a FAULT or a COAST (R53, R58, R61). -/
theorem faultOrCoast_dirtKept (c : Prop) [Decidable c] (k : FaultKind) (s : State) :
    DirtKept s (if c then driveFault k s else handDrive (enterCoast true s)) := by
  have r := dirtKept_relation
  split
  · exact r.driveFault k s
  · exact (enterCoast_dirtKept true s).trans (r.handDrive _)

/-- The coast timer runs in COAST alone (R59). -/
theorem endCoast_dirtKept {s : State} (timers : driveTimers s.drive) (running : s.drive.coastTimer.isSome) :
    DirtKept s (endCoast s) := by
  have r := dirtKept_relation
  unfold endCoast
  split
  · have coast : s.drive.state = .coast := by obtain ⟨-, -, -, -, -, -, coast⟩ := timers; exact coast running
    exact (enterAlign_dirtKept (by simp [coast])).trans (r.handDrive _)
  · exact (enterStopped_dirtKept s).trans (r.handDrive _)

theorem countSecond_dirtKept (m : Mode) (s : State) : DirtKept s (s.onDrive (·.countSecond m)) :=
  onDrive_dirtKept (by cases m <;> rfl)

/-! ### The commands of dirt sensing -/

theorem run_of_sampling {s : State} (h : DirtSound s) (running : s.dirt.sampleAt.isSome) : s.drive.state = .run := by
  by_contra rest
  simp [h.timers rest] at running

theorem run_of_window {s : State} (h : DirtSound s) (running : s.dirt.windowTimer.isSome) : s.drive.state = .run := by
  by_contra rest
  simp [h.timers rest] at running

/-- A sample is taken in RUN alone (R68). -/
theorem takeSample_dirtKept {s : State} (running : s.dirt.sampleAt.isSome) (code : Byte) :
    DirtKept s (takeSample code s) :=
  .of_run rfl fun h =>
    have ⟨queue, level⟩ := sample_sound h.impacts.1 s.cfg code.toNat
    ⟨run_of_sampling (s := s) h running, queue, level.trans_le h.level.1⟩

/-- A scoring only shortens the queue. -/
theorem scoring_dirtKept (s : State) : DirtKept s (s.onDirt (·.score s.cfg s.drive.runNumber)) := by
  refine ⟨rfl, fun ⟨timers, table, ⟨within, empty⟩, level⟩ => ?_⟩
  obtain ⟨queue', level', sampleAt', windowTimer'⟩ := score_kept s.dirt s.cfg s.drive.runNumber
  constructor
  · simpa [dirtTimers, sampleAt', windowTimer'] using timers
  · exact table
  · refine ⟨?_, fun rest => ?_⟩
    · simp only [onDirt_dirt, queue', List.length_tail]
      omega
    · simp [queue', empty rest]
  · simpa [lawLevel, level'] using level

/-- A window expires in RUN alone (R80), and L stays within the number of thresholds (R83, R84). -/
theorem expireWindow_dirtKept {s : State} (running : s.dirt.windowTimer.isSome) : DirtKept s (expireWindow s) := by
  obtain ⟨loader, drive, head, dirt⟩ := expireWindow_cases s
  refine .of_run loader fun h => ?_
  rw [drive, dirt, closeWindow_queue]
  exact ⟨run_of_window h running, h.impacts.1, closeWindow_level_le h.level.1 h.table head⟩

/-! ### Every command -/

/-- Every command but POWER_ON and the end of the load keeps sound dirt sensing sound, with the drive's timers in their
states. -/
theorem exec_dirtKept (c : Instr) (s : State) (timers : driveTimers s.drive) (hp : c ≠ .powerOn)
    (hl : ∀ b, c ≠ .configLoadEnd b) : AnswersWith DirtKept (exec c s) s := by
  have r := dirtKept_relation
  have e := r.events
  by_cases other : setsDrive c = false
  · exact r.exec c s other
  cases c with
  | powerOn => contradiction
  | configLoadEnd b => exact absurd rfl (hl b)
  | periodStart mv ma low => exact e.nextIf (r.trans (e.runTo _ s) (onDrive_dirtKept rfl))
  | busCurrentTrip ma => exact e.nextIf (onDrive_dirtKept rfl)
  | alignTimerExpiry => exact onTimer_of_running e fun d hd => enterRamp_dirtKept (by simpa using timers) (by simp [hd])
  | forcedCommutation =>
    unfold exec execForcedCommutation
    dsimp only
    split
    · exact e.onTimerQuietly (f := nextForced) (fun _ => .of_kept rfl rfl rfl) _ s
    · exact e.stay s
  | comparatorCapture after p edge =>
    exact e.finishIf (fun s => r.trans (e.runTo _ s) (captureEdge_dirtKept p edge _)) _ s
  | commutationCompareExpiry => exact e.onTimerQuietly (f := commutateOnCompare) (fun _ => .of_kept rfl rfl rfl) _ s
  | missedCrossingDeadline => exact e.onTimerQuietly (f := missCrossing) (fun _ => .of_kept rfl rfl rfl) _ s
  | desync =>
    exact e.finishIf (f := takeDesync)
      (fun _ => r.trans (onDrive_dirtKept rfl) (faultOrCoast_dirtKept _ .desync _)) _ s
  | rampTimerExpiry =>
    exact e.onTimer (f := failRamp)
      (fun _ => r.trans (onDrive_dirtKept rfl) (faultOrCoast_dirtKept _ .startFail _)) _ s
  | controlExpiry => exact e.onTimerQuietly (f := controlStep) (fun _ => .of_kept rfl rfl rfl) _ s
  | blockedSet => exact e.onTimer (fun s => r.trans (onDrive_dirtKept rfl) (r.raise _ _)) _ s
  | blockedClear => exact e.onTimer (fun s => onDrive_dirtKept rfl) _ s
  | runSecond => exact e.nextIf (countSecond_dirtKept _ s)
  | coastTimerExpiry => exact onTimer_of_running e fun d hd => endCoast_dirtKept (by simpa using timers) (by simp [hd])
  | envelopeSample code => exact onTimerQuietly_of_running e fun d hd => takeSample_dirtKept (by simp [hd]) code
  | scoringCompletion => exact answersWith_next (scoring_dirtKept s)
  | windowExpiry => exact onTimer_of_running e fun d hd => expireWindow_dirtKept (by simp [hd])
  | _ => exact absurd rfl other

/-- A power-on, or the end of a load, leaves dirt sensing at its power-on value, with ten thresholds. -/
theorem dirtSound_of_reset {s : State} (table : s.cfg.dirt.length = 10) (dirt : s.dirt = Dirt.reset) : DirtSound s := by
  constructor
  · simp [dirtTimers, dirt, Dirt.reset]
  · exact table.le
  · simp [lawImpacts, dirt, Dirt.reset]
  · simp [lawLevel, dirt, Dirt.reset]

/-- Settles O10: the drive's timers stay in their states, and dirt sensing stays sound: what leaves RUN closes it, and
in RUN a sample, a scoring and a window keep its bounds. -/
theorem impactAndLevelLaws : Obligations.ImpactAndLevelLaws := by
  rintro s t ⟨loading, timers, dirtTimers, table, impacts, level⟩ stepped
  have kept := step_keeps (P := fun s => driveTimers s.drive ∧ DirtSound s) ?_ ?_ ?_
    (fun _ _ ⟨drive, dirt⟩ => ⟨drive, ⟨dirt.timers, dirt.table, dirt.impacts, dirt.level⟩⟩)
    (fun s ⟨drive, dirt⟩ => ⟨drive, (dirtKept_relation.events.elapse 1 s).sound dirt⟩) loading
    ⟨timers, ⟨dirtTimers, table, impacts, level⟩⟩ stepped
  · obtain ⟨loading, timers, dirt⟩ := kept
    exact ⟨loading, timers, dirt.timers, dirt.table, dirt.impacts, dirt.level⟩
  · exact fun _ _ _ _ => ⟨(reset_sound defaultSettings 0 0).timers, dirtSound_of_reset rfl rfl⟩
  · exact fun b time pins free pending =>
      ⟨(reset_sound defaultSettings (48000 / (loadResult b).1.fPwm) (6 * time.ticks)).timers,
        dirtSound_of_reset (loadResult_dirt b) rfl⟩
  · rintro c s t hp hl ⟨timers, dirt⟩ answered
    have kept := exec_dirtKept c s timers hp hl t answered
    exact ⟨kept.loader, exec_timersKept c s hp hl t answered timers, kept.sound dirt⟩

end Sys2Proof.Proofs
end

section
/-! ## The envelope samples (R68 to R74) -/

namespace Sys2Proof.Proofs
open Sys2Proof.Machine Sys2Proof.Safety

section
variable {s : State} {d : Nat} {v : Byte} (running : s.dirt.sampleAt = some d)
include running

/-- A sample is taken at its tick, and the next falls 10 µs later (R68). -/
theorem envelopeSample_answers {e : Dirt} (sampled : s.dirt.sample s.cfg v.toNat = e) :
    Answers (exec (.envelopeSample v) s) fun t =>
      t.time = (runTo d s).time ∧ OnlyIn [.time, .dirt] s t ∧ t.dirt = { e with sampleAt := some (d + 80) } := by
  refine onTimerQuietly_answers (f := takeSample v) running
    ⟨by simp [takeSample], by simp [OnlyIn, takeSample], ?_⟩
  simp [takeSample, sampled, runTo_cfg, running, again, us]

/-- A sample of the impact in progress: what it does to the impact, and then `g`, which leaves the tick of the next. -/
theorem envelopeSample_tracked (g : Dirt → Dirt)
    (sampled : s.dirt.sample s.cfg v.toNat = g (tracked s.dirt s.cfg v.toNat))
    (tick : ∀ e, g { e with sampleAt := some (d + 80) } = { g e with sampleAt := some (d + 80) }) :
    Answers (exec (.envelopeSample v) s) fun t =>
      t.time = (runTo d s).time ∧ OnlyIn [.time, .dirt] s t ∧
      (let tr := { tracked s.dirt s.cfg v.toNat with sampleAt := some (d + 80) }
      tr = { s.dirt.trackSample s.cfg v.toNat with sampleAt := some (d + 80) } ∧ t.dirt = g tr) := by
  obtain ⟨t, answered, time, only, dirt⟩ := envelopeSample_answers running sampled
  exact ⟨t, answered, time, only, by rw [trackSample_eq], dirt.trans (tick _).symm⟩

end

/-- Settles O35: one equation of the sample for each state of the detector and side of TH_LOW. -/
theorem impactSamples : Obligations.ImpactSamples := by
  intro s d v
  refine ⟨fun running ready reached => ?_, fun running idle => ?_, fun running impact reached => ?_,
    fun running above low => ?_, fun running trailing low few => ?_, fun running trailing low fourth short => ?_,
    fun running trailing low fourth long => ?_, fun running dead => ?_⟩
  · exact envelopeSample_answers running (sample_begins ready reached)
  · exact envelopeSample_answers running (sample_idle idle)
  · exact envelopeSample_answers running (sample_lengthens impact reached)
  · exact envelopeSample_tracked running (fun e => { e with det := .trailing, below := 1 }) (sample_falls above low)
      fun _ => rfl
  · exact envelopeSample_tracked running (fun e => { e with below := s.dirt.below + 1 })
      (sample_trails trailing low few) fun _ => rfl
  · exact envelopeSample_tracked running (fun e => { e with det := .dead, dead := 2, below := 0 })
      ((sample_ends trailing low fourth).trans (endImpact_glitch short)) fun _ => rfl
  · exact envelopeSample_tracked running recorded
      ((sample_ends trailing low fourth).trans (endImpact_recorded long)) fun _ => rfl
  · exact envelopeSample_answers running (sample_dead dead)

end Sys2Proof.Proofs
end

section
/-! ## The scoring of the records (R75 to R78) -/

namespace Sys2Proof.Proofs
open Sys2Proof.Machine Sys2Proof.Safety

/-- Entry `k` of the table is the first that takes the record, and has the weight (R76). -/
def FirstMatch (r : Impact) (es : List ClassEntry) (k weight : Nat) : Prop :=
  k < es.length ∧ (∀ e ∈ es.take k, entryAccepts e r = false) ∧
  (es[k]?.map fun e => entryAccepts e r) = some true ∧ (es[k]?.map (·.weight)) = some weight

theorem classify_cons_of_refused {r : Impact} {e : ClassEntry} (refused : entryAccepts e r = false) (n : Nat)
    (es : List ClassEntry) : classify r n (e :: es) = classify r (n + 1) es := by
  simp [classify, refused]

/-- The class of a record whose entries are counted from `n` (R76). -/
theorem firstMatch_of_classify {r : Impact} {k : Nat} : ∀ {es : List ClassEntry} {n : Nat},
    (classify r n es).1 = some k → ∃ i, k = n + i ∧ FirstMatch r es i (classify r n es).2
  | [], n, found => by simp [classify] at found
  | e :: es, n, found => by
    cases takes : entryAccepts e r with
    | true =>
      have first : n = k := by simpa [classify, takes] using found
      exact ⟨0, first.symm, by simp [FirstMatch, classify, takes]⟩
    | false =>
      rw [classify_cons_of_refused takes] at found ⊢
      obtain ⟨i, place, within, before, accepts, weight⟩ := firstMatch_of_classify found
      exact ⟨i + 1, by omega, by simpa using within, by simpa [takes] using before, by simpa using accepts,
        by simpa using weight⟩

/-- An unclassed record: no entry takes it, and it weighs nothing (R76). -/
theorem refused_of_classify {r : Impact} : ∀ {es : List ClassEntry} {n : Nat}, (classify r n es).1 = none →
    (classify r n es).2 = 0 ∧ ∀ e ∈ es, entryAccepts e r = false
  | [], _, _ => by simp [classify]
  | e :: es, n, unclassed => by
    cases takes : entryAccepts e r with
    | true => simp [classify, takes] at unclassed
    | false =>
      rw [classify_cons_of_refused takes] at unclassed ⊢
      obtain ⟨weightless, refused⟩ := refused_of_classify unclassed
      exact ⟨weightless, by simpa [takes] using refused⟩

/-- Settles O36: the scoring is one equation of the dirt block, and the class is found along the table. -/
theorem scoringTakesFirstMatch : Obligations.ScoringTakesFirstMatch := by
  intro s r rest es k
  refine ⟨fun queue => ⟨_, rfl, score_cons queue _ _, by simp [OnlyIn]⟩, fun empty => ⟨_, rfl, ?_⟩, fun found => ?_,
    refused_of_classify⟩
  · simp [State.onDirt, score_nil empty]
  · obtain ⟨i, place, first⟩ := firstMatch_of_classify found
    obtain rfl : k = i := by omega
    exact first

end Sys2Proof.Proofs
end

section
/-! ## The windows and the dirt level (R80 to R84, R162) -/

namespace Sys2Proof.Proofs
open Sys2Proof.Machine Sys2Proof.Safety

/-! ### The head part that is used once (R82, R162) -/

/-- A new content changes the record of its station alone (R149, R150). -/
theorem find_update {f : Record → Record} (station : ∀ r, (f r).station = r.station) (t : Table) (st k : Nat) :
    (t.update st f).find k = (t.find k).map fun r => if r.station = st then f r else r := by
  have same : ∀ r : Record, (if r.station = st then f r else r).station = r.station := by
    intro r
    split
    · exact station r
    · rfl
  simp only [Table.update, Table.find, List.find?_map, Function.comp_def, same]

/-- The head-dirt part that can be used stands in the HEAD record (R82). -/
theorem usableHeadDirt_eq_some {t : Table} {st : Nat} {p : HeadDirtPart} (usable : t.usableHeadDirt = some (st, p)) :
    ∃ r, t.headRecord = some r ∧ r.station = st ∧ r.headDirt = some p := by
  unfold Table.usableHeadDirt at usable
  split at usable
  case h_2 => contradiction
  case h_1 r record =>
    split at usable
    case h_2 => contradiction
    case h_1 q part =>
      split at usable
      case isFalse => contradiction
      case isTrue =>
        cases usable
        exact ⟨r, record, rfl, part⟩

/-- A record whose head-dirt part has been used (R162). -/
def headPartUsed (r : Record) : Record := { r with headDirt := r.headDirt.map fun p => { p with used := true } }

theorem headRecord_markUsed {t : Table} {r : Record} (record : t.headRecord = some r) :
    (t.markUsed r.station).headRecord = some (headPartUsed r) := by
  obtain ⟨k, front, record⟩ := Option.bind_eq_some_iff.mp record
  have updated : (t.markUsed r.station).find k = (t.find k).map fun q =>
      if q.station = r.station then headPartUsed q else q :=
        find_update (f := headPartUsed) (fun _ => rfl) t r.station k
  have found : (t.markUsed r.station).find k = some (headPartUsed r) := by simp [updated, record]
  have order : (t.markUsed r.station).headOrder.head? = some k := front
  simp [Table.headRecord, order, found]

/-- A part that has been used is used no more (R162). -/
theorem usableHeadDirt_markUsed {t : Table} {st : Nat} {p : HeadDirtPart} (usable : t.usableHeadDirt = some (st, p)) :
    (t.markUsed st).usableHeadDirt = none := by
  obtain ⟨r, record, rfl, part⟩ := usableHeadDirt_eq_some usable
  simp [Table.usableHeadDirt, headRecord_markUsed record, headPartUsed, part]

/-! ### The expiry -/

theorem expireWindow_of_none {s : State} (unusable : s.table.usableHeadDirt = none) :
    expireWindow s = s.onDirt (·.closeWindow s.cfg 0) := by
  simp [expireWindow, unusable]

theorem expireWindow_of_some {s : State} {st : Nat} {p : HeadDirtPart}
    (usable : s.table.usableHeadDirt = some (st, p)) : expireWindow s =
      (s.onTable (·.markUsed st)).onDirt (·.closeWindow s.cfg (headPart s.cfg.wHead p)) := by
  simp [expireWindow, usable]

/-- Settles O37: a window closes by one equation of the dirt block, with or without a part of the HEAD record. -/
theorem windowExpiryScores : Obligations.WindowExpiryScores := by
  intro s d st p
  refine ⟨fun running unusable => ?_, fun running usable => ?_⟩
  · refine onTimer_answers (f := expireWindow) running ?_
    rw [expireWindow_of_none (by simpa)]
    refine ⟨by simp, ?_, publish_told_of_kept (by simp) (by simp), by simp [OnlyIn]⟩
    simp [closeWindow_eq, windowClosed, runTo_cfg, running]
  · refine onTimer_answers (f := expireWindow) running ?_
    rw [expireWindow_of_some (by simpa)]
    refine ⟨by simp, ?_, by simp [Table.markUsed], by simpa using usableHeadDirt_markUsed usable,
      publish_told_of_kept (by simp) (by simp), by simp [OnlyIn]⟩
    simp [closeWindow_eq, windowClosed, headPart, runTo_cfg, running]

end Sys2Proof.Proofs
end

section
/-! ## The ask, the charge switch, the rail and the bleeds under the shared operations (R20, R95, R99, R178)

`DockKept` is what every operation of the unit does to these laws: it passes each of them on. Where a phase, a window or a
dock has changed, the ask and the switch have yet to follow: `DockDrifts` is what is passed on until then, and
`DockDrifts.settled` the two judgements that follow. -/

namespace Sys2Proof.Proofs
open Sys2Proof.Machine Sys2Proof.Safety

/-- The law of the ask (R95), with the condition on the regulation timer that it rests on (R103). -/
structure AskSound (s : State) : Prop where
  regulation : regulationTimer s
  ask : lawAsk s

/-- What is passed on before the ask and the switch follow a change of the phase, the window, the dock or the drive. -/
structure DockDrifts (s t : State) : Prop where
  regulation : regulationTimer s → regulationTimer t
  rail : lawRail s → lawRail t
  bleeds : lawBleeds s → lawBleeds t

/-- The laws of the ask, the switch, the rail and the bleeds are passed on. -/
structure DockKept (s t : State) : Prop extends DockDrifts s t where
  ask : AskSound s → lawAsk t
  switch : lawSwitch s → lawSwitch t

section
variable {s t u : State}

theorem DockDrifts.trans (a : DockDrifts s t) (b : DockDrifts t u) : DockDrifts s u where
  regulation := fun h => b.regulation (a.regulation h)
  rail := fun h => b.rail (a.rail h)
  bleeds := fun h => b.bleeds (a.bleeds h)

theorem DockKept.askSound (k : DockKept s t) (h : AskSound s) : AskSound t := ⟨k.regulation h.regulation, k.ask h⟩

theorem DockKept.trans (a : DockKept s t) (b : DockKept t u) : DockKept s u where
  toDockDrifts := a.toDockDrifts.trans b.toDockDrifts
  ask := fun h => b.ask (a.askSound h)
  switch := fun h => b.switch (a.switch h)

/-- Of the charge controller the phase, the ask, the window, the regulation timer and the switch are the same. -/
@[simp] abbrev ChargeSame (c d : Charge) : Prop :=
  d.phase = c.phase ∧ d.ask = c.ask ∧ d.window = c.window ∧ d.regTimer = c.regTimer ∧ d.switch = c.switch

/-- The head, the rail and what permits it are the same; the unit may have become AWAKE or entered DOZE. -/
@[simp] abbrev RailSame (s t : State) : Prop :=
  t.attach.head = s.attach.head ∧ t.attach.rail = s.attach.rail ∧ t.hold.railOff = s.hold.railOff ∧
  (s.running = true → t.running = true)

theorem lawRail_of_same (h : RailSame s t) (law : lawRail s) : lawRail t := by
  obtain ⟨head, rail, off, running⟩ := h
  intro on
  have permitted := law (rail ▸ on)
  simp only [State.railPermitted, Bool.and_eq_true] at permitted ⊢
  exact ⟨by rw [head, off]; exact permitted.1, running permitted.2⟩

theorem lawBleeds_of_same (phase : t.charge.phase = s.charge.phase)
    (bleeds : t.pack.cells.map (·.bleed) = s.pack.cells.map (·.bleed)) (law : lawBleeds s) : lawBleeds t := by
  have same : ∀ cs : List Cell, cs.all (!·.bleed) = (cs.map (·.bleed)).all (!·) := by simp [Function.comp_def]
  simp only [lawBleeds, same] at law ⊢
  rwa [phase, bleeds]

theorem lawAsk_of_same (loader : t.loader = s.loader) (phase : t.charge.phase = s.charge.phase)
    (ask : t.charge.ask = s.charge.ask) (window : t.charge.window = s.charge.window)
    (dock : t.table.dockMaxI = s.table.dockMaxI) (law : lawAsk s) : lawAsk t := by
  simpa only [lawAsk, State.window, State.cfg, loader, phase, ask, window, dock] using law

/-- What the laws read is the same. -/
theorem DockDrifts.of_kept
    (h : t.charge.phase = s.charge.phase ∧ t.charge.regTimer = s.charge.regTimer ∧ RailSame s t ∧
      t.pack.cells.map (·.bleed) = s.pack.cells.map (·.bleed)) : DockDrifts s t := by
  obtain ⟨phase, timer, rail, bleeds⟩ := h
  exact ⟨by simp only [regulationTimer, phase, timer]; exact id, lawRail_of_same rail, lawBleeds_of_same phase bleeds⟩

/-- What the laws read is the same, and a drive at rest stays at rest. -/
theorem DockKept.of_kept
    (h : t.loader = s.loader ∧ ChargeSame s.charge t.charge ∧ t.table.dockMaxI = s.table.dockMaxI ∧
      (s.drive.state.quiet = true → t.drive.state.quiet = true) ∧ RailSame s t ∧
      t.pack.cells.map (·.bleed) = s.pack.cells.map (·.bleed)) : DockKept s t := by
  obtain ⟨loader, ⟨phase, ask, window, timer, switch⟩, dock, quiet, rail, bleeds⟩ := h
  exact {
    toDockDrifts := .of_kept ⟨phase, timer, rail, bleeds⟩
    ask := fun h => lawAsk_of_same loader phase ask window dock h.ask
    switch := fun law closed => by
      obtain ⟨charging, rest⟩ := law (switch ▸ closed)
      exact ⟨phase ▸ charging, quiet rest⟩ }

end

theorem DockKept.refl (s : State) : DockKept s s := .of_kept (by simp)

theorem running_of_power {s t : State} (h : t.power = s.power) : t.running = s.running := by
  simp [State.running, h]

/-- The blocks that the laws read are the same. -/
theorem DockKept.of_blocks {s t : State}
    (h : t.loader = s.loader ∧ ChargeSame s.charge t.charge ∧ t.table = s.table ∧ t.drive.state = s.drive.state ∧
      t.attach.head = s.attach.head ∧ t.attach.rail = s.attach.rail ∧ t.hold.railOff = s.hold.railOff ∧
      t.power = s.power ∧ t.pack.cells.map (·.bleed) = s.pack.cells.map (·.bleed)) : DockKept s t := by
  obtain ⟨loader, charge, table, drive, head, rail, off, power, bleeds⟩ := h
  refine .of_kept ⟨loader, charge, by rw [table], by rw [drive]; exact id, ⟨head, rail, off, ?_⟩, bleeds⟩
  rw [running_of_power power]
  exact id

theorem dockKept_events : EventRelation DockKept where
  refl := .refl
  trans := .trans
  elapse := fun _ _ => .of_blocks (by simp)
  publish := fun _ _ => .of_blocks (by simp)

theorem raise_dockKept (f : Flag) (s : State) : DockKept s (raise f s) := .of_blocks (by simp)

theorem onLine_dockKept (f : Line → Line) (s : State) : DockKept s (s.onLine f) := .of_blocks (by simp)

theorem onReport_dockKept (f : Report → Report) (s : State) : DockKept s (s.onReport f) := .of_blocks (by simp)

theorem onPins_dockKept (f : Pins → Pins) (s : State) : DockKept s (s.onPins f) := .of_blocks (by simp)

theorem onDirt_dockKept (f : Dirt → Dirt) (s : State) : DockKept s (s.onDirt f) := .of_blocks (by simp)

theorem onDrive_dockKept (f : Drive → Drive) (s : State) (hf : (f s.drive).state = s.drive.state) :
    DockKept s (s.onDrive f) := .of_blocks (by simp [hf])

theorem onCharge_dockKept (f : Charge → Charge) (s : State) (hf : ChargeSame s.charge (f s.charge)) :
    DockKept s (s.onCharge f) := .of_blocks (by simpa using hf)

/-! ### The target and the switch (R29, R35, R99) -/

/-- Of the charge controller the judgement of the switch moves the switch and the termination timer alone. -/
theorem switchJudge_charge_eq (s : State) : (switchJudge s).charge =
    { s.charge with switch := s.switchWanted, termination := (switchJudge s).charge.termination } := by
  unfold switchJudge
  split
  case isTrue h => rw [h]
  split <;> simp_all

theorem zeroTarget_dockKept (s : State) : DockKept s (zeroTarget s) :=
  .of_kept (by simp [zeroTarget_drive, easedDrive_quiet, State.running])

theorem quietDrive_dockKept {st : DriveState} (h : st.quiet = true) (s : State) : DockKept s (quietDrive st s) :=
  .of_kept (by simp [h, State.running])

theorem switchJudge_dockKept (s : State) : DockKept s (switchJudge s) where
  regulation := by simp only [regulationTimer]; rw [switchJudge_charge_eq]; exact id
  rail := lawRail_of_same (by simp [State.running])
  bleeds := (switchJudge_settling s).bleeds
  ask := fun h => lawAsk_of_same (by simp) (by rw [switchJudge_charge_eq]) (by rw [switchJudge_charge_eq])
    (by rw [switchJudge_charge_eq]) (by simp) h.ask
  switch := fun _ => switchJudge_lawSwitch s

/-! ### The ask (R95, R96) -/

/-- A change of the ask leaves the phase, the window, the regulation timer and the switch. -/
theorem changeAsk_keeps (a : Ask) (s : State) : (changeAsk a s).charge.ask = a ∧
    (changeAsk a s).charge.phase = s.charge.phase ∧ (changeAsk a s).charge.window = s.charge.window ∧
    (changeAsk a s).charge.regTimer = s.charge.regTimer ∧ (changeAsk a s).charge.switch = s.charge.switch := by
  unfold changeAsk
  split <;> simp_all

theorem changeAsk_drifts (a : Ask) (s : State) : DockDrifts s (changeAsk a s) := by
  obtain ⟨-, phase, -, timer, -⟩ := changeAsk_keeps a s
  exact .of_kept (by simp [phase, timer, State.running])

theorem askCurrent_le (s : State) (w : ChargeWindow) :
    s.askCurrent w ≤ w.iChg ∧ s.askCurrent w ≤ s.cfg.iChgMax ∧ s.askCurrent w ≤ s.table.dockMaxI := by
  unfold State.askCurrent
  dsimp only
  split <;> omega

/-- An ask that the phase, the window and the dock give is within their bounds (R95). -/
theorem askFor_law (s : State) (v : Nat) : (s.charge.phase.charging = false → s.askFor v = .disabled) ∧
    (s.askFor v).i ≤ (s.window.map (·.iChg)).getD 0 ∧ (s.askFor v).i ≤ s.cfg.iChgMax ∧
    (s.askFor v).i ≤ s.table.dockMaxI := by
  unfold State.askFor
  by_cases charging : s.charge.phase.charging = true
  · cases window : s.window with
    | some w => simpa [charging] using askCurrent_le s w
    | none => simp [charging, Ask.disabled]
  · simp [charging, Ask.disabled]

/-- The ask formed afresh is within its bounds, whatever it was before. -/
theorem refreshAsk_lawAsk (s : State) : lawAsk (refreshAsk s) := by
  obtain ⟨ask, phase, window, -, -⟩ := changeAsk_keeps (s.askFor s.charge.ask.v) s
  have law := askFor_law s s.charge.ask.v
  simpa [lawAsk, refreshAsk, ask, phase, State.window, window, State.cfg] using law

/-- The ask and the switch follow what has changed before them (R95, R99). -/
theorem DockDrifts.settled {s t : State} (h : DockDrifts s t) : DockKept s (switchJudge (refreshAsk t)) where
  toDockDrifts := (h.trans (changeAsk_drifts _ t)).trans (switchJudge_dockKept _).toDockDrifts
  ask := fun law => (switchJudge_dockKept _).ask
    ⟨(h.trans (changeAsk_drifts _ t)).regulation law.regulation, refreshAsk_lawAsk t⟩
  switch := fun _ => switchJudge_lawSwitch _

/-! ### Phases -/

/-- A settling in which the rail and what permits it stay, and of which the regulation timer is judged. -/
theorem ScanSettling.drifts {s t : State} (h : ScanSettling s t) (rail : RailSame s t)
    (regulation : regulationTimer s → regulationTimer t) : DockDrifts s t :=
  ⟨regulation, lawRail_of_same rail, h.bleeds⟩

theorem enterPhase_regulation (ph : ChargePhase) (s : State) : regulationTimer (enterPhase ph s) := by
  simp only [regulationTimer, enterPhase_charge]
  split <;> simp_all

theorem enterPhase_drifts (ph : ChargePhase) (s : State) : DockDrifts s (enterPhase ph s) :=
  (enterPhase_scanSettling ph s).drifts (by simp [State.running]) fun _ => enterPhase_regulation ph s

theorem onCharge_drifts (f : Charge → Charge) (s : State)
    (hf : (f s.charge).phase = s.charge.phase ∧ (f s.charge).regTimer = s.charge.regTimer) :
    DockDrifts s (s.onCharge f) := .of_kept (by simpa [State.running] using hf)

theorem enterPaused_drifts (cs : Causes) (s : State) : DockDrifts s (enterPaused cs s) :=
  (enterPhase_drifts _ s).trans (onCharge_drifts _ _ ⟨rfl, rfl⟩)

theorem waitingDecision_drifts (s : State) : DockDrifts s (waitingDecision s) := by
  unfold waitingDecision
  split
  · exact (DockKept.refl s).toDockDrifts
  split
  · exact enterPaused_drifts _ s
  split <;> exact enterPhase_drifts _ s

theorem chargeReview_drifts (s : State) : DockDrifts s (chargeReview s) := by
  have stay := (DockKept.refl s).toDockDrifts
  have pause : DockDrifts s (if s.causesNow.any then enterPaused s.causesNow s else s) := by
    split
    · exact enterPaused_drifts _ s
    · exact stay
  unfold chargeReview
  split
  case h_1 => exact pause
  case h_2 => exact pause
  case h_3 => exact pause
  case h_4 =>
    split
    · exact onCharge_drifts _ s ⟨rfl, rfl⟩
    · exact (enterPhase_drifts _ s).trans (waitingDecision_drifts _)
  case h_5 => exact waitingDecision_drifts s
  all_goals exact stay

theorem chargeSettle_dockKept (s : State) : DockKept s (chargeSettle s) := (chargeReview_drifts s).settled

theorem endCharge_dockKept (ph : ChargePhase) (s : State) : DockKept s (endCharge ph s) := (enterPhase_drifts ph s).settled

theorem chargeFault_dockKept (k : FaultKind) (s : State) : DockKept s (chargeFault k s) :=
  (endCharge_dockKept .fault s).trans (.of_blocks (by simp [chargeFault_eq, pushHistory]))

theorem chargeDone_dockKept (s : State) : DockKept s (chargeDone s) :=
  (endCharge_dockKept .done s).trans (.of_blocks (by simp [chargeDone_eq, setQ_pack]))

theorem dockIn_drifts (s : State) : DockDrifts s (dockIn s) :=
  (enterPhase_drifts _ s).trans (onCharge_drifts _ _ ⟨rfl, rfl⟩)

theorem supplyEvent_dockKept (p : SupplyPart) (s : State) : DockKept s (supplyEvent p s) := by
  have faulted : ∀ u, DockKept u
      (if p.state = .fault && u.charge.phase.charging then chargeFault .dockFault u else u) := by
    intro u
    split
    · exact chargeFault_dockKept _ u
    · exact .refl u
  exact DockKept.trans (.of_blocks (by simp)) (faulted _)

/-! ### The charge controller at a scan -/

theorem windowReview_drifts (s : State) : DockDrifts s (windowReview s) := by
  have selected : ∀ w, DockDrifts s (chargeReview (s.onCharge fun c => { c with window := w })) := fun w =>
    (onCharge_drifts _ s ⟨rfl, rfl⟩).trans (chargeReview_drifts _)
  have stay := (DockKept.refl s).toDockDrifts
  unfold windowReview
  split
  · exact stay
  dsimp only
  split
  · exact stay
  split
  · split
    · exact (selected _).trans (changeAsk_drifts _ _)
    · exact selected _
  · exact selected _

theorem phaseProgress_drifts (s : State) : DockDrifts s (phaseProgress s) := by
  have stay := (DockKept.refl s).toDockDrifts
  unfold phaseProgress
  split
  case h_1 =>
    split
    · exact enterPhase_drifts _ s
    · exact stay
  case h_2 =>
    split
    · split
      · exact enterPhase_drifts _ s
      · exact stay
    · exact stay
  case h_3 =>
    split
    · split
      · exact (enterPhase_drifts _ s).trans (waitingDecision_drifts _)
      · exact stay
    · exact stay
  all_goals exact stay

theorem terminationJudge_dockKept (s : State) : DockKept s (terminationJudge s) := by
  unfold terminationJudge
  split
  · exact onCharge_dockKept _ s ⟨rfl, rfl, rfl, rfl, rfl⟩
  · exact .refl s

theorem chargeScan_dockKept (high throughout : Bool) (s : State) : DockKept s (chargeScan high throughout s) := by
  have fault : ∀ u, DockKept u (highFault high u) := by
    intro u
    unfold highFault
    split
    · exact chargeFault_dockKept _ u
    · exact .refl u
  have guard : ∀ u, DockKept u (supplyGuard throughout u) := by
    intro u
    unfold supplyGuard
    split
    · exact onCharge_dockKept _ u ⟨rfl, rfl, rfl, rfl, rfl⟩
    · exact .refl u
  have progress : ∀ u, DockDrifts u (scanProgress u.charge.phase (scanReview u)) := by
    intro u
    have reviewed : DockDrifts u (scanReview u) :=
      ((windowReview_drifts u).trans (chargeReview_drifts _)).trans (changeAsk_drifts _ _)
    unfold scanProgress
    split
    · exact reviewed.trans (phaseProgress_drifts _)
    · exact reviewed
  have conclusion : ∀ u, DockKept u (scanFrom u) := by
    intro u
    unfold scanFrom scanConclusion
    dsimp only
    split
    · exact (progress u).settled.trans (terminationJudge_dockKept _)
    · exact (progress u).settled
  exact ((fault s).trans (guard _)).trans (conclusion _)

/-! ### The rail and the power-state controller -/

/-- The rail's judgement leaves it on only where it is permitted (R178). -/
theorem railJudge_lawRail (s : State) : lawRail (railJudge s) := by
  have permitted : (railJudge s).railPermitted = s.railPermitted := by simp [State.railPermitted, State.running]
  intro on
  rw [permitted]
  by_contra barred
  simp [railJudge, barred] at on

/-- The rail follows a change of what permits it. -/
theorem railJudge_settles {s t : State} (law : lawRail s → lawRail t)
    (h : t.loader = s.loader ∧ ChargeSame s.charge t.charge ∧ t.table = s.table ∧ t.drive.state = s.drive.state ∧
      t.pack = s.pack) : DockKept s t := by
  obtain ⟨loader, ⟨phase, ask, window, timer, switch⟩, table, drive, pack⟩ := h
  exact {
    regulation := by simp only [regulationTimer, phase, timer]; exact id
    rail := law
    bleeds := lawBleeds_of_same phase (by rw [pack])
    ask := fun h => lawAsk_of_same loader phase ask window (by rw [table]) h.ask
    switch := by simp only [lawSwitch, switch, phase, drive]; exact id }

theorem railJudge_dockKept (s : State) : DockKept s (railJudge s) :=
  railJudge_settles (fun _ => railJudge_lawRail s) (by simp)

theorem powerJudge_running (s : State) : (powerJudge s).running = s.running := by
  unfold powerJudge
  split
  case isTrue running =>
    rw [running]
    unfold powerTimers enterAwakeOrDoze
    (repeat' split) <;> simp_all [State.running, PowerState.running]
  case isFalse => rfl

theorem powerJudge_cells (s : State) : (powerJudge s).pack.cells = s.pack.cells := by
  unfold powerJudge enterAwakeOrDoze powerTimers
  (repeat' split) <;> simp

theorem powerJudge_dockKept (s : State) : DockKept s (powerJudge s) :=
  .of_kept (by simp [powerJudge_running, powerJudge_cells])

theorem handDrive_dockKept (s : State) : DockKept s (handDrive s) :=
  (switchJudge_dockKept s).trans (powerJudge_dockKept _)

theorem handCharge_dockKept (s : State) : DockKept s (handCharge s) :=
  (chargeSettle_dockKept s).trans (powerJudge_dockKept _)

/-- Whatever the drive has done before it is told, the switch follows (R99). -/
theorem handDrive_lawSwitch (s : State) : lawSwitch (handDrive s) :=
  (powerJudge_dockKept _).switch (switchJudge_lawSwitch s)

/-- Whatever the dock or the window has become, the ask follows (R95). -/
theorem handCharge_lawAsk {s : State} (h : regulationTimer s) : lawAsk (handCharge s) := by
  have reviewed : AskSound (refreshAsk (chargeReview s)) :=
    ⟨(changeAsk_drifts _ _).regulation ((chargeReview_drifts s).regulation h), refreshAsk_lawAsk _⟩
  exact (powerJudge_dockKept _).ask ((switchJudge_dockKept _).askSound reviewed)

/-! ### The hold unit -/

theorem handStopCharge_dockKept (b : Bool) (s : State) : DockKept s (handStopCharge b s) := by
  unfold handStopCharge
  split
  · exact switchJudge_dockKept s
  · exact chargeSettle_dockKept s

/-- The outputs are formed afresh, and only then the rail is judged against rail-off (R170, R178). -/
theorem handReasons_dockKept (s : State) : DockKept s (handReasons s) := by
  have power := powerJudge_dockKept (railJudge (handStopCharge s.hold.stopCharge (handStopSuction s)))
  have rail := railJudge_dockKept (handStopCharge s.hold.stopCharge (handStopSuction s))
  have charge := handStopCharge_dockKept s.hold.stopCharge (handStopSuction s)
  have follow := (charge.trans rail).trans power
  have suction : DockKept s { handStopSuction s with hold := s.hold } := by
    unfold handStopSuction
    split
    · exact DockKept.of_kept (by simp [zeroTarget_drive, easedDrive_quiet, State.running])
    · exact .of_blocks (by simp)
  rw [handReasons_eq]
  exact {
    regulation := fun h => follow.regulation (suction.regulation h)
    rail := fun _ => power.rail (railJudge_lawRail _)
    bleeds := fun h => follow.bleeds (suction.bleeds h)
    ask := fun h => follow.ask ⟨suction.regulation h.regulation, suction.ask h⟩
    switch := fun h => follow.switch (suction.switch h) }

theorem onReasons_dockKept (f : Reasons → Reasons) (s : State) : DockKept s (onReasons f s) :=
  DockKept.trans (.of_blocks (by simp)) (handReasons_dockKept _)

end Sys2Proof.Proofs
end

section
/-! ## The ask, the charge switch, the rail and the bleeds under every command (R20, R95, R99, R178) -/

namespace Sys2Proof.Proofs
open Sys2Proof.Machine Sys2Proof.Safety

/-! ### The drive and its latch (R61, R62, R166) -/

/-- A drive that has ended its run may have begun a new one: the switch follows when the reasons are handed on. -/
theorem onReasons_enterStopped_dockKept (f : Reasons → Reasons) (s : State) :
    DockKept s (onReasons f (enterStopped s)) := by
  have stopped : DockDrifts s (enterStopped s) := .of_kept (by simp [State.running])
  have handed := onReasons_dockKept f (enterStopped s)
  exact {
    toDockDrifts := stopped.trans handed.toDockDrifts
    ask := fun h => handed.ask ⟨stopped.regulation h.regulation,
      lawAsk_of_same (by simp) (by simp) (by simp) (by simp) (by simp) h.ask⟩
    switch := fun _ => handReasons_lawSwitch _ }

theorem driveFault_dockKept (k : FaultKind) (s : State) : DockKept s (driveFault k s) := by
  have latched : DockKept s (raise .driveFault (quietDrive .fault (pushHistory k s))) :=
    (DockKept.trans (t := pushHistory k s) (.of_blocks (by simp [pushHistory])) (quietDrive_dockKept rfl _)).trans
      (raise_dockKept _ _)
  unfold driveFault
  dsimp only
  split
  · exact latched.trans (onReasons_dockKept _ _)
  · exact latched.trans (onReasons_enterStopped_dockKept _ _)

theorem latchTest_dockKept (s : State) : DockKept s (latchTest s) := by
  unfold latchTest leaveFault
  split
  · split
    · exact onReasons_enterStopped_dockKept _ s
    · exact onReasons_dockKept _ s
  · exact .refl s

/-- The drive changes its state in any way and is told of it (R99). -/
theorem handDrive_of_drive {s t : State} (h : OnlyIn [.drive, .dirt, .allow, .attach] s t)
    (rail : t.attach.head = s.attach.head ∧ t.attach.rail = s.attach.rail) : DockKept s (handDrive t) := by
  simp only [OnlyIn, List.mem_cons, reduceCtorEq, List.not_mem_nil, or_false, false_or, true_or, or_true, true_and,
    or_self] at h
  obtain ⟨-, -, loader, pack, charge, -, table, -, hold, power, -⟩ := h
  obtain ⟨head, on⟩ := rail
  have moved : DockDrifts s t := .of_kept (by simp [charge, hold, pack, power, head, on, State.running])
  have told := handDrive_dockKept t
  exact {
    toDockDrifts := moved.trans told.toDockDrifts
    ask := fun h => told.ask ⟨moved.regulation h.regulation,
      lawAsk_of_same loader (by rw [charge]) (by rw [charge]) (by rw [charge]) (by rw [table]) h.ask⟩
    switch := fun _ => handDrive_lawSwitch t }

/-! ### The station table (R93, R156, R159) -/

/-- A change of the dock record that the charge controller is not told of leaves the dock's maximum current. -/
theorem dockMaxI_of_not_told {a b : Table} (h : tellsDock a.dockRecord b.dockRecord = false) :
    b.dockMaxI = a.dockMaxI := by
  unfold Table.dockMaxI
  cases ha : a.dockRecord <;> cases hb : b.dockRecord <;> simp_all [tellsDock]

/-- What a change of the table sets off before the dock is looked at (R156). -/
def handWish (t0 : Table) (s : State) : State :=
  let s := if s.table.wish = t0.wish then s else latchTest s
  if s.table.heardUnion s.cfg.holdStations = s.hold.heard then s else handReasons s

theorem handTable_eq (t0 : Table) (s : State) : handTable t0 s =
    if tellsDock t0.dockRecord (handWish t0 s).table.dockRecord then handCharge (handWish t0 s)
    else powerJudge (handWish t0 s) := rfl

theorem handWish_dockKept (t0 : Table) (s : State) : DockKept s (handWish t0 s) := by
  have latch : DockKept s (if s.table.wish = t0.wish then s else latchTest s) := by
    split
    · exact .refl s
    · exact latchTest_dockKept s
  have holds : ∀ u, DockKept u (if u.table.heardUnion u.cfg.holdStations = u.hold.heard then u else handReasons u) := by
    intro u
    split
    · exact .refl u
    · exact handReasons_dockKept u
  exact latch.trans (holds _)

@[simp] theorem handWish_frame (t0 : Table) (s : State) : (handWish t0 s).table = s.table ∧
    (handWish t0 s).loader = s.loader ∧ (handWish t0 s).time = s.time ∧ (handWish t0 s).pins = s.pins ∧
    (handWish t0 s).report = s.report ∧ (handWish t0 s).free = s.free ∧ (handWish t0 s).pending = s.pending := by
  unfold handWish
  dsimp only
  (repeat' split) <;> simp

theorem handTable_dockKept (t0 : Table) (s : State) : DockKept s (handTable t0 s) := by
  rw [handTable_eq]
  split
  · exact (handWish_dockKept t0 s).trans (handCharge_dockKept _)
  · exact (handWish_dockKept t0 s).trans (powerJudge_dockKept _)

/-- The ask follows the dock wherever the dock's maximum current may have changed (R93, R95). -/
theorem setTable_dockKept (tb : Table) (s : State) : DockKept s (setTable tb s) := by
  have wish := handWish_dockKept s.table (s.onTable fun _ => tb)
  unfold setTable
  rw [handTable_eq]
  cases told : tellsDock s.table.dockRecord (handWish s.table (s.onTable fun _ => tb)).table.dockRecord
  · have kept : DockKept s (s.onTable fun _ => tb) :=
      .of_kept (by simpa [State.running] using dockMaxI_of_not_told (by simpa using told))
    exact (kept.trans wish).trans (powerJudge_dockKept _)
  · have charged := handCharge_dockKept (handWish s.table (s.onTable fun _ => tb))
    have taken : DockDrifts s (s.onTable fun _ => tb) := .of_kept (by simp [State.running])
    have drifts := (taken.trans wish.toDockDrifts)
    exact {
      toDockDrifts := drifts.trans charged.toDockDrifts
      ask := fun h => handCharge_lawAsk (drifts.regulation h.regulation)
      switch := fun h => charged.switch (wish.switch h) }

theorem actSupply_dockKept (n : Notice) (tb : Table) (s : State) : DockKept s (actSupply n tb s) := by
  have taken : DockDrifts s (s.onTable fun _ => tb) := .of_kept (by simp [State.running])
  have event := supplyEvent_dockKept n.supplyPart (s.onTable fun _ => tb)
  have table := handTable_dockKept s.table (supplyEvent n.supplyPart (s.onTable fun _ => tb))
  have charged := handCharge_dockKept (handTable s.table (supplyEvent n.supplyPart (s.onTable fun _ => tb)))
  have drifts := (taken.trans event.toDockDrifts).trans table.toDockDrifts
  exact {
    toDockDrifts := drifts.trans charged.toDockDrifts
    ask := fun h => handCharge_lawAsk (drifts.regulation h.regulation)
    switch := fun h => charged.switch (table.switch (event.switch h)) }

/-- A part of HEAD_DIRT that is marked used is no matter of the dock. -/
theorem dockMaxI_markUsed (t : Table) (st : Nat) : (t.markUsed st).dockMaxI = t.dockMaxI := by
  have supply : (t.markUsed st).dockRecord.bind (·.supply) = t.dockRecord.bind (·.supply) := by
    unfold Table.dockRecord
    rw [show (t.markUsed st).supplyOrder = t.supplyOrder from rfl]
    cases t.supplyOrder.head? with
    | none => rfl
    | some k =>
      have updated : (t.markUsed st).find k = (t.find k).map fun q => if q.station = st then headPartUsed q else q :=
        find_update (f := headPartUsed) (fun _ => rfl) t st k
      simp only [Option.bind_some, updated]
      cases t.find k with
      | none => rfl
      | some q => simp only [Option.map_some, Option.bind_some]; split <;> rfl
  simp only [Table.dockMaxI, supply]

theorem expireWindow_dockKept (s : State) : DockKept s (expireWindow s) := by
  unfold expireWindow
  split
  · exact .of_kept (by simp [dockMaxI_markUsed, State.running])
  · exact onDirt_dockKept _ s

/-! ### The dock and the head -/

/-- The charge controller after an undocking (R91). -/
theorem undock_charge (b : Bool) (s : State) : (undock b s).charge = { s.charge with
    phase := .undocked, causes := .none, window := none, ask := .disabled, awaiting := false, echoTimer := none,
    resendTimer := none, regTimer := none, termination := .zero, precharge := .zero, total := .zero,
    supplyLost := false, switch := false } := by
  have asked : (if b && s.charge.phase.charging then putSlot .ask Ask.disabled.payload s else s).charge = s.charge := by
    split <;> simp
  unfold undock
  dsimp only
  generalize (if b && s.charge.phase.charging then putSlot .ask Ask.disabled.payload s else s) = u at asked
  obtain ⟨-, -, -, charge⟩ := switchJudge_open (s := openBleeds (u.onCharge fun c => { c with
      phase := .undocked, causes := .none, window := none, ask := .disabled, awaiting := false, echoTimer := none,
      resendTimer := none, regTimer := none, termination := .zero, precharge := .zero, total := .zero,
      supplyLost := false })) rfl
  rw [charge]
  simp [asked, stop_zero]

/-- An undocked charge controller meets its laws, whatever the table is. -/
theorem dockKept_of_undocked {s t : State} (charge : t.charge = (undock false s).charge) (rail : lawRail s → lawRail t)
    (bleeds : lawBleeds t) : DockKept s t := by
  rw [undock_charge] at charge
  constructor
  · exact ⟨fun _ => by simp [regulationTimer, charge], rail, fun _ => bleeds⟩
  · exact fun _ => by simp [lawAsk, charge, Ask.disabled]
  · exact fun _ => by simp [lawSwitch, charge]

theorem undock_open (b : Bool) (s : State) : (undock b s).pack.cells.all (!·.bleed) = true := by
  unfold undock
  exact (switchJudge_settling _).all_open (by simp [openBleeds_pack, unbled])

theorem undock_dockKept (b : Bool) (s : State) : DockKept s (undock b s) :=
  dockKept_of_undocked (by simp only [undock_charge]) (lawRail_of_same (by simp [State.running]))
    fun _ _ => undock_open b s

/-- Head detect leaves the rail alone where the head is not SEATED: the rail is then off (R178). -/
theorem onAttach_dockKept {f : Attach → Attach} {s : State} (head : s.attach.head ≠ .seated ∨
    (f s.attach).head = s.attach.head) (rail : (f s.attach).rail = s.attach.rail) : DockKept s (s.onAttach f) := by
  refine railJudge_settles (fun law => ?_) (by simp)
  rcases head with head | head
  · intro on
    have permitted := law (rail ▸ on)
    simp [State.railPermitted, head] at permitted
  · exact lawRail_of_same (by simp [head, rail, State.running]) law

theorem removal_dockKept (s : State) : DockKept s (removal s) := by
  have off : DockKept s (s.onAttach fun a =>
      { a with head := .removed, rail := false, railTimer := none, excess := false, overdrawTimer := none }) :=
    railJudge_settles (fun _ => by simp [lawRail]) (by simp)
  unfold removal
  exact ((off.trans (raise_dockKept _ _)).trans (setTable_dockKept _ _)).trans (onReasons_dockKept _ _)

theorem headSettles_dockKept {s : State} (removed : s.attach.head = .removed) : DockKept s (headSettles s) :=
  onAttach_dockKept (.inl (by simp [removed])) rfl

theorem judgeContacts_dockKept (s : State) : DockKept s (judgeContacts s) := by
  unfold judgeContacts
  split
  case h_1 removed =>
    split
    · exact headSettles_dockKept removed
    · exact .refl s
  case h_2 =>
    split
    · exact .refl s
    · exact removal_dockKept s
  case h_3 => exact .refl s

/-! ### SLEEP, SHIP and the wake -/

theorem quiet_dockKept (p : PowerState) (s : State) : DockKept s (quiet p s) := by
  have undocked := undock_charge false s
  refine dockKept_of_undocked ?_ (fun _ => by simp [lawRail, quiet, Attach.quieted]) fun _ _ => ?_
  · simp [quiet, undock_charge]
  · simpa [quiet] using undock_open false (quietTarget (s.onPack Pack.quieted))

theorem judgeDockPin_dockKept (s : State) : DockKept s (judgeDockPin s) := by
  unfold judgeDockPin dockSettles
  split
  · exact onAttach_dockKept (.inr rfl) rfl
  · exact .refl s

theorem wake_dockKept (s : State) : DockKept s (wake s) := by
  have started : DockKept s (startDozeTimers (orderBreak (orderStartScan
      ((s.onPower fun p => { p with state := .doze }).onPack fun p => { p with direct := true })))) :=
    .of_kept (by simp [startDozeTimers, orderStartScan, State.running, PowerState.running])
  exact (((started.trans (judgeDockPin_dockKept _)).trans (judgeContacts_dockKept _)).trans
    (railJudge_dockKept _)).trans (powerJudge_dockKept _)

theorem wakeByLevel_dockKept (s : State) : DockKept s (wakeByLevel s) := by
  unfold wakeByLevel
  split
  · exact (wake_dockKept s).trans (.of_blocks (by simp))
  · exact .refl s

theorem enterSleep_dockKept (s : State) : DockKept s (enterSleep s) :=
  (quiet_dockKept _ s).trans (wakeByLevel_dockKept _)

theorem enterShip_dockKept (s : State) : DockKept s (enterShip s) :=
  (quiet_dockKept _ s).trans (wakeByLevel_dockKept _)

theorem endStarting_dockKept (s : State) : DockKept s (endStarting s) := by
  have started : ∀ f, DockKept s
      ((startDozeTimers (s.onPower fun p => { p with state := .doze })).onPack fun p => { p with scanTimer := f }) :=
    fun f => .of_kept (by simp [startDozeTimers, State.running, PowerState.running])
  exact ((((started _).trans (judgeDockPin_dockKept _)).trans (judgeContacts_dockKept _)).trans
    (railJudge_dockKept _)).trans (powerJudge_dockKept _)

theorem thenShip_dockKept (b : Bool) (s : State) : DockKept s (thenShip b s) := by
  unfold thenShip giveShipOrder
  dsimp only
  (repeat' split)
  · exact .refl s
  · exact onReport_dockKept _ s
  · exact (onReport_dockKept _ s).trans (enterShip_dockKept _)
  · exact .refl s

theorem putReport_dockKept (p : List Byte) (s : State) : DockKept s (putReport p s) :=
  DockKept.trans (.of_blocks (by simp)) (thenShip_dockKept _ _)

theorem conflictEvidence_dockKept (s : State) : DockKept s (conflictEvidence s) :=
  ((onLine_dockKept _ s).trans (raise_dockKept _ _)).trans (handReasons_dockKept _)

end Sys2Proof.Proofs
end

section
/-! ## The laws of the ask, the switch, the rail and the bleeds from step to step (R20, R95, R99, R178) -/

namespace Sys2Proof.Proofs
open Sys2Proof.Machine Sys2Proof.Safety

/-! ### A scan's events (R3) -/

/-- What the laws of the ask, the switch and the rail read is the same, and the bleeds keep their law (R20). -/
theorem DockKept.of_bleeds {s t : State} (bleeds : lawBleeds s → lawBleeds t)
    (h : t.loader = s.loader ∧ t.charge = s.charge ∧ t.table = s.table ∧ t.drive = s.drive ∧ t.attach = s.attach ∧
      t.hold.railOff = s.hold.railOff ∧ t.power = s.power) : DockKept s t := by
  obtain ⟨loader, charge, table, drive, attach, off, power⟩ := h
  constructor
  · refine ⟨by simp only [regulationTimer, charge]; exact id, lawRail_of_same ⟨by rw [attach], by rw [attach], off, ?_⟩,
      bleeds⟩
    rw [running_of_power power]
    exact id
  · exact fun h => lawAsk_of_same loader (by rw [charge]) (by rw [charge]) (by rw [charge]) (by rw [table]) h.ask
  · simp only [lawSwitch, charge, drive]
    exact id

theorem scanPack_dockKept (r : ScanReading) (s : State) : DockKept s (scanPack r s) := by
  have clear : DockKept s (clearScan s) := .of_blocks (by simp [clearScan])
  unfold scanPack
  split
  · have read : DockKept s (acceptScan r (clearScan s)) :=
      .of_bleeds (fun law => by simpa [lawBleeds, scanTaken] using scanTaken_lawBleeds r s law) (by simp [clearScan])
    exact read.trans (handReasons_dockKept _)
  · have failed : DockKept (clearScan s) (rejectScan (clearScan s)) :=
      .of_blocks (by simp [rejectScan, sensorJudge])
    exact (clear.trans failed).trans (handReasons_dockKept _)

theorem scanTemps_dockKept (r : ScanReading) (s : State) : DockKept s (scanTemps r s) := by
  unfold scanTemps
  split
  · exact DockKept.trans (.of_blocks (by simp [packReasons])) (handReasons_dockKept _)
  · exact .refl s

theorem scanCharge_dockKept (r : ScanReading) (s0 s : State) : DockKept s (scanCharge r s0 s) := by
  unfold scanCharge
  split
  · exact (chargeScan_dockKept _ _ s).trans (powerJudge_dockKept _)
  · exact .refl s

theorem scanAllowance_dockKept (s : State) : DockKept s (scanAllowance s) := by
  have driven : DockKept s (handDrive (driveTarget (allowanceFormed s).allow.target (allowanceFormed s))) :=
    handDrive_of_drive (by simp [OnlyIn, allowanceFormed]) (by simp [allowanceFormed, excessJudge])
  rw [scanAllowance_eq]
  exact driven.trans (handReasons_dockKept _)

theorem startScanEnd_dockKept (b : Bool) (s : State) : DockKept s (startScanEnd b s) := by
  unfold startScanEnd endStartScan
  (repeat' split) <;> exact .of_blocks (by simp [orderBreak])

theorem completeScan_dockKept (r : ScanReading) (s : State) : DockKept s (completeScan r s) := by
  have e := dockKept_events
  rw [completeScan_eq_before]
  exact ((((e.asEvent (scanPack_dockKept r) s).trans (e.asEvent (scanTemps_dockKept r) _)).trans
    (e.asEvent (scanCharge_dockKept r s) _)).trans (e.asEvent scanAllowance_dockKept _)).trans
      (startScanEnd_dockKept _ _)

theorem deliver_dockKept (m : Int) (s : State) : DockKept s (deliver m s) :=
  .of_blocks (by simp [deliver, countCharge, setQ_pack])

/-! ### The drive's own commands -/

/-- An operation on the drive alone, taking free values or not, that leaves it in its state. -/
theorem DockKept.of_drive {s t : State} (h : OnlyIn [.drive, .free] s t) (state : t.drive.state = s.drive.state) :
    DockKept s t := by
  simp only [OnlyIn, List.mem_cons, reduceCtorEq, List.not_mem_nil, or_false, true_or, true_and, false_or] at h
  obtain ⟨-, -, loader, pack, -, -, charge, -, table, -, hold, attach, power, -⟩ := h
  exact .of_blocks (by simp [loader, pack, charge, table, hold, attach, power, state])

theorem faultOrCoast_dockKept (c : Prop) [Decidable c] (k : FaultKind) (s : State) :
    DockKept s (if c then driveFault k s else handDrive (enterCoast true s)) := by
  split
  · exact driveFault_dockKept k s
  · exact handDrive_of_drive (by simp [OnlyIn]) (by simp)

theorem takeDesync_dockKept (s : State) : DockKept s (takeDesync s) :=
  (onDrive_dockKept _ s rfl).trans (faultOrCoast_dockKept _ .desync _)

theorem failRamp_dockKept (s : State) : DockKept s (failRamp s) :=
  (onDrive_dockKept _ s rfl).trans (faultOrCoast_dockKept _ .startFail _)

theorem endCoast_dockKept (s : State) : DockKept s (endCoast s) := by
  unfold endCoast
  split <;> exact handDrive_of_drive (by simp [OnlyIn]) (by simp)

/-- A crossing moves a driven drive to RUN at most (R52). -/
theorem captureEdge_dockKept (p : MotorPhase) (e : Edge) (s : State) : DockKept s (captureEdge p e s) := by
  unfold captureEdge
  split
  · split
    case h_1 => exact .of_blocks (by simp [crossingInRun_drive, goodCrossing, badCrossing, apply_ite])
    case h_2 ramp =>
      rw [crossingInRamp_eq]
      split
      · refine .of_kept (by simp [enterRun_drive, rampCrossing, ramp, DriveState.quiet, State.running])
      · exact onDrive_dockKept _ s rfl
    case h_3 => exact .refl s
  · exact .refl s

/-- ALIGN is over: the drive was driven, so the switch is open (R99). -/
theorem enterRamp_dockKept {s : State} (timers : driveTimers s.drive) (running : s.drive.alignTimer.isSome) :
    DockKept s (enterRamp s) := by
  have align : s.drive.state = .align := by obtain ⟨align, -⟩ := timers; exact align running
  exact .of_kept (by simp [align, DriveState.quiet, State.running])

/-! ### Notices -/

theorem handledBy_dockKept {act : Notice → Table → State → State} (hact : ∀ n tb s, DockKept s (act n tb s))
    (kind : Notice → Bool) (s : State) : AnswersWith DockKept (handledBy kind act s) s :=
  dockKept_events.handledBy (fun _ => .of_blocks (by simp [dropOldest])) setTable_dockKept (raise_dockKept _) hact kind s

theorem handled_dockKept {act : Notice → Table → State → State} (hact : ∀ n tb s, DockKept s (act n tb s))
    (kind : Notice → Bool) (s : State) : AnswersWith DockKept (handled kind act s) s :=
  handledBy_dockKept (fun n tb => dockKept_events.asEvent (hact n tb)) kind s

theorem actEntry_dockKept (n : Notice) (tb : Table) (s : State) : DockKept s (actEntry n tb s) := setTable_dockKept tb s

theorem actRequest_dockKept (n : Notice) (tb : Table) (s : State) : DockKept s (actRequest n tb s) :=
  (setTable_dockKept tb s).trans (.of_blocks (by simp [actRequest]))

theorem actAnswer_dockKept (form : Notice → State → List Byte) (n : Notice) (tb : Table) (s : State) :
    DockKept s (actAnswer form n tb s) := (setTable_dockKept tb s).trans (putReport_dockKept _ _)

theorem actSample_dockKept (n : Notice) (tb : Table) (s : State) : DockKept s (actSample n tb s) :=
  ((setTable_dockKept tb s).trans (onDirt_dockKept _ _)).trans (putReport_dockKept _ _)

theorem actAction_dockKept {act : State → State} (hact : ∀ s, DockKept s (act s)) (n : Notice) (tb : Table)
    (s : State) : DockKept s (actAction act n tb s) := by
  have answered : ∀ u, DockKept u (answerAction act n u) := by
    intro u
    unfold answerAction
    split
    · exact (hact u).trans (putReport_dockKept _ _)
    · exact putReport_dockKept _ u
  exact (dockKept_events.asEvent (setTable_dockKept tb) s).trans (dockKept_events.asEvent answered _)

theorem actShip_dockKept (n : Notice) (tb : Table) (s : State) : DockKept s (actShip n tb s) := by
  have accepted : ∀ u, DockKept u (acceptShip n u) := by
    intro u
    unfold acceptShip
    dsimp only
    split
    · exact putReport_dockKept _ u
    · exact (putReport_dockKept _ u).trans (onReport_dockKept _ _)
  refine (setTable_dockKept tb s).trans ?_
  unfold actShip
  dsimp only
  split
  · exact accepted _
  · exact putReport_dockKept _ _

theorem receiveNotice_dockKept (chars : List Byte) (s : State) : DockKept s (receiveNotice chars s) := by
  refine (onLine_dockKept (fun l =>
    { l with reception := none, recessiveFrom := some s.now, dominantFrom := none, risesAt := none }) s).trans ?_
  unfold receiveNotice judgeNotice offerNotice
  (repeat' split)
  · exact conflictEvidence_dockKept _
  · exact onLine_dockKept _ _
  · exact raise_dockKept _ _
  · exact .refl _
  · exact .refl _

/-! ### The line -/

theorem becomeIdle_dockKept (s : State) : DockKept s (becomeIdle s) := by
  have counted : ∀ (u : Unsettled) (x : State), DockKept x (countError u x) := by
    intro u x
    unfold countError
    dsimp only
    split
    · exact .of_blocks (by simp)
    · exact (DockKept.trans (.of_blocks (by simp)) (conflictEvidence_dockKept _)).trans (thenShip_dockKept _ _)
  unfold becomeIdle settle
  split
  · exact DockKept.trans (.of_blocks (by simp)) (counted _ _)
  · exact .of_blocks (by simp)

theorem loseHeader_dockKept (s : State) : DockKept s (loseHeader s) :=
  DockKept.trans (.of_blocks (by simp)) (thenShip_dockKept _ _)

theorem endErrored_dockKept (a : Attempt) (s : State) : DockKept s (endErrored a s) :=
  DockKept.trans (.of_blocks (by simp)) (thenShip_dockKept _ _)

theorem completeAttempt_dockKept (a : Attempt) (s : State) : DockKept s (completeAttempt a s) :=
  DockKept.trans (.of_blocks (by simp)) (thenShip_dockKept _ _)

theorem takeBreak_dockKept (s : State) : DockKept s (takeBreak s) := by
  have held : ∀ u, DockKept u (breakSettled (holdAtBreak (putState (raise .lineReset u)))) := by
    intro u
    unfold breakSettled holdAtBreak
    split <;> exact .of_blocks (by simp)
  exact ((DockKept.trans (.of_blocks (by simp)) (setTable_dockKept .reset _)).trans (held _)).trans
    (thenShip_dockKept _ _)

theorem releaseBreak_dockKept (s : State) : DockKept s (releaseBreak s) := by
  unfold releaseBreak
  dsimp only
  split
  · exact (onLine_dockKept _ s).trans (endStarting_dockKept _)
  · exact onLine_dockKept _ s

theorem stickLine_dockKept (s : State) : DockKept s (stickLine s) :=
  (DockKept.trans (.of_blocks (by simp)) (handReasons_dockKept _)).trans (thenShip_dockKept _ _)

theorem recoverLine_dockKept (s : State) : DockKept s (recoverLine s) :=
  DockKept.trans (.of_blocks (by simp)) (handReasons_dockKept _)

theorem fallingEdge_dockKept (low : Option Nat) (s : State) : DockKept s (fallingEdge low s) := by
  unfold fallingEdge
  (repeat' split) <;> exact .of_blocks (by simp)

/-! ### The dock's commands -/

theorem dockSettles_dockKept (s : State) : DockKept s (dockSettles s) := onAttach_dockKept (.inr rfl) rfl

theorem dockRise_dockKept (mv : Nat) (s : State) : DockKept s (dockRise mv s) := by
  have pin := onPins_dockKept (fun p => { p with dockMv := mv }) s
  unfold dockRise
  dsimp only
  (repeat' split)
  · exact pin.trans (dockSettles_dockKept _)
  · exact pin
  · exact pin.trans (dockSettles_dockKept _)
  · exact pin
  · exact pin.trans (wake_dockKept _)
  · exact pin.trans (wake_dockKept _)
  · exact pin

theorem leaveDock_dockKept (s : State) : DockKept s (leaveDock s) :=
  (((onAttach_dockKept (.inr rfl) rfl).trans (raise_dockKept _ _)).trans (undock_dockKept true _)).trans
    (handReasons_dockKept _)

theorem dockFall_dockKept (mv : Nat) (s : State) : DockKept s (dockFall mv s) := by
  have pin := onPins_dockKept (fun p => { p with dockMv := mv }) s
  unfold dockFall
  dsimp only
  (repeat' split)
  · exact pin.trans (onAttach_dockKept (.inr rfl) rfl)
  · exact pin.trans (leaveDock_dockKept _)
  · exact pin
  · exact pin
  · exact pin

theorem settleDock_dockKept (s : State) : DockKept s (settleDock s) := by
  have docked : DockDrifts s (dockIn (raise .docked (s.onAttach fun a =>
      { a with dock := .docked, settleTimer := none }))) :=
    ((onAttach_dockKept (.inr rfl) rfl).trans (raise_dockKept _ _)).toDockDrifts.trans (dockIn_drifts _)
  exact ((docked.trans (chargeReview_drifts _)).settled).trans (handReasons_dockKept _)

theorem resendAsk_dockKept (s : State) : DockKept s (resendAsk s) := .of_blocks (by simp [resendAsk])

theorem unresponsive_dockKept (s : State) : DockKept s (unresponsive s) :=
  (onCharge_dockKept _ s ⟨rfl, rfl, rfl, rfl, rfl⟩).trans (handCharge_dockKept _)

/-- A regulation moves the voltage of the ask alone, and runs in TOPOFF alone (R103). -/
theorem regulated_dockKept {s : State} (running : s.charge.regTimer.isSome) (v : Nat) :
    DockKept s (changeAsk { s.charge.ask with v := v } s) := by
  obtain ⟨ask, phase, window, -, -⟩ := changeAsk_keeps { s.charge.ask with v := v } s
  constructor
  · exact changeAsk_drifts _ s
  · intro sound
    have topoff := sound.regulation running
    obtain ⟨-, current⟩ := sound.ask
    simpa [lawAsk, ask, phase, topoff, ChargePhase.charging, State.window, window, State.cfg] using current
  · simp [lawSwitch, phase]

/-- A regulation comes in TOPOFF alone, and moves the voltage of the ask alone (R103). -/
theorem regulateAsk_dockKept {s : State} (running : s.charge.regTimer.isSome) : DockKept s (regulateAsk s) := by
  have restarted : DockKept s (s.onCharge fun c => { c with regTimer := some (s.now + ms 500) }) := by
    constructor
    · exact ⟨fun timer _ => by simpa using timer running, lawRail_of_same (by simp [State.running]),
        lawBleeds_of_same rfl rfl⟩
    · exact fun h => lawAsk_of_same rfl rfl rfl rfl rfl h.ask
    · exact id
  have stepped : ∀ u, u.charge.regTimer.isSome → DockKept u (stepAsk u) := by
    intro u running
    unfold stepAsk
    (repeat' split)
    · exact .refl u
    · exact regulated_dockKept running _
    · exact .refl u
  exact (restarted.trans (stepped _ rfl)).trans (switchJudge_dockKept _)

/-! ### The head's commands -/

theorem setContacts_dockKept (h1 h2 : Bool) (s : State) : DockKept s (setContacts h1 h2 s) := onPins_dockKept _ s

theorem contactsAsleep_dockKept (h1 h2 : Bool) (s : State) : DockKept s (contactsAsleep h1 h2 s) := by
  unfold contactsAsleep
  split
  · exact .refl s
  · exact (setContacts_dockKept h1 h2 s).trans (wake_dockKept _)

theorem contactsFall_dockKept (s : State) : DockKept s (contactsFall s) := by
  have fits : ∀ u, DockKept u (headFits u) := by
    intro u
    unfold headFits
    split
    case isTrue removed => exact headSettles_dockKept removed
    case isFalse => exact .refl u
  unfold contactsFall
  split
  case h_1 => exact (setContacts_dockKept _ _ s).trans (fits _)
  case h_2 => exact (setContacts_dockKept _ _ s).trans (fits _)
  case h_3 => exact contactsAsleep_dockKept _ _ s
  all_goals exact setContacts_dockKept _ _ s

theorem contactRises_dockKept (h1 h2 : Bool) (s : State) : DockKept s (contactRises h1 h2 s) := by
  have lets : ∀ u, DockKept u (headLets u) := by
    intro u
    unfold headLets
    split
    case h_1 => exact .refl u
    case h_2 settling => exact onAttach_dockKept (.inl (by simp [settling])) rfl
    case h_3 => exact removal_dockKept u
  unfold contactRises
  split
  case h_1 => exact (setContacts_dockKept _ _ s).trans (lets _)
  case h_2 => exact (setContacts_dockKept _ _ s).trans (lets _)
  case h_3 => exact contactsAsleep_dockKept _ _ s
  all_goals exact setContacts_dockKept _ _ s

theorem seatHead_dockKept (s : State) : DockKept s (seatHead s) :=
  railJudge_settles (fun _ => railJudge_lawRail _) (by simp [seatHead])

theorem railOn_dockKept (s : State) : DockKept s (railOn s) :=
  railJudge_settles (fun _ on => on) (by simp [railOn])

theorem latchShort_dockKept (s : State) : DockKept s (latchShort s) :=
  DockKept.trans (.of_blocks (by simp [pushHistory])) (onReasons_dockKept _ _)

theorem latchOverdraw_dockKept (s : State) : DockKept s (latchOverdraw s) := by
  have reported := (onAttach_dockKept (s := s) (f := fun a => { a with excess := false, overdrawTimer := none })
    (.inr rfl) rfl).trans (raise_dockKept .overdraw _)
  unfold latchOverdraw
  dsimp only
  split
  · exact reported
  · exact (reported.trans (.of_blocks (by simp [pushHistory]))).trans (onReasons_dockKept _ _)

/-! ### The commands -/

/-- Every command but POWER_ON, the end of the load and the end of ALIGN, which needs the drive's timers, passes the laws
of the ask, the switch, the rail and the bleeds on. -/
theorem exec_dockKept (c : Instr) (s : State) (hp : c ≠ .powerOn) (hl : ∀ b, c ≠ .configLoadEnd b)
    (ha : c ≠ .alignTimerExpiry) : AnswersWith DockKept (exec c s) s := by
  have e := dockKept_events
  cases c with
  | powerOn => contradiction
  | configLoadEnd b => exact absurd rfl (hl b)
  | alignTimerExpiry => contradiction
  | scanTimerExpiry =>
    exact e.onTimerQuietly (f := startTimedScan) (fun s => .of_blocks (by simp [startTimedScan])) _ s
  | cellConversionsEnd => exact answersWith_next (.of_blocks (by simp))
  | scanCompletion r =>
    refine answersWith_next ?_
    split
    · exact .refl s
    · exact completeScan_dockKept r s
  | chargeDelivery m => exact e.onTimer (deliver_dockKept m) _ s
  | periodStart mv ma low => exact e.nextIf ((e.runTo _ s).trans (onDrive_dockKept _ _ rfl))
  | busCurrentTrip ma => exact e.nextIf (onDrive_dockKept _ s rfl)
  | overcurrent => exact e.finishIf (driveFault_dockKept _) _ s
  | undervoltageTimerExpiry => exact e.onTimer (driveFault_dockKept _) _ s
  | forcedCommutation =>
    unfold exec execForcedCommutation
    dsimp only
    split
    · exact e.onTimerQuietly (f := nextForced) (fun s =>
      .of_drive (by simp [OnlyIn, nextForced]) (by simp [nextForced_drive, nextStep])) _ s
    · exact e.stay s
  | comparatorCapture after p edge =>
    exact e.finishIf (fun s => (e.runTo _ s).trans (captureEdge_dockKept p edge _)) _ s
  | commutationCompareExpiry =>
    exact e.onTimerQuietly (f := commutateOnCompare)
      (fun s =>
      .of_drive (by simp [OnlyIn, commutateOnCompare]) (by simp [commutateOnCompare_drive, nextStep])) _ s
  | missedCrossingDeadline =>
    exact e.onTimerQuietly (f := missCrossing) (fun s =>
      .of_drive (by simp [OnlyIn, missCrossing]) (by simp [missCrossing_drive, nextStep])) _ s
  | desync => exact e.finishIf takeDesync_dockKept _ s
  | rampTimerExpiry => exact e.onTimer failRamp_dockKept _ s
  | controlExpiry =>
    exact e.onTimerQuietly (f := controlStep) (fun s =>
      .of_drive (by simp [OnlyIn, controlStep]) (by simp [controlStep_drive])) _ s
  | blockedSet => exact e.onTimer (fun s => (onDrive_dockKept _ s rfl).trans (raise_dockKept _ _)) _ s
  | blockedClear => exact e.onTimer (fun s => onDrive_dockKept _ s rfl) _ s
  | runSecond => exact e.nextIf (onDrive_dockKept _ s (by cases s.allow.mode <;> rfl))
  | coastTimerExpiry => exact e.onTimer endCoast_dockKept _ s
  | envelopeSample code => exact e.onTimerQuietly (f := takeSample code) (fun s => onDirt_dockKept _ s) _ s
  | scoringCompletion => exact answersWith_next (onDirt_dockKept _ s)
  | windowExpiry => exact e.onTimer expireWindow_dockKept _ s
  | dockInputRise mv => exact e.finishIf (dockRise_dockKept mv) _ s
  | dockInputFall mv => exact e.finishIf (dockFall_dockKept mv) _ s
  | settleTimerExpiry => exact e.onTimer settleDock_dockKept _ s
  | resendTimerExpiry => exact e.onTimer resendAsk_dockKept _ s
  | echoTimerExpiry => exact e.onTimer unresponsive_dockKept _ s
  | regulationExpiry => exact onTimer_of_running e fun d hd => regulateAsk_dockKept (by simp [hd])
  | terminationTimerExpiry => exact e.onTimer (fun s => (chargeDone_dockKept s).trans (powerJudge_dockKept _)) _ s
  | prechargeTimerExpiry | totalTimerExpiry =>
    exact e.onTimer (fun s => (chargeFault_dockKept _ s).trans (powerJudge_dockKept _)) _ s
  | noticeReceived chars => exact e.finishIf (receiveNotice_dockKept chars) _ s
  | hold | draw | headDirt | otherClassNotice => exact handled_dockKept actEntry_dockKept _ s
  | request => exact handled_dockKept actRequest_dockKept _ s
  | supply => exact handled_dockKept actSupply_dockKept _ s
  | ident | runs | modeTime | chargeCounts | cellsA | cellsB | fault | holds | table | unknownItem =>
    exact handled_dockKept (actAnswer_dockKept _) _ s
  | sample => exact handled_dockKept actSample_dockKept _ s
  | masterOn | masterOff => exact handledBy_dockKept (actAction_dockKept (onReasons_dockKept _)) _ s
  | clearHistory => exact handledBy_dockKept (actAction_dockKept fun s => .of_blocks (by simp)) _ s
  | ship => exact handled_dockKept actShip_dockKept _ s
  | lineIdle => exact e.finishIf (fun s => (e.runTo _ s).trans (becomeIdle_dockKept _)) _ s
  | headerLoss => exact e.finishIf loseHeader_dockKept _ s
  | bitError =>
    unfold exec execBitError
    dsimp only
    split
    · exact e.finish (endErrored_dockKept _) s
    · exact e.stay s
  | attemptCompletion =>
    unfold exec execAttemptCompletion
    dsimp only
    split
    · exact e.finish (fun s => (e.runTo _ s).trans (completeAttempt_dockKept _ _)) s
    · exact e.stay s
  | shipOrderTimeout => exact e.onTimer (thenShip_dockKept true) _ s
  | breakInProgress =>
    unfold exec execBreakInProgress
    dsimp only
    split
    · exact e.onTimerQuietly (fun s => onLine_dockKept _ s) _ s
    · exact e.stay s
  | breakTaken => exact e.finishIf (fun s => (e.runTo _ s).trans (takeBreak_dockKept _)) _ s
  | ownBreakRelease => exact e.onTimer releaseBreak_dockKept _ s
  | lineStuck =>
    unfold exec execLineStuck
    dsimp only
    split
    · exact e.onTimer stickLine_dockKept _ s
    · exact e.stay s
  | stuckRecovery => exact e.finishIf (fun s => (e.runTo _ s).trans (recoverLine_dockKept _)) _ s
  | conflictTimerExpiry => exact e.onTimer (fun s => (onLine_dockKept _ s).trans (handReasons_dockKept _)) _ s
  | stateCadenceExpiry | holdoffExpiry => exact e.onTimer (f := putState) (fun s => .of_blocks (by simp)) _ s
  | holdCadenceExpiry => exact e.onTimer (f := putHold) (fun s => .of_blocks (by simp)) _ s
  | recordStale st =>
    exact e.onTimer (f := fun s => setTable (s.table.update st fun r => { r with stale := true }) s)
      (fun s => setTable_dockKept _ s) _ s
  | recordAgeRemoval st =>
    exact e.onTimer (f := fun s => setTable (s.table.remove st) (raise .stationLost s))
      (fun s => (raise_dockKept _ s).trans (setTable_dockKept _ _)) _ s
  | headContactsLow => exact e.finish contactsFall_dockKept s
  | headContactHigh h1 h2 => exact e.finishIf (contactRises_dockKept h1 h2) _ s
  | seatTimerExpiry => exact e.onTimer seatHead_dockKept _ s
  | railOnTimerExpiry => exact e.onTimerQuietly railOn_dockKept _ s
  | headRailShort ma => exact e.finishIf latchShort_dockKept _ s
  | overdrawTimerExpiry => exact e.onTimer latchOverdraw_dockKept _ s
  | dozeTimerExpiry => exact e.onTimer enterSleep_dockKept _ s
  | shipTimerExpiry =>
    unfold exec execShipTimerExpiry
    dsimp only
    split
    · exact e.finish (fun s => (e.runToSecond _ s).trans (enterShip_dockKept _)) s
    · exact e.stay s
  | trigEdge edge => exact e.finishIf wake_dockKept _ s
  | sleepBreak =>
    unfold exec execSleepBreak
    dsimp only
    split
    · exact e.finish (fun s => (e.runToSteady _ s).trans (wake_dockKept _)) s
    · exact e.stay s
  | lineFallingEdge low => exact answersWith_next (fallingEdge_dockKept low s)
  | framingError => exact e.nextIf (onLine_dockKept _ s)
  | lengthTooGreat len => exact e.nextIf (onLine_dockKept _ s)

/-! ### The steps -/

/-- The power-on charge controller asks for nothing (R95, R188). -/
theorem askSound_of_reset {s : State} (h : s.charge = Charge.reset) : AskSound s :=
  ⟨by simp [regulationTimer, h, Charge.reset], by simp [lawAsk, h, Charge.reset, Ask.disabled]⟩

/-- The end of ALIGN is no matter of the ask. -/
theorem alignTimerExpiry_askSound (s : State) :
    AnswersWith (fun s t => AskSound s → AskSound t) (exec .alignTimerExpiry s) s := by
  have e : EventRelation fun s t : State => AskSound s → AskSound t :=
    ⟨fun _ => id, fun f g h => g (f h), fun n s => (dockKept_events.elapse n s).askSound,
      fun s t => (dockKept_events.publish s t).askSound⟩
  refine e.onTimer (f := enterRamp) (fun s h => ⟨?_, lawAsk_of_same ?_ ?_ ?_ ?_ ?_ h.ask⟩) _ s
  · simpa [regulationTimer] using h.regulation
  all_goals simp

/-- Settles O11: every command passes the law of the ask on (`exec_dockKept`), and the power-on ask is disabled. -/
theorem askLaw : Obligations.AskLaw := by
  rintro s t ⟨loading, regulation, ask⟩ stepped
  have kept := step_keeps (P := AskSound) ?_ ?_ ?_ ?_ ?_ loading ⟨regulation, ask⟩ stepped
  · exact ⟨kept.1, kept.2.regulation, kept.2.ask⟩
  · exact fun _ _ _ _ => askSound_of_reset rfl
  · exact fun _ _ _ _ _ => askSound_of_reset rfl
  · intro c s t hp hl sound answered
    refine ⟨(exec_carries c s hp hl t answered).loader, ?_⟩
    by_cases align : c = .alignTimerExpiry
    · subst align
      exact alignTimerExpiry_askSound s t answered sound
    · exact (exec_dockKept c s hp hl align t answered).askSound sound
  · exact fun s q => (DockKept.of_blocks (t := { s with pending := q }) (by simp)).askSound
  · exact fun s => (dockKept_events.elapse 1 s).askSound

/-- The laws of the switch, the rail and the bleeds, with the condition on the drive's timers that they rest on. -/
structure SwitchSound (s : State) : Prop where
  timers : driveTimers s.drive
  switch : lawSwitch s
  rail : lawRail s
  bleeds : lawBleeds s

theorem DockKept.switchSound {s t : State} (k : DockKept s t) (timers : driveTimers t.drive) (h : SwitchSound s) :
    SwitchSound t := ⟨timers, k.switch h.switch, k.rail h.rail, k.bleeds h.bleeds⟩

theorem exec_switchSound (c : Instr) (s t : State) (h : SwitchSound s) (answered : exec c s = .next t) :
    SwitchSound t := by
  by_cases hp : c = .powerOn
  · subst hp
    cases answered
    constructor <;> simp [State.reset, driveTimers, Drive.reset, lawSwitch, Charge.reset, lawRail, Attach.reset,
      lawBleeds, Pack.reset, Cell.reset]
  by_cases hl : ∃ b, c = .configLoadEnd b
  · obtain ⟨b, rfl⟩ := hl
    cases answered
    split
    · obtain ⟨timers, switch, rail, bleeds⟩ := h
      exact ⟨timers, switch, rail, bleeds⟩
    · exact h
  have hl : ∀ b, c ≠ .configLoadEnd b := fun b hc => hl ⟨b, hc⟩
  have timers := exec_timersKept c s hp hl t answered h.timers
  by_cases align : c = .alignTimerExpiry
  · subst align
    have kept : AnswersWith DockKept (exec .alignTimerExpiry s) s :=
      onTimer_of_running dockKept_events fun d hd => enterRamp_dockKept (by simpa using h.timers) (by simp [hd])
    exact (kept t answered).switchSound timers h
  · exact (exec_dockKept c s hp hl align t answered).switchSound timers h

/-- Settles O12: every command passes the laws of the switch, the rail and the bleeds on (`exec_dockKept`). -/
theorem switchAndRailLaws : Obligations.SwitchAndRailLaws := by
  rintro s t ⟨timers, switch, rail, bleeds⟩ stepped
  have laws : SwitchSound s := ⟨timers, switch, rail, bleeds⟩
  have queue : ∀ q, SwitchSound { s with pending := q } := fun q => ⟨timers, switch, rail, bleeds⟩
  have kept : SwitchSound t := by
    unfold step at stepped
    split at stepped
    case h_1 => exact exec_switchSound _ _ t (queue _) stepped
    case h_2 =>
      cases stepped
      unfold idle
      split
      · exact queue _
      · exact (dockKept_events.elapse 1 s).switchSound (by simpa using timers) laws
  exact ⟨kept.timers, kept.switch, kept.rail, kept.bleeds⟩

end Sys2Proof.Proofs
end

section
/-! ## The ask's timers (R96, R98, R103) -/

namespace Sys2Proof.Proofs
open Sys2Proof.Machine Sys2Proof.Safety

/-! ### What stays between two computations -/

/-- The counters that are kept across runs, charges and sleep outlast a target of 0 (R64, R65, R112). -/
theorem Easing.counters {s t : State} (h : Easing s t) : CountersKept s t := by
  obtain ⟨completions, mah, rem⟩ := h.charges
  rcases h.drive with ⟨drive, -, -⟩ | ⟨drive, -⟩
  · simp [CountersKept, drive, completions, mah, rem]
  · unfold easedDrive at drive
    split at drive <;> simp [CountersKept, drive, completions, mah, rem, Drive.quieted]

/-! ### A charge that pauses (R106) -/

/-- The ask and the switch follow where the charge rests: no ask, and the switch open (R95, R99). -/
theorem settledAtRest_charge {s : State} (rest : s.charge.phase.charging = false) (echo : s.charge.echoTimer = none)
    (resend : s.charge.resendTimer = none) : (switchJudge (refreshAsk s)).charge = { s.charge with
      ask := .disabled, awaiting := (refreshAsk s).charge.awaiting, switch := false,
      termination := if s.charge.switch = true then s.charge.termination.stop s.now else s.charge.termination } := by
  have asked := refreshAsk_charge rest echo resend
  obtain ⟨-, -, -, opened⟩ := switchJudge_open (s := refreshAsk s) (by rw [asked]; exact rest)
  rw [opened, asked]
  simp [State.now, refreshAsk]

/-- The charge controller in PAUSED, with its ask and its switch (R95, R96, R99, R106). -/
theorem pausedSettled_charge (cs : Causes) (s : State) : (switchJudge (refreshAsk (enterPaused cs s))).charge =
    { s.charge with
      phase := .paused, causes := cs, ask := .disabled,
      awaiting := (refreshAsk (enterPaused cs s)).charge.awaiting,
      echoTimer := none, resendTimer := none, regTimer := none, termination := .zero,
      precharge := s.charge.precharge.stop s.now, total := s.charge.total.stop s.now, switch := false } := by
  have entered : (enterPaused cs s).charge = { s.charge with
      phase := .paused, causes := cs, echoTimer := none, resendTimer := none, regTimer := none, termination := .zero,
      precharge := s.charge.precharge.stop s.now, total := s.charge.total.stop s.now } := by
    simp [enterPaused, enterPhase_charge, ChargePhase.charging]
  rw [settledAtRest_charge] <;> simp [entered, ChargePhase.charging, stop_zero]

/-- A cause that stands pauses a charging phase (R106). -/
theorem chargeReview_pauses {s : State} (charging : s.charge.phase.charging = true) (cause : s.causesNow.any = true) :
    chargeReview s = enterPaused s.causesNow s := by
  unfold chargeReview
  split <;> simp_all [ChargePhase.charging]

/-! ### The commands -/

/-- The event of an echo timer's end: DOCK_UNRESPONSIVE pauses the charge (R98, R106). -/
theorem unresponsive_charge {s : State} (charging : s.charge.phase.charging = true) (awaited : s.charge.awaiting = true) :
    ∃ cs : Causes, cs.unresponsive = true ∧ (unresponsive s).charge.phase = .paused ∧ (unresponsive s).charge.causes = cs ∧
      (unresponsive s).charge.ask = .disabled ∧ (unresponsive s).charge.echoTimer = none ∧
      (unresponsive s).charge.switch = false ∧ (unresponsive s).charge.total.since = none := by
  set u := s.onCharge fun c => { c with causes := { c.causes with unresponsive := true }, echoTimer := none } with hu
  have stands : u.causesNow.unresponsive = true := by simp [hu, State.causesNow, awaited]
  have any : u.causesNow.any = true := by simp [Causes.any, stands]
  have review := chargeReview_pauses (s := u) charging any
  have charge : (unresponsive s).charge = (switchJudge (refreshAsk (enterPaused u.causesNow u))).charge := by
    rw [unresponsive, ← hu, handCharge, chargeSettle, review]
    simp
  rw [charge, pausedSettled_charge]
  exact ⟨_, stands, rfl, rfl, rfl, rfl, rfl, rfl⟩

theorem newest_put (w : List Byte) (sl : Slot) : newest (sl.put w) = some w := by
  cases sl <;> rfl

theorem putSlot_newest_ask (w : List Byte) (s : State) : newest (putSlot .ask w s).line.ask.slot = some w :=
  newest_put w _

/-- A changed ask is put in its slot, and awaits its echo (R96). -/
theorem changeAsk_of_ne {a : Ask} {s : State} (changed : a ≠ s.charge.ask) : (changeAsk a s).charge.awaiting = true ∧
    newest (changeAsk a s).line.ask.slot = some a.payload := by
  unfold changeAsk
  rw [if_neg changed]
  exact ⟨rfl, putSlot_newest_ask _ s⟩

/-- The end of an event leaves the newest ask in its slot (R121). -/
theorem publish_newest_ask (s0 s : State) : newest (publish s0 s).line.ask.slot = newest s.line.ask.slot := by
  obtain ⟨-, -, -, -, -, -, -, -, -, ask, -⟩ := publish_told s0 s
  exact ask

/-- An ask that awaits its echo keeps the switch open (R99). -/
theorem switchJudge_of_awaiting {s : State} (awaited : s.charge.awaiting = true) :
    (switchJudge s).charge.switch = false := by
  rw [switchJudge_switch]
  simp [State.switchWanted, awaited]

/-- The state in which a regulation steps the ask: its timer has restarted (R103). -/
def regulating (s : State) : State := s.onCharge fun c => { c with regTimer := some (s.now + 4000000) }

@[simp] theorem regulating_frame (s : State) :
    (regulating s).time = s.time ∧ (regulating s).pins = s.pins ∧ (regulating s).loader = s.loader ∧
    (regulating s).pack = s.pack ∧ (regulating s).allow = s.allow ∧ (regulating s).drive = s.drive ∧
    (regulating s).dirt = s.dirt ∧ (regulating s).line = s.line ∧ (regulating s).table = s.table ∧
    (regulating s).report = s.report ∧ (regulating s).hold = s.hold ∧ (regulating s).attach = s.attach ∧
    (regulating s).power = s.power ∧ (regulating s).free = s.free ∧ (regulating s).pending = s.pending := by
  simp [regulating]

theorem regulateAsk_of_awaiting {s : State} (awaited : s.charge.awaiting = true) :
    regulateAsk s = switchJudge (regulating s) := by
  have stepped : stepAsk (regulating s) = regulating s := by
    have awaiting : (regulating s).charge.awaiting = true := awaited
    unfold stepAsk
    split
    · rw [if_pos awaiting]
    · rfl
  exact congrArg switchJudge stepped

theorem regulateAsk_of_echoed {s : State} {x : ChargeWindow} (window : s.window = some x)
    (echoed : s.charge.awaiting = false) :
    regulateAsk s = switchJudge (changeAsk { s.charge.ask with v := s.regulatedV x } (regulating s)) := by
  have stepped : stepAsk (regulating s) = changeAsk { s.charge.ask with v := s.regulatedV x } (regulating s) := by
    have same : (regulating s).window = some x := window
    have still : ¬ (regulating s).charge.awaiting = true := by simp [regulating, echoed]
    unfold stepAsk
    rw [same]
    dsimp only
    rw [if_neg still]
    rfl
  exact congrArg switchJudge stepped

/-- A regulation with no echo awaited: the ask takes the voltage of `State.regulatedV`, and a changed ask opens the switch
until its echo (R99, R103). -/
theorem regulateAsk_steps {s : State} {x : ChargeWindow} (window : s.window = some x)
    (echoed : s.charge.awaiting = false) :
    let a : Ask := { s.charge.ask with v := s.regulatedV x }
    let t := regulateAsk s
    t.charge.regTimer = some (s.now + 4000000) ∧ t.charge.phase = s.charge.phase ∧ t.charge.ask = a ∧
    (a ≠ s.charge.ask → t.charge.awaiting = true ∧ t.charge.switch = false ∧
      newest t.line.ask.slot = some a.payload) := by
  intro a t
  have step : t = switchJudge (changeAsk a (regulating s)) := regulateAsk_of_echoed window echoed
  obtain ⟨ask, phase, -, timer, -⟩ := changeAsk_keeps a (regulating s)
  rw [step]
  refine ⟨?_, ?_, ?_, fun changed => ?_⟩
  · rw [switchJudge_charge_eq, timer]; rfl
  · rw [switchJudge_charge_eq, phase]; rfl
  · rw [switchJudge_charge_eq, ask]
  · obtain ⟨awaited, put⟩ := changeAsk_of_ne (s := regulating s) changed
    exact ⟨by rw [switchJudge_charge_eq, awaited], switchJudge_of_awaiting awaited, by simpa using put⟩

theorem regulateAsk_easing (s : State) : Easing s (regulateAsk s) := by
  have stepped : ∀ u, Easing u (stepAsk u) := by
    intro u
    unfold stepAsk
    (repeat' split)
    · exact .refl u
    · exact changeAsk_easing _ u
    · exact .refl u
  exact ((onCharge_easing _ s ⟨rfl, rfl, rfl, rfl⟩).trans (stepped _)).trans (switchJudge_easing _)

/-- Settles O40: each timer's effect at its tick, with the ask and the switch that follow it. -/
theorem askTimers : Obligations.AskTimers := by
  intro s d x
  refine ⟨fun running => ?_, fun running charging awaited => ?_, fun running topoff window echoed => ?_,
    fun running awaited => ?_⟩
  · refine onTimer_answers (f := resendAsk) running ⟨by simp [resendAsk], ?_, ?_, ?_, by simp [OnlyIn, resendAsk]⟩
    · rw [publish_newest_ask]
      simpa [resendAsk] using putSlot_newest_ask s.charge.ask.payload (runTo d s)
    · simp [resendAsk, ms, State.now]
    · obtain ⟨rx, -⟩ := publish_told s (resendAsk (runTo d s))
      simpa [resendAsk, putSlot, Line.onSlot, Line.setSlot] using rx
  · obtain ⟨cs, stands, phase, causes, ask, echo, switch, total⟩ :=
      unresponsive_charge (s := runTo d s) (by simpa) (by simpa)
    have eased : Easing (runTo d s) (unresponsive (runTo d s)) :=
      (onCharge_easing _ _ ⟨rfl, rfl, rfl, rfl⟩).trans (handCharge_easing _)
    refine onTimer_answers (f := unresponsive) running ?_
    simp only [publish_frame]
    refine ⟨eased.time, phase, by rw [causes, stands], ask, echo, switch, total, ?_, by simp [unresponsive],
      by simp [OnlyIn, unresponsive]⟩
    simpa [CountersKept] using eased.counters
  · have eased := regulateAsk_easing (runTo d s)
    refine onTimer_answers (f := regulateAsk) running ?_
    have live : (runTo d s).window = some x := by simpa [State.window, State.cfg]
    have still : (runTo d s).charge.awaiting = false := by simpa
    obtain ⟨timer, phase, ask, changed⟩ := regulateAsk_steps live still
    simp only [publish_frame, publish_newest_ask]
    refine ⟨eased.time, ?_, ?_, ?_, ?_, ?_, ?_, ?_⟩
    · simp [timer, eased.time, State.now]
    · simp [phase, topoff]
    · simp [ask, State.regulatedV, State.fullV, State.highestCell, State.chargeCurrent, State.cfg, State.activeCells]
    · rw [ask]
      simpa using changed
    · simpa [CountersKept] using eased.counters
    · simp [regulateAsk_of_echoed live still, regulating]
    · simp [regulateAsk_of_echoed live still, regulating, OnlyIn]
  · refine onTimer_answers (f := regulateAsk) running ?_
    have stays := switchJudge_stays (s := regulating (runTo d s)) (by simp [switchWanted_iff, regulating, awaited])
    rw [regulateAsk_of_awaiting (by simpa)]
    simp only [publish_frame]
    refine ⟨by simp [regulating], ?_, ?_, ?_, ?_, switchJudge_of_awaiting (by simpa [regulating]),
      by simp [regulating], ?_⟩
    · rw [switchJudge_charge_eq]
      simp [regulating, State.now]
    · rw [switchJudge_charge_eq]
      simp [regulating]
    · rw [switchJudge_charge_eq]
      simpa [regulating]
    · rw [switchJudge_charge_eq]
      simp [regulating]
    · simp [OnlyIn, stays.allow, stays.drive, stays.dirt]

end Sys2Proof.Proofs
end

section
/-! ## What an event that is handed on leaves as it is (R156, R170)

A change of a reason, of the station table or of the dock reaches the drive, the charge controller, the rail and the
power-state controller. `Aside` is what all of these leave alone: the readings, the history, head and dock detect, the
receive queue and the own break, and whether the unit is awake. -/

namespace Sys2Proof.Proofs
open Sys2Proof.Machine Sys2Proof.Safety

/-! ### The line's queue and break under a putting and an attempt -/

/-- The receive queue and the own break are the same. -/
@[simp] abbrev MarksKept (l m : Line) : Prop :=
  m.rx = l.rx ∧ m.ownBreak = l.ownBreak ∧ m.breakOwed = l.breakOwed

@[simp] theorem onSlot_marks (l : Line) (i : SlotId) (f : Slot → Slot) : MarksKept l (l.onSlot i f) := by
  cases i <;> simp [Line.onSlot, Line.setSlot]

@[simp] theorem putSlot_marks (i : SlotId) (w : List Byte) (s : State) : MarksKept s.line (putSlot i w s).line := by
  simp [putSlot]

@[simp] theorem contentChange_marks (s : State) : MarksKept s.line (contentChange s).line := by
  unfold contentChange
  (repeat' split) <;> simp [putState]

@[simp] theorem raise_marks (f : Flag) (s : State) : MarksKept s.line (raise f s).line := by simp [raise]

@[simp] theorem beginAttempt_marks (s : State) : MarksKept s.line (beginAttempt s).line := by
  unfold beginAttempt startAttempt
  (repeat' split) <;> simp

@[simp] theorem publish_marks (s0 s : State) : MarksKept s.line (publish s0 s).line := by
  unfold publish Machine.tell tellHold tellState putHold
  (repeat' split) <;> simp

@[simp] theorem changeAsk_marks (a : Ask) (s : State) : MarksKept s.line (changeAsk a s).line := by
  unfold changeAsk
  split <;> simp

@[simp] theorem powerJudge_marks (s : State) : MarksKept s.line (powerJudge s).line := by
  unfold powerJudge enterAwakeOrDoze powerTimers
  (repeat' split) <;> simp

/-! ### The relation -/

/-- Readings, history, head and dock detect, receive queue and own break are the same, and the unit is awake if it was. -/
structure Aside (s t : State) : Prop where
  frame : t.time = s.time ∧ t.pins = s.pins ∧ t.loader = s.loader ∧ t.free = s.free ∧ t.pending = s.pending
  readings : ReadingsKept s.pack t.pack
  history : t.hold.history = s.hold.history
  attach : t.attach.head = s.attach.head ∧ t.attach.dock = s.attach.dock ∧
    t.attach.seatTimer = s.attach.seatTimer ∧ t.attach.settleTimer = s.attach.settleTimer
  marks : MarksKept s.line t.line
  samples : t.dirt.samples = s.dirt.samples
  running : s.running = true → t.running = true
  asleep : s.running = false → t.power = s.power

section
variable {s t u : State}

theorem Aside.trans (a : Aside s t) (b : Aside t u) : Aside s u where
  frame := by simp [a.frame, b.frame]
  readings := by
    obtain ⟨ap, ac⟩ := a.readings
    obtain ⟨bp, bc⟩ := b.readings
    exact ⟨by rw [bp, ap], bc.trans ac⟩
  history := b.history.trans a.history
  attach := by simp [a.attach, b.attach]
  marks := by
    obtain ⟨arx, aown, aowed⟩ := a.marks
    obtain ⟨brx, bown, bowed⟩ := b.marks
    exact ⟨brx.trans arx, bown.trans aown, bowed.trans aowed⟩
  samples := b.samples.trans a.samples
  running := fun h => b.running (a.running h)
  asleep := fun h => by
    have power := a.asleep h
    exact (b.asleep (by rw [running_of_power power, h])).trans power

/-- The readings are those of a settling (R20, R108). -/
theorem ScanSettling.readings (h : ScanSettling s t) : ReadingsKept s.pack t.pack := by
  refine ⟨h.pack, ?_⟩
  rcases h.cells with cells | cells <;> simp [cells]

/-- A settling of the charge controller, the rail or the hold unit. -/
theorem ScanSettling.aside (h : ScanSettling s t)
    (rest : t.hold.history = s.hold.history ∧ t.attach.seatTimer = s.attach.seatTimer ∧
      t.attach.settleTimer = s.attach.settleTimer ∧ MarksKept s.line t.line ∧ t.power = s.power) : Aside s t := by
  obtain ⟨history, seat, settle, marks, power⟩ := rest
  obtain ⟨time, pins, loader, -, free, pending⟩ := h.frame
  exact ⟨⟨time, pins, loader, free, pending⟩, h.readings, history, ⟨h.attach.1, h.attach.2, seat, settle⟩, marks, h.samples,
    fun running => by rw [running_of_power power, running], fun _ => power⟩

theorem Aside.of_kept
    (h : (t.time = s.time ∧ t.pins = s.pins ∧ t.loader = s.loader ∧ t.free = s.free ∧ t.pending = s.pending) ∧
      t.pack = s.pack ∧ t.hold.history = s.hold.history ∧ t.attach = s.attach ∧ MarksKept s.line t.line ∧
      t.dirt.samples = s.dirt.samples ∧ t.power = s.power) : Aside s t := by
  obtain ⟨frame, pack, history, attach, marks, samples, power⟩ := h
  exact ⟨frame, by simp [ReadingsKept, pack], history, by simp [attach], marks, samples,
    fun running => by rw [running_of_power power, running], fun _ => power⟩

end

theorem Aside.refl (s : State) : Aside s s := .of_kept (by simp)

theorem publish_aside (s0 s : State) : Aside s (publish s0 s) := .of_kept (by simp)

/-! ### The blocks that are told -/

theorem onCharge_aside (f : Charge → Charge) (s : State) : Aside s (s.onCharge f) := .of_kept (by simp)

theorem switchJudge_aside (s : State) : Aside s (switchJudge s) :=
  (switchJudge_settling s).toScanSettling.aside (by simp)

theorem refreshAsk_aside (s : State) : Aside s (refreshAsk s) :=
  .of_kept (by simp [refreshAsk])

theorem chargeReview_aside (s : State) : Aside s (chargeReview s) :=
  (chargeReview_settling s).toScanSettling.aside (by simp)

theorem chargeSettle_aside (s : State) : Aside s (chargeSettle s) :=
  ((chargeReview_aside s).trans (refreshAsk_aside _)).trans (switchJudge_aside _)

theorem railJudge_timers (s : State) : (railJudge s).attach.seatTimer = s.attach.seatTimer ∧
    (railJudge s).attach.settleTimer = s.attach.settleTimer := by
  unfold railJudge
  rw [onAttach_attach]
  (repeat' split) <;> exact ⟨rfl, rfl⟩

theorem railJudge_aside (s : State) : Aside s (railJudge s) :=
  (railJudge_settling s).toScanSettling.aside (by simp [railJudge_timers])

/-- Outside AWAKE and DOZE the power-state controller judges nothing (R184). -/
theorem powerJudge_asleep {s : State} (h : s.running = false) : powerJudge s = s := by simp [powerJudge, h]

theorem powerJudge_aside (s : State) : Aside s (powerJudge s) := by
  obtain ⟨time, pins, loader, -, free, pending⟩ := (powerJudge_settling s).frame
  exact ⟨⟨time, pins, loader, free, pending⟩, (powerJudge_settling s).readings, by simp, by simp, powerJudge_marks s,
    (powerJudge_settling s).samples, fun h => by rw [powerJudge_running, h], fun h => by rw [powerJudge_asleep h]⟩

theorem handCharge_aside (s : State) : Aside s (handCharge s) := (chargeSettle_aside s).trans (powerJudge_aside _)

theorem handStopSuction_aside (s : State) : Aside s (handStopSuction s) := by
  have formed : Aside s (formHolds s) := .of_kept (by simp [formHolds])
  unfold handStopSuction
  split
  · exact formed.trans (.of_kept (by simp))
  · exact formed

theorem handReasons_aside (s : State) : Aside s (handReasons s) := by
  have settled : ∀ b u, Aside u (handStopCharge b u) := by
    intro b u
    unfold handStopCharge
    split
    · exact switchJudge_aside u
    · exact chargeSettle_aside u
  rw [handReasons_eq]
  exact (((handStopSuction_aside s).trans (settled _ _)).trans (railJudge_aside _)).trans (powerJudge_aside _)

theorem onReasons_aside (f : Reasons → Reasons) (s : State) : Aside s (onReasons f s) :=
  Aside.trans (.of_kept (by simp)) (handReasons_aside _)

theorem latchTest_aside (s : State) : Aside s (latchTest s) := by
  have left : Aside s (leaveFault s) := by
    unfold leaveFault
    split
    · exact .of_kept (by simp)
    · exact .refl s
  unfold latchTest
  split
  · exact left.trans (onReasons_aside _ _)
  · exact .refl s

theorem handTable_aside (t0 : Table) (s : State) : Aside s (handTable t0 s) := by
  have latch : Aside s (if s.table.wish = t0.wish then s else latchTest s) := by
    split
    · exact .refl s
    · exact latchTest_aside s
  have holds : ∀ u, Aside u (if u.table.heardUnion u.cfg.holdStations = u.hold.heard then u else handReasons u) := by
    intro u
    split
    · exact .refl u
    · exact handReasons_aside u
  have wished : Aside s (handWish t0 s) := latch.trans (holds _)
  rw [handTable_eq]
  split
  · exact wished.trans (handCharge_aside _)
  · exact wished.trans (powerJudge_aside _)

theorem setTable_aside (tb : Table) (s : State) : Aside s (setTable tb s) :=
  Aside.trans (.of_kept (by simp)) (handTable_aside _ _)

end Sys2Proof.Proofs
end

section
/-! ## The dock input (R90, R91, R187) -/

namespace Sys2Proof.Proofs
open Sys2Proof.Machine Sys2Proof.Safety

/-! ### The wake (R187) -/

/-- A wake is under way: its start scan, its delivery timer, its break, and dock detect by the level of the pin. -/
structure WakeBegun (t : State) : Prop where
  running : t.running = true
  direct : t.pack.direct = true
  scan : t.pack.scan = .cells ∧ t.pack.startScan = true
  delivery : t.pack.deliveryTimer = some (t.now + 2000000)
  broken : t.line.ownBreak = some (t.now + 2400) ∧ t.line.breakOwed = true
  dock : 5000 < t.pins.dockMv → t.attach.dock = .settling ∧ t.attach.settleTimer = some (t.now + 400000)

theorem Aside.wakeBegun {s t : State} (h : Aside s t) (begun : WakeBegun s) : WakeBegun t := by
  obtain ⟨running, direct, ⟨scan, start⟩, delivery, ⟨own, owed⟩, dock⟩ := begun
  obtain ⟨time, pins, -⟩ := h.frame
  obtain ⟨pack, -⟩ := h.readings
  obtain ⟨-, ownKept, owedKept⟩ := h.marks
  obtain ⟨-, dockKept, -, settleKept⟩ := h.attach
  have now : t.now = s.now := by simp [State.now, time]
  exact ⟨h.running running, by rw [pack, direct], by rw [pack]; exact ⟨scan, start⟩, by rw [pack, now, delivery],
    by rw [ownKept, owedKept, now]; exact ⟨own, owed⟩, by rw [pins, dockKept, settleKept, now]; exact dock⟩

/-- Head detect moves alone. -/
theorem WakeBegun.onAttach {s : State} (h : WakeBegun s) {f : Attach → Attach}
    (hf : (f s.attach).dock = s.attach.dock ∧ (f s.attach).settleTimer = s.attach.settleTimer) :
    WakeBegun (s.onAttach f) := by
  obtain ⟨running, direct, scan, delivery, broken, dock⟩ := h
  obtain ⟨dockKept, settleKept⟩ := hf
  exact ⟨running, direct, scan, delivery, broken, fun high => by
    simpa [dockKept, settleKept, State.now] using dock high⟩

theorem raise_aside (f : Flag) (s : State) : Aside s (raise f s) := .of_kept (by simp)

theorem WakeBegun.removal {s : State} (h : WakeBegun s) : WakeBegun (removal s) := by
  have off := h.onAttach (f := fun a =>
    { a with head := .removed, rail := false, railTimer := none, excess := false, overdrawTimer := none }) ⟨rfl, rfl⟩
  unfold Machine.removal
  exact (onReasons_aside _ _).wakeBegun ((setTable_aside _ _).wakeBegun ((raise_aside _ _).wakeBegun off))

theorem WakeBegun.judgeContacts {s : State} (h : WakeBegun s) : WakeBegun (judgeContacts s) := by
  unfold Machine.judgeContacts
  (repeat' split)
  · exact h.onAttach ⟨rfl, rfl⟩
  · exact h
  · exact h
  · exact h.removal
  · exact h

theorem wake_begins (s : State) : WakeBegun (wake s) := by
  have pin : WakeBegun (judgeDockPin (startDozeTimers (orderBreak (orderStartScan
      ((s.onPower fun p => { p with state := .doze }).onPack fun p => { p with direct := true }))))) := by
    unfold judgeDockPin
    split
    case isTrue => constructor <;> simp [dockSettles, startDozeTimers, orderBreak, orderStartScan, State.running,
      PowerState.running, State.now, ms, us]
    case isFalse low =>
      have low : ¬ 5000 < s.pins.dockMv := by simpa [State.dockHigh] using low
      constructor <;> simp [startDozeTimers, orderBreak, orderStartScan, State.running, PowerState.running, State.now,
        ms, us, low]
  exact ((railJudge_aside _).trans (powerJudge_aside _)).wakeBegun pin.judgeContacts

/-- After a wake the rail is on only where it is permitted (R178, R187). -/
theorem wake_lawRail (s : State) : lawRail (wake s) := (powerJudge_dockKept _).rail (railJudge_lawRail _)

theorem wake_told (s0 s : State) : Woken (publish s0 (wake s)) := by
  obtain ⟨running, direct, ⟨scan, start⟩, delivery, ⟨own, owed⟩, dock⟩ :=
    (publish_aside s0 (wake s)).wakeBegun (wake_begins s)
  have taps : (publish s0 (wake s)).tapsConnected = true := by
    cases power : (publish s0 (wake s)).power.state <;>
      simp_all [State.tapsConnected, State.running, PowerState.running]
  exact ⟨running, direct, scan, start, delivery, own, owed, taps, dock,
    (dockKept_events.publish s0 _).rail (wake_lawRail s)⟩

/-! ### A charge at rest -/

/-- No charge is under way or can begin of itself: UNDOCKED, DONE or FAULT, with no ask and the switch open. -/
structure Rested (c : Charge) : Prop where
  phase : c.phase = .undocked ∨ c.phase = .done ∨ c.phase = .fault
  ask : c.ask = .disabled
  switch : c.switch = false

theorem Rested.not_charging {c : Charge} (h : Rested c) : c.phase.charging = false := by
  rcases h.phase with phase | phase | phase <;> rw [phase] <;> rfl

theorem switchJudge_of_rested {s : State} (h : Rested s.charge) : switchJudge s = s := by
  have off : s.switchWanted = false := by simp [State.switchWanted, h.not_charging]
  rw [switchJudge, if_pos (off.trans h.switch.symm)]

theorem refreshAsk_of_rested {s : State} (h : Rested s.charge) : refreshAsk s = s := by
  have off : s.askFor s.charge.ask.v = s.charge.ask := by simp [State.askFor, h.not_charging, h.ask]
  rw [refreshAsk, changeAsk, if_pos off]

/-- No cause touches a charge at rest (R106). -/
theorem chargeReview_of_rested {s : State} (h : Rested s.charge) : chargeReview s = s := by
  unfold chargeReview
  rcases h.phase with phase | phase | phase <;> rw [phase]

theorem chargeSettle_of_rested {s : State} (h : Rested s.charge) : chargeSettle s = s := by
  rw [chargeSettle, chargeReview_of_rested h, refreshAsk_of_rested h, switchJudge_of_rested h]

/-- Handing the reasons on leaves a charge at rest (R170). -/
theorem handReasons_of_rested {s : State} (h : Rested s.charge) :
    handReasons s = powerJudge (railJudge (handStopSuction s)) := by
  have rested : Rested (handStopSuction s).charge := by simpa using h
  have settled : handStopCharge s.hold.stopCharge (handStopSuction s) = handStopSuction s := by
    unfold handStopCharge
    split
    · exact switchJudge_of_rested rested
    · exact chargeSettle_of_rested rested
  rw [handReasons_eq, settled]

theorem handReasons_charge_of_rested {s : State} (h : Rested s.charge) : (handReasons s).charge = s.charge := by
  simp [handReasons_of_rested h]

/-! ### The ask's slot -/

@[simp] theorem powerJudge_ask (s : State) : (powerJudge s).line.ask = s.line.ask := by
  unfold powerJudge enterAwakeOrDoze powerTimers
  (repeat' split) <;> simp

@[simp] theorem raise_ask (f : Flag) (s : State) : (raise f s).line.ask = s.line.ask := by
  unfold raise contentChange putState putSlot
  (repeat' split) <;> simp [Line.onSlot, Line.setSlot]

@[simp] theorem handStopSuction_line (s : State) : (handStopSuction s).line = s.line := by
  unfold handStopSuction
  split <;> simp [formHolds]

/-! ### The undocking (R91) -/

theorem leaveDock_eq (s : State) : leaveDock s =
    handReasons (undock true (raise .undocked (s.onAttach fun a => { a with dock := .undocked }))) := rfl

theorem undock_rested (b : Bool) (s : State) : Rested (undock b s).charge := by
  rw [undock_charge]
  exact ⟨.inl rfl, rfl, rfl⟩

theorem leaveDock_charge (s : State) : (leaveDock s).charge = (undock true s).charge := by
  rw [leaveDock_eq, handReasons_charge_of_rested (undock_rested _ _)]
  simp [undock_charge]

/-- Undocking puts the disabled ask in its slot where a charge was under way (R91, R96). -/
theorem undock_newest_ask (s : State) : newest (undock true s).line.ask.slot =
    if s.charge.phase.charging = true then some [0, 0, 0, 0, 0] else newest s.line.ask.slot := by
  have payload : Ask.disabled.payload = [0, 0, 0, 0, 0] := rfl
  unfold undock
  by_cases charging : s.charge.phase.charging = true
  · simp [charging, putSlot_newest_ask, payload]
  · simp [charging]

theorem leaveDock_newest_ask (s : State) : newest (leaveDock s).line.ask.slot =
    if s.charge.phase.charging = true then some [0, 0, 0, 0, 0] else newest s.line.ask.slot := by
  rw [leaveDock_eq, handReasons_of_rested (undock_rested _ _)]
  simp [undock_newest_ask]

/-- Undocking leaves the drive: the switch opens at most (R99). -/
theorem undock_drive (b : Bool) (s : State) : (undock b s).drive = s.drive := by
  unfold undock
  dsimp only
  rw [(switchJudge_open _).1]
  · simp only [openBleeds_frame, onCharge_drive]
    split <;> simp
  · rfl

/-! ### The edges -/

/-- What an edge of the dock input does to the pins (R90). -/
abbrev dockAt (mv : Nat) (s : State) : State := s.onPins fun p => { p with dockMv := mv }

theorem running_iff (s : State) : s.running = true ↔ s.power.state = .awake ∨ s.power.state = .doze := by
  cases h : s.power.state <;> simp [State.running, PowerState.running, h]

theorem dockRise_of_undocked {s : State} (mv : Nat) (awake : s.running = true) (undocked : s.attach.dock = .undocked) :
    dockRise mv s = dockSettles (dockAt mv s) := by
  rcases (running_iff s).mp awake with power | power <;> simp [dockRise, power, undocked]

theorem dockRise_of_seen {s : State} (mv : Nat)
    (seen : s.running = true ∧ s.attach.dock ≠ .undocked ∨ s.power.state = .starting) :
    dockRise mv s = dockAt mv s := by
  rcases seen with ⟨awake, dock⟩ | power
  · rcases (running_iff s).mp awake with power | power <;> simp [dockRise, power, dock]
  · simp [dockRise, power]

theorem dockRise_of_asleep {s : State} (mv : Nat) (asleep : s.power.state = .sleep ∨ s.power.state = .ship) :
    dockRise mv s = wake (dockAt mv s) := by
  rcases asleep with power | power <;> simp [dockRise, power]

theorem dockFall_of_settling {s : State} (mv : Nat) (awake : s.running = true) (settling : s.attach.dock = .settling) :
    dockFall mv s = (dockAt mv s).onAttach fun a => { a with dock := .undocked, settleTimer := none } := by
  have awake : (dockAt mv s).running = true := awake
  simp [dockFall, awake, settling]

theorem dockFall_of_docked {s : State} (mv : Nat) (awake : s.running = true) (docked : s.attach.dock = .docked) :
    dockFall mv s = if mv < 3000 then leaveDock (dockAt mv s) else dockAt mv s := by
  have awake : (dockAt mv s).running = true := awake
  simp [dockFall, awake, docked]

theorem dockFall_of_unseen {s : State} (mv : Nat) (unseen : s.running = false ∨ s.attach.dock = .undocked) :
    dockFall mv s = dockAt mv s := by
  unfold dockFall
  dsimp only
  rcases unseen with asleep | undocked
  · rw [if_neg (by simpa [State.running] using asleep)]
  · simp [undocked]

theorem leaveDock_answers (s : State) (mv : Nat) : let t := publish s (leaveDock (dockAt mv s))
    t.pins = { s.pins with dockMv := mv } ∧ t.attach.dock = .undocked ∧ Raised .undocked t ∧
    t.charge = (undock true s).charge ∧
    newest t.line.ask.slot = (if s.charge.phase.charging = true then some [0, 0, 0, 0, 0] else newest s.line.ask.slot) ∧
    t.hold.reasons.docked = false ∧ OwnReasonsKept s.hold.reasons t.hold.reasons ∧
    t.hold.history = s.hold.history ∧ CountersKept s t ∧ t.pack.cells.all (!·.bleed) = true ∧
    OnlyIn (.pins :: consequent) s t := by
  intro t
  set u := raise .undocked ((dockAt mv s).onAttach fun a => { a with dock := .undocked }) with hu
  have left : leaveDock (dockAt mv s) = handReasons (undock true u) := leaveDock_eq _
  have settled : ScanSettling (undock true u) (handReasons (undock true u)) := (handReasons_settling _).toScanSettling
  have aside : Aside (undock true u) (handReasons (undock true u)) := handReasons_aside _
  have counters : CountersKept (undock true u) (handReasons (undock true u)) := (handReasons_easing _).counters
  have charge : t.charge = (undock true s).charge := by
    simp [t, leaveDock_charge, undock_charge]
  have raised : Raised .undocked (handReasons (undock true u)) := by
    simpa [Raised, State.flag] using raise_raised .undocked ((dockAt mv s).onAttach fun a => { a with dock := .undocked })
  simp only [t, left] at charge ⊢
  refine ⟨by simp [hu], ?_, ?_, charge, ?_, ?_, ?_, ?_, ?_, ?_, by simp [OnlyIn, hu]⟩
  · simpa [hu] using settled.attach.2
  · obtain ⟨-, -, -, -, -, -, -, -, -, -, -, flags⟩ := publish_told s (handReasons (undock true u))
    exact Raised.told raised flags
  · rw [publish_newest_ask, ← left, leaveDock_newest_ask]
    rfl
  · simp [handReasons_hold, formHolds_reasons, State.liveReasons, hu]
  · simpa [OwnReasonsKept, hu] using settled.own
  · simpa [hu] using aside.history
  · simpa [CountersKept, undock_drive, undock_charge, hu] using counters
  · simpa using settled.all_open (undock_open true u)

/-- Settles O38: an edge of the dock input is dock detect's own, a wake or an undocking. -/
theorem dockInputEdges : Obligations.DockInputEdges := by
  intro s mv
  refine ⟨fun high awake undocked => ?_, fun high seen => ?_, fun high asleep => ?_, fun low awake settling => ?_,
    fun low awake docked => ?_, fun above low awake docked => ?_, fun low unseen => ?_⟩
  · refine finishIf_answers (f := dockRise mv) (by simpa) ?_
    rw [dockRise_of_undocked mv awake undocked]
    exact ⟨by simp [dockSettles], by simp [dockSettles, ms, State.now], publish_told_of_kept (by simp) (by simp),
      by simp [OnlyIn]⟩
  · refine finishIf_answers (f := dockRise mv) (by simpa) ?_
    rw [dockRise_of_seen mv seen]
    exact ⟨by simp, by simp [OnlyIn], publish_told_of_kept (by simp) (by simp)⟩
  · refine finishIf_answers (f := dockRise mv) (by simpa) ?_
    rw [dockRise_of_asleep mv asleep]
    have woken := wake_told s (dockAt mv s)
    refine ⟨by simp, woken, ?_, by simp, by simp⟩
    obtain ⟨-, -, -, -, -, -, -, -, dock, -⟩ := woken
    exact (dock (by simpa)).1
  · refine finishIf_answers (f := dockFall mv) (by simpa) ?_
    rw [dockFall_of_settling mv awake settling]
    exact ⟨by simp, by simp, publish_told_of_kept (by simp) (by simp), by simp [OnlyIn]⟩
  · refine finishIf_answers (f := dockFall mv) (decide_eq_true (by omega)) ?_
    rw [dockFall_of_docked mv awake docked, if_pos low]
    obtain ⟨pins, dock, raised, charge, ask, rest⟩ := leaveDock_answers s mv
    refine ⟨pins, dock, raised, by rw [charge, undock_charge], fun charging => ?_, fun idle => ?_, rest⟩
    · rw [ask, if_pos charging]
    · rw [ask, if_neg (by simp [idle])]
  · refine finishIf_answers (f := dockFall mv) (by simpa) ?_
    rw [dockFall_of_docked mv awake docked, if_neg (by omega)]
    exact ⟨by simp, by simp [OnlyIn], publish_told_of_kept (by simp) (by simp)⟩
  · refine finishIf_answers (f := dockFall mv) (by simpa) ?_
    rw [dockFall_of_unseen mv unseen]
    exact ⟨by simp, by simp [OnlyIn], publish_told_of_kept (by simp) (by simp)⟩

end Sys2Proof.Proofs
end

section
/-! ## What the charge controller's phases turn on (R94, R100, R106, R107)

Each decision of a phase reads the window, the supply-lost mark, the dock record, the configuration, the cells and
stop-charge. Here it is said once what each gives, and that the ask, the switch and the other blocks leave its readings. -/

namespace Sys2Proof.Proofs
open Sys2Proof.Machine Sys2Proof.Safety

/-- The phase in which a charge begins (R100). -/
def beginning (s : State) : ChargePhase := if s.lowestCell < 3000 then .precharge else .bulk

theorem beginning_charging (s : State) : (beginning s).charging = true := by
  unfold beginning
  split <;> rfl

/-! ### The readings of a decision -/

/-- The window, the supply-lost mark, the configuration, the table and the cells are the same. -/
structure SameDock (s t : State) : Prop where
  window : t.charge.window = s.charge.window
  supplyLost : t.charge.supplyLost = s.charge.supplyLost
  loader : t.loader = s.loader
  table : t.table = s.table
  cells : t.pack.cells.map unbled = s.pack.cells.map unbled

section
variable {s t u : State}

theorem SameDock.trans (a : SameDock s t) (b : SameDock t u) : SameDock s u :=
  ⟨b.window.trans a.window, b.supplyLost.trans a.supplyLost, b.loader.trans a.loader, b.table.trans a.table,
    b.cells.trans a.cells⟩

theorem SameDock.symm (h : SameDock s t) : SameDock t s :=
  ⟨h.window.symm, h.supplyLost.symm, h.loader.symm, h.table.symm, h.cells.symm⟩

theorem ScanSettling.sameDock (h : ScanSettling s t) (window : t.charge.window = s.charge.window)
    (lost : t.charge.supplyLost = s.charge.supplyLost) : SameDock s t := by
  obtain ⟨-, -, loader, table, -, -⟩ := h.frame
  exact ⟨window, lost, loader, table, h.readings.2⟩

theorem SameDock.cfg (h : SameDock s t) : t.cfg = s.cfg := by simp [State.cfg, h.loader]

theorem SameDock.window_eq (h : SameDock s t) : t.window = s.window := by simp [State.window, h.window, h.cfg]

theorem SameDock.liveWindow (h : SameDock s t) : t.liveWindow = s.liveWindow := by
  simp [State.liveWindow, h.window_eq]

theorem SameDock.dockWeak (h : SameDock s t) : t.dockWeak = s.dockWeak := by
  simp only [State.dockWeak, h.liveWindow, h.table, State.fullV, h.cfg]
  rfl

theorem map_activeCells_of_cells {α : Type} (loader : t.loader = s.loader)
    (cells : t.pack.cells.map unbled = s.pack.cells.map unbled) (f : Cell → α) (hf : ∀ c, f (unbled c) = f c) :
    t.activeCells.map f = s.activeCells.map f := by
  have all : ∀ cs : List Cell, cs.map f = (cs.map unbled).map f := by simp [Function.comp_def, hf]
  rw [State.activeCells, State.activeCells, List.map_take, List.map_take, all t.pack.cells, cells, ← all, State.cfg, loader]
  rfl

theorem lowestCell_of_cells (loader : t.loader = s.loader)
    (cells : t.pack.cells.map unbled = s.pack.cells.map unbled) : t.lowestCell = s.lowestCell := by
  simp only [State.lowestCell, map_activeCells_of_cells loader cells (·.vMeas) fun _ => rfl]

theorem SameDock.lowestCell (h : SameDock s t) : t.lowestCell = s.lowestCell := lowestCell_of_cells h.loader h.cells

theorem SameDock.highestCell (h : SameDock s t) : t.highestCell = s.highestCell := by
  simp only [State.highestCell, map_activeCells_of_cells h.loader h.cells (·.vMeas) fun _ => rfl]

theorem SameDock.beginning (h : SameDock s t) : Proofs.beginning t = Proofs.beginning s := by
  simp [Proofs.beginning, h.lowestCell]

end

theorem SameDock.refl (s : State) : SameDock s s := ⟨rfl, rfl, rfl, rfl, rfl⟩

/-! ### The operations that leave the readings -/

theorem enterPhase_sameDock (ph : ChargePhase) (s : State) : SameDock s (enterPhase ph s) :=
  (enterPhase_scanSettling ph s).sameDock (by simp [enterPhase_charge]) (by simp [enterPhase_charge])

theorem switchJudge_sameDock (s : State) : SameDock s (switchJudge s) :=
  (switchJudge_settling s).toScanSettling.sameDock (by rw [switchJudge_charge_eq]) (by rw [switchJudge_charge_eq])

theorem changeAsk_sameDock (a : Ask) (s : State) : SameDock s (changeAsk a s) :=
  (changeAsk_settling a s).toScanSettling.sameDock (changeAsk_keeps a s).2.2.1 (by unfold changeAsk; split <;> rfl)

/-- A review of the causes leaves the ask, its echo, the window and the supply-lost mark. -/
theorem chargeReview_keeps (s : State) : (chargeReview s).charge.ask = s.charge.ask ∧
    (chargeReview s).charge.awaiting = s.charge.awaiting ∧ (chargeReview s).charge.window = s.charge.window ∧
    (chargeReview s).charge.supplyLost = s.charge.supplyLost := by
  unfold chargeReview waitingDecision enterPaused
  (repeat' split) <;> simp [enterPhase_charge]

theorem chargeReview_sameDock (s : State) : SameDock s (chargeReview s) := by
  obtain ⟨-, -, window, lost⟩ := chargeReview_keeps s
  exact (chargeReview_settling s).toScanSettling.sameDock window lost

theorem chargeSettle_sameDock (s : State) : SameDock s (chargeSettle s) :=
  ((chargeReview_sameDock s).trans (changeAsk_sameDock _ _)).trans (switchJudge_sameDock _)

theorem handStopSuction_sameDock (s : State) : SameDock s (handStopSuction s) := by
  constructor <;> simp [handStopSuction, apply_ite, formHolds]

theorem handReasons_sameDock (s : State) : SameDock s (handReasons s) := by
  have settled : ∀ b u, SameDock u (handStopCharge b u) := by
    intro b u
    unfold handStopCharge
    split
    · exact switchJudge_sameDock u
    · exact chargeSettle_sameDock u
  have told : ∀ u, SameDock u (powerJudge (railJudge u)) := fun u =>
    ((railJudge_settling u).trans (powerJudge_settling _)).toScanSettling.sameDock (by simp) (by simp)
  rw [handReasons_eq]
  exact ((handStopSuction_sameDock s).trans (settled _ _)).trans (told _)

theorem publish_sameDock (s0 s : State) : SameDock s (publish s0 s) := by constructor <;> simp

/-! ### The decisions -/

/-- A cause keeps a docked charge from running, beside the dock itself: stop-charge, no window with a current, a dock too
weak for it (R100, R106). -/
def hindered (s : State) : Bool := s.hold.stopCharge || s.liveWindow.isNone || s.dockWeak

theorem SameDock.hindered {s t : State} (h : SameDock s t) (stop : t.hold.stopCharge = s.hold.stopCharge) :
    Proofs.hindered t = Proofs.hindered s := by
  simp only [Proofs.hindered, stop, h.liveWindow, h.dockWeak]

theorem waitingCauses_any (s : State) : s.waitingCauses.any = hindered s := by
  simp only [Causes.any, State.waitingCauses, Causes.none, hindered]
  cases s.hold.stopCharge <;> simp

theorem causesNow_any (s : State) : s.causesNow.any = (hindered s || (!s.table.dockReady || s.charge.supplyLost) ||
    s.charge.causes.unresponsive && s.charge.awaiting) := by
  simp only [Causes.any, State.causesNow, hindered]
  grind

/-- With a ready dock, no hindrance and no mark standing, no cause stands (R106). -/
theorem causesNow_none {s : State} (free : hindered s = false) (ready : s.table.dockReady = true)
    (lost : s.charge.supplyLost = false) (responsive : s.charge.causes.unresponsive = false) :
    s.causesNow.any = false := by
  simp [causesNow_any, free, ready, lost, responsive]

theorem causesNow_hindered {s : State} (h : hindered s = true) : s.causesNow.any = true := by simp [causesNow_any, h]

theorem waitingDecision_of_not_ready {s : State} (away : s.table.dockReady = false) : waitingDecision s = s := by
  simp [waitingDecision, away]

/-- The WAITING decision with a ready dock (R100). -/
theorem waitingDecision_phase {s : State} (ready : s.table.dockReady = true) :
    (waitingDecision s).charge.phase = if hindered s = true then .paused else beginning s := by
  have begun : ∀ ph, (enterPhase ph s).charge.phase = ph := fun ph => by simp [enterPhase_charge]
  have paused : ∀ cs, (enterPaused cs s).charge.phase = .paused := fun cs => begun .paused
  unfold waitingDecision beginning
  rw [waitingCauses_any]
  simp only [ready, Bool.not_true, Bool.false_eq_true, if_false]
  (repeat' split) <;> simp [begun, paused]

/-- A pause that the WAITING decision makes has no DOCK_UNRESPONSIVE (R100, R106). -/
theorem waitingDecision_responsive {s : State} (h : s.charge.causes.unresponsive = false) :
    (waitingDecision s).charge.causes.unresponsive = false := by
  unfold waitingDecision
  (repeat' split) <;> simp [h, enterPaused, enterPhase_charge, State.waitingCauses, Causes.none]

/-- A cause pauses a charging phase, and holds a pause (R106, R107). -/
theorem chargeReview_of_cause {s : State} (docked : s.charge.phase.charging = true ∨ s.charge.phase = .paused)
    (cause : s.causesNow.any = true) : (chargeReview s).charge.phase = .paused := by
  rcases docked with charging | paused
  · rw [chargeReview_pauses charging cause]
    simp [enterPaused, enterPhase_charge]
  · simp [chargeReview, paused, cause]

/-- A charging phase goes on while no cause stands (R106). -/
theorem chargeReview_of_charging {s : State} (charging : s.charge.phase.charging = true)
    (free : s.causesNow.any = false) : chargeReview s = s := by
  unfold chargeReview
  split <;> simp_all [ChargePhase.charging]

/-- A pause with no cause left begins a charge (R107). -/
theorem chargeReview_resumes {s : State} (paused : s.charge.phase = .paused) (free : hindered s = false)
    (ready : s.table.dockReady = true) (none : s.causesNow.any = false) :
    (chargeReview s).charge.phase = beginning s := by
  have waiting := enterPhase_sameDock .waiting s
  have still : hindered (enterPhase .waiting s) = false := by rw [waiting.hindered (by simp), free]
  have review : chargeReview s = waitingDecision (enterPhase .waiting s) := by simp [chargeReview, paused, none]
  rw [review, waitingDecision_phase (by rw [waiting.table, ready]), if_neg (by simp [still]), waiting.beginning]

theorem chargeReview_of_waiting {s : State} (waiting : s.charge.phase = .waiting) : chargeReview s = waitingDecision s := by
  simp [chargeReview, waiting]

theorem switchJudge_causes (s : State) : (switchJudge s).charge.causes = s.charge.causes := by
  rw [switchJudge_charge_eq]

theorem changeAsk_causes (a : Ask) (s : State) : (changeAsk a s).charge.causes = s.charge.causes := by
  unfold changeAsk
  split <;> rfl

theorem chargeSettle_phase (s : State) : (chargeSettle s).charge.phase = (chargeReview s).charge.phase := by
  rw [chargeSettle, switchJudge_phase, refreshAsk, changeAsk_phase]

theorem chargeSettle_causes (s : State) : (chargeSettle s).charge.causes = (chargeReview s).charge.causes := by
  rw [chargeSettle, switchJudge_causes, refreshAsk, changeAsk_causes]

/-- A change of stop-charge has the causes reviewed (R106, R170). -/
theorem handReasons_phase_of_changed {s : State} (h : s.liveReasons.stopsCharge ≠ s.hold.stopCharge) :
    (handReasons s).charge.phase = (chargeReview (handStopSuction s)).charge.phase := by
  simp [handReasons_eq, handStopCharge, h, chargeSettle_phase]

end Sys2Proof.Proofs
end

section
/-! ## Dock detect becomes DOCKED (R90, R92, R94, R100, R170) -/

namespace Sys2Proof.Proofs
open Sys2Proof.Machine Sys2Proof.Safety

/-- The state in which the WAITING decision of a docking is made (R90, R92, R94). -/
def docking (s : State) : State :=
  dockIn (raise .docked (s.onAttach fun a => { a with dock := .docked, settleTimer := none }))

theorem settleDock_eq (s : State) : settleDock s = handReasons (chargeSettle (docking s)) := rfl

theorem docking_charge (s : State) : (docking s).charge = { s.charge with
    phase := .waiting, causes := .none, window := firstWindow s.cfg.windows s.pack.tPack,
    total := s.charge.total.stop s.now, precharge := s.charge.precharge.stop s.now, regTimer := none,
    termination := .zero, echoTimer := none, resendTimer := none } := by
  simp [docking, dockIn, enterPhase_charge, ChargePhase.charging, State.cfg, State.now]

@[simp] theorem docking_frame (s : State) : (docking s).time = s.time ∧ (docking s).pins = s.pins ∧
    (docking s).loader = s.loader ∧ (docking s).allow = s.allow ∧ (docking s).drive = s.drive ∧
    (docking s).dirt = s.dirt ∧ (docking s).table = s.table ∧ (docking s).hold = s.hold ∧
    (docking s).power = s.power ∧ (docking s).free = s.free ∧ (docking s).pending = s.pending ∧
    (docking s).attach = { s.attach with dock := .docked, settleTimer := none } := by
  simp [docking, dockIn]

theorem docking_lowestCell (s : State) : (docking s).lowestCell = s.lowestCell :=
  lowestCell_of_cells (by simp) (by simp [docking, dockIn, enterPhase_pack])

/-- The decisions of a docking, the second of them where stop-charge has changed (R100, R106, R107). -/
theorem settleDock_phase (s : State) : let t := settleDock s
    (s.table.dockReady = false → t.charge.phase = .waiting) ∧
    (s.table.dockReady = true → hindered t = true → t.charge.phase = .paused) ∧
    (s.table.dockReady = true → hindered t = false → s.charge.supplyLost = false → t.charge.phase = beginning t) := by
  intro t
  set u := docking s with hu
  have waiting : u.charge.phase = .waiting := by rw [hu, docking_charge]
  have ready : u.table.dockReady = s.table.dockReady := by simp [hu]
  set w := chargeSettle u with hw
  set v := handStopSuction w with hv
  have told : t = handReasons w := settleDock_eq s
  have first : SameDock u w := chargeSettle_sameDock u
  have formed : SameDock w v := handStopSuction_sameDock w
  have last : SameDock w t := told ▸ handReasons_sameDock w
  have stop : t.hold.stopCharge = w.liveReasons.stopsCharge := by rw [told, handReasons_hold, formHolds_stopCharge]
  have phase : w.charge.phase = (waitingDecision u).charge.phase := by
    rw [hw, chargeSettle_phase, chargeReview_of_waiting waiting]
  have decided : w.charge.phase = if u.table.dockReady = true then if hindered u = true then .paused else beginning u
      else .waiting := by
    rw [phase]
    split
    case isTrue docked => exact waitingDecision_phase docked
    case isFalse away => rw [waitingDecision_of_not_ready (by simpa using away), waiting]
  by_cases same : w.liveReasons.stopsCharge = w.hold.stopCharge
  case pos =>
    have kept : t.charge.phase = w.charge.phase := by rw [told, handReasons_phase w same]
    have hindrance : hindered t = hindered u := by
      rw [last.hindered (stop.trans same), first.hindered (by simp [hw])]
    have begun : beginning t = beginning u := (first.trans last).beginning
    simp only [kept, decided, hindrance, begun, ready]
    exact ⟨fun away => by simp [away], fun docked stands => by simp [docked, stands],
      fun docked free _ => by simp [docked, free]⟩
  case neg =>
    have reviewed : t.charge.phase = (chargeReview v).charge.phase := by rw [told, handReasons_phase_of_changed same]
    have still : v.charge.phase = w.charge.phase := by simp [hv]
    have away : v.table.dockReady = s.table.dockReady := by rw [formed.table, first.table, ready]
    have dock : SameDock t v := last.symm.trans formed
    have hindrance : hindered v = hindered t := dock.hindered (by rw [stop, hv, handStopSuction_stopCharge])
    rw [reviewed]
    refine ⟨fun gone => ?_, fun docked stands => ?_, fun docked free kept => ?_⟩
    · rw [chargeReview_of_waiting (by simp [still, decided, ready, gone]),
        waitingDecision_of_not_ready (by rw [away, gone]), still, decided, ready, gone]
      simp
    · have running : v.charge.phase.charging = true ∨ v.charge.phase = .paused := by
        rw [still, decided, ready, docked]
        by_cases before : hindered u = true
        · simp [before]
        · simp [before, beginning_charging]
      exact chargeReview_of_cause running (causesNow_hindered (by rw [hindrance, stands]))
    · have before : hindered u = true := by
        have stopped : u.hold.stopCharge = w.hold.stopCharge := by simp [hw]
        have calm : t.hold.stopCharge = false := by simp_all [hindered]
        simp_all [hindered]
      have paused : v.charge.phase = .paused := by simp [still, decided, ready, docked, before]
      have responsive : v.charge.causes.unresponsive = false := by
        rw [hv, handStopSuction_charge, hw, chargeSettle_causes, chargeReview_of_waiting waiting]
        exact waitingDecision_responsive (by simp [hu, docking_charge, Causes.none])
      have lost : v.charge.supplyLost = false := by rw [formed.supplyLost, first.supplyLost, hu, docking_charge, kept]
      rw [chargeReview_resumes paused (by rw [hindrance, free]) (by rw [away, docked])
        (causesNow_none (by rw [hindrance, free]) (by rw [away, docked]) lost responsive), dock.beginning]

/-- The window of a charge controller has a charge current (R94). -/
theorem liveWindow_isSome (s : State) :
    s.liveWindow.isSome = ((s.charge.window.bind (s.cfg.windows[·]?)).filter (·.iChg ≠ 0)).isSome := by
  unfold State.liveWindow
  rw [show s.charge.window.bind (s.cfg.windows[·]?) = s.window from rfl]
  cases s.window with
  | none => rfl
  | some w => by_cases h : w.iChg = 0 <;> simp [h]

/-- A docking stops suction, and zeroes the target where suction ran (R35, R164, R170). -/
theorem settleDock_suction (s : State) : (settleDock s).hold.reasons.docked = true ∧
    (settleDock s).hold.stopSuction = true ∧ (s.hold.stopSuction = false → (settleDock s).allow.target = 0) := by
  set w := chargeSettle (docking s) with hw
  have docked : w.liveReasons.docked = true := by simp [hw, State.liveReasons]
  have stops : (formHolds w).hold.stopSuction = true := by
    simp [formHolds, stopsSuction, Reasons.localStop, docked]
  rw [settleDock_eq, ← hw]
  refine ⟨by rw [handReasons_hold, formHolds_reasons, docked], by rw [handReasons_hold, stops], fun running => ?_⟩
  have zeroed : (handStopSuction w).allow.target = 0 := by
    have rises : w.hold.stopSuction = false := by simpa [hw]
    simp [handStopSuction, stops, rises, zeroTarget_allow]
  have followed : Easing (handStopSuction w) (handReasons w) :=
    ((handStopCharge_easing _ _).trans (railJudge_easing _)).trans (powerJudge_easing _)
  rcases followed.target with kept | zero
  · rw [kept, zeroed]
  · exact zero

/-- Settles O39: the docking's own changes, then the decisions of `settleDock_phase`. -/
theorem settleTimerDocks : Obligations.SettleTimerDocks := by
  intro s d running
  refine onTimer_answers (f := settleDock) running ?_
  set u := runTo d s with hu
  have eased : Easing (docking u) (settleDock u) := (chargeSettle_easing _).trans (handReasons_easing _)
  have aside : Aside (docking u) (settleDock u) := (chargeSettle_aside _).trans (handReasons_aside _)
  have dock : SameDock (docking u) (settleDock u) := (chargeSettle_sameDock _).trans (handReasons_sameDock _)
  have settled : ScanSettling (docking u) (settleDock u) :=
    ((chargeSettle_settling _).trans (handReasons_settling _)).toScanSettling
  obtain ⟨waits, pauses, begins⟩ := settleDock_phase u
  obtain ⟨docked, suction, target⟩ := settleDock_suction u
  have raised : Raised .docked (settleDock u) := by
    simpa [Raised, State.flag, settleDock_eq, docking, dockIn] using
      raise_raised .docked (u.onAttach fun a => { a with dock := .docked, settleTimer := none })
  have flags : Raised .docked (publish s (settleDock u)) := by
    obtain ⟨-, -, -, -, -, -, -, -, -, -, -, flags⟩ := publish_told s (settleDock u)
    exact Raised.told raised flags
  have weak : (publish s (settleDock u)).dockWeak = (settleDock u).dockWeak := (publish_sameDock _ _).dockWeak
  have cfg : (settleDock u).cfg = s.cfg := by
    rw [dock.cfg]
    simp [State.cfg, hu]
  have live := liveWindow_isSome (settleDock u)
  rw [cfg] at live
  have begun : beginning (settleDock u) = beginning s := by
    have lowest : u.lowestCell = s.lowestCell := lowestCell_of_cells (by simp [hu]) (by simp [hu])
    rw [beginning, dock.lowestCell, docking_lowestCell, lowest, beginning]
  simp only [publish_frame]
  refine ⟨by simp [eased.time], by simp [aside.attach], by simp [aside.attach], flags, docked, suction, ?_, ?_, ?_, ?_,
    ?_, ?_, ?_, ?_, ?_⟩
  · simpa [hu] using target
  · rw [dock.window, docking_charge]
    simp [hu, firstWindow, inRange, State.cfg, Bool.and_assoc]
  · simpa [hu] using waits
  · intro ready stands
    refine pauses (by simpa [hu] using ready) ?_
    rw [weak, ← live] at stands
    rcases stands with stop | dead | weak
    · simp [hindered, stop]
    · simp_all [hindered]
    · simp [hindered, weak]
  · intro ready calm alive strong kept
    rw [weak] at strong
    rw [← live] at alive
    have free : hindered (settleDock u) = false := by
      simp_all [hindered, Option.isNone_eq_false_iff]
    rw [begins (by simpa [hu] using ready) free (by simpa [hu] using kept), begun, beginning]
  · simpa [CountersKept, docking_charge, hu] using eased.counters
  · simpa [hu] using aside.history
  · simpa [OwnReasonsKept, hu] using settled.own
  · simp [OnlyIn, hu, settleDock]

end Sys2Proof.Proofs
end

section
/-! ## The charge controller at an accepted scan (R94, R95, R100 to R102, R105, R108)

`scanFrom` is the charge controller's part after the fault and the supply guard. Its outcome turns on the window that the
review selects: with that window nothing keeps the charge from running (`Clear`), or a cause pauses it. -/

namespace Sys2Proof.Proofs
open Sys2Proof.Machine Sys2Proof.Safety

/-! ### The window that is selected (R94) -/

/-- The selection that a review makes (R94). -/
def selection (s : State) : Option Nat := reviewWindow s.cfg.windows s.charge.window s.pack.tPack

/-- The state with the window of the review. -/
def selected (s : State) : State := s.onCharge fun c => { c with window := selection s }

theorem selected_of_same {s : State} (h : selection s = s.charge.window) : selected s = s := by
  unfold selected
  rw [h]
  rfl

theorem windowReview_of_undocked {s : State} (h : s.charge.phase = .undocked) : windowReview s = s := by
  simp [windowReview, h]

theorem windowReview_of_same {s : State} (h : selection s = s.charge.window) : windowReview s = s := by
  rw [selection] at h
  simp [windowReview, h]

/-- A change of window in TOPOFF sets v_ask to the new full value (R94, R95). -/
def newWindowAsk (s : State) : State :=
  match s.window with
  | some w => if s.charge.phase = .topoff then changeAsk (s.askFor (s.fullV w.vCell)) s else s
  | none => s

theorem windowReview_of_changed {s : State} (docked : s.charge.phase ≠ .undocked)
    (changed : selection s ≠ s.charge.window) : windowReview s = newWindowAsk (chargeReview (selected s)) := by
  rw [selection] at changed
  rw [windowReview, if_neg docked]
  dsimp only
  rw [if_neg changed]
  rfl

theorem newWindowAsk_of_ne_topoff {s : State} (h : s.charge.phase ≠ .topoff) : newWindowAsk s = s := by
  unfold newWindowAsk
  split
  · rw [if_neg h]
  · rfl

theorem newWindowAsk_sameDock (s : State) : SameDock s (newWindowAsk s) := by
  unfold newWindowAsk
  (repeat' split)
  · exact changeAsk_sameDock _ s
  · exact .refl s
  · exact .refl s

theorem windowReview_sameDock {s : State} (docked : s.charge.phase ≠ .undocked) :
    SameDock (selected s) (windowReview s) := by
  by_cases same : selection s = s.charge.window
  · rw [windowReview_of_same same, selected_of_same same]
    exact .refl s
  · rw [windowReview_of_changed docked same]
    exact (chargeReview_sameDock _).trans (newWindowAsk_sameDock _)

/-! ### The operations that follow leave the readings -/

theorem waitingDecision_sameDock (s : State) : SameDock s (waitingDecision s) := by
  refine (waitingDecision_settling s).toScanSettling.sameDock ?_ ?_ <;>
    unfold waitingDecision enterPaused <;> (repeat' split) <;> simp [enterPhase_charge]

theorem phaseProgress_sameDock (s : State) : SameDock s (phaseProgress s) := by
  unfold phaseProgress
  split
  case h_1 =>
    split
    · exact enterPhase_sameDock _ s
    · exact .refl s
  case h_2 =>
    (repeat' split)
    · exact enterPhase_sameDock _ s
    · exact .refl s
    · exact .refl s
  case h_3 =>
    (repeat' split)
    · exact (enterPhase_sameDock _ s).trans (waitingDecision_sameDock _)
    · exact .refl s
    · exact .refl s
  case h_4 => exact .refl s

theorem scanProgress_sameDock (p : ChargePhase) (s : State) : SameDock s (scanProgress p s) := by
  unfold scanProgress
  split
  · exact phaseProgress_sameDock s
  · exact .refl s

theorem terminationJudge_keeps (s : State) :
    (terminationJudge s).charge = { s.charge with termination := (terminationJudge s).charge.termination } := by
  unfold terminationJudge
  split <;> rfl

theorem scanConclusion_sameDock (p : ChargePhase) (s : State) : SameDock s (scanConclusion p s) := by
  have judged : SameDock s (switchJudge (refreshAsk s)) := (changeAsk_sameDock _ s).trans (switchJudge_sameDock _)
  have timed : ∀ u, SameDock u (terminationJudge u) := fun u =>
    (terminationJudge_settling u).toScanSettling.sameDock (by rw [terminationJudge_keeps]) (by rw [terminationJudge_keeps])
  unfold scanConclusion
  dsimp only
  split
  · exact judged.trans (timed _)
  · exact judged

theorem scanReview_sameDock {s : State} (docked : s.charge.phase ≠ .undocked) : SameDock (selected s) (scanReview s) :=
  ((windowReview_sameDock docked).trans (chargeReview_sameDock _)).trans (changeAsk_sameDock _ _)

/-- The window after the charge controller's part is the one that the review selects (R94). -/
theorem scanFrom_sameDock {s : State} (docked : s.charge.phase ≠ .undocked) : SameDock (selected s) (scanFrom s) :=
  ((scanReview_sameDock docked).trans (scanProgress_sameDock _ _)).trans (scanConclusion_sameDock _ _)

/-! ### The phase and the ask that a scan concludes with -/

theorem refreshAsk_ask (s : State) : (refreshAsk s).charge.ask = s.askFor s.charge.ask.v :=
  (changeAsk_keeps _ s).1

theorem refreshAsk_phase (s : State) : (refreshAsk s).charge.phase = s.charge.phase := changeAsk_phase _ s

/-- The ask of a charging phase (R95). -/
theorem askFor_of_charging {s : State} {w : ChargeWindow} (charging : s.charge.phase.charging = true)
    (window : s.window = some w) (v : Nat) : s.askFor v =
      ⟨true, if s.charge.phase = .topoff then v else s.fullV w.vCell, s.askCurrent w⟩ := by
  simp [State.askFor, charging, window]

theorem askFor_of_rest {s : State} (rest : s.charge.phase.charging = false) (v : Nat) : s.askFor v = .disabled := by
  simp [State.askFor, rest]

theorem scanConclusion_phase (p : ChargePhase) (s : State) :
    (scanConclusion p s).charge.phase = s.charge.phase := by
  unfold scanConclusion
  dsimp only
  split
  · rw [terminationJudge_keeps, switchJudge_phase, refreshAsk_phase]
  · rw [switchJudge_phase, refreshAsk_phase]

theorem scanConclusion_ask (p : ChargePhase) (s : State) :
    (scanConclusion p s).charge.ask = s.askFor s.charge.ask.v := by
  unfold scanConclusion
  dsimp only
  split
  · rw [terminationJudge_keeps, switchJudge_charge_eq, refreshAsk_ask]
  · rw [switchJudge_charge_eq, refreshAsk_ask]

/-! ### A charge that nothing holds back -/

/-- A live window `x` whose voltage the ready dock reaches, no mark standing and stop-charge clear (R100, R106). -/
structure Clear (x : ChargeWindow) (s : State) : Prop where
  window : s.window = some x
  live : x.iChg ≠ 0
  ready : s.table.dockReady = true
  strong : s.fullV x.vCell ≤ s.table.dockMaxV
  kept : s.charge.supplyLost = false
  responsive : s.charge.causes.unresponsive = false
  free : s.hold.stopCharge = false

section
variable {x : ChargeWindow} {s t : State}

theorem Clear.liveWindow (h : Clear x s) : s.liveWindow = some x := by
  simp [State.liveWindow, h.window, h.live]

theorem Clear.hindered (h : Clear x s) : hindered s = false := by
  have strong := h.strong
  simp [Proofs.hindered, h.free, h.liveWindow, State.dockWeak]
  omega

theorem Clear.no_cause (h : Clear x s) : s.causesNow.any = false :=
  causesNow_none h.hindered h.ready h.kept h.responsive

theorem Clear.of_sameDock (h : Clear x s) (same : SameDock s t) (responsive : t.charge.causes.unresponsive = false)
    (free : t.hold.stopCharge = s.hold.stopCharge) : Clear x t where
  window := by rw [same.window_eq, h.window]
  live := h.live
  ready := by rw [same.table, h.ready]
  strong := by
    rw [same.table, State.fullV, same.cfg]
    exact h.strong
  kept := by rw [same.supplyLost, h.kept]
  responsive := responsive
  free := by rw [free, h.free]

/-! #### In a charging phase -/

/-- The state after the window review of a charging phase: in TOPOFF a new window sets v_ask anew (R94). -/
theorem windowReview_of_clear (clear : Clear x (selected s)) (charging : s.charge.phase.charging = true) :
    windowReview s = if s.charge.phase = .topoff ∧ selection s ≠ s.charge.window
      then changeAsk ((selected s).askFor ((selected s).fullV x.vCell)) (selected s) else selected s := by
  have docked : s.charge.phase ≠ .undocked := by rintro phase; simp [phase, ChargePhase.charging] at charging
  by_cases same : selection s = s.charge.window
  · rw [windowReview_of_same same, if_neg (by simp [same]), selected_of_same same]
  · have window : (selected s).window = some x := clear.window
    have phase : (selected s).charge.phase = s.charge.phase := rfl
    rw [windowReview_of_changed docked same, chargeReview_of_charging (s := selected s) charging clear.no_cause,
      newWindowAsk, window]
    simp [phase, same]

theorem docked_of_charging (charging : s.charge.phase.charging = true) : s.charge.phase ≠ .undocked := by
  rintro phase
  simp [phase, ChargePhase.charging] at charging

/-- The review of the window leaves a charge that nothing holds back in its phase (R94). -/
theorem windowReview_cleared (clear : Clear x (selected s)) (charging : s.charge.phase.charging = true) :
    (windowReview s).charge.phase = s.charge.phase ∧ Clear x (windowReview s) := by
  have reviewed := windowReview_of_clear clear charging
  refine ⟨?_, clear.of_sameDock (windowReview_sameDock (docked_of_charging charging)) ?_ (by simp [selected])⟩
  · rw [reviewed]
    split
    · rw [changeAsk_phase]; rfl
    · rfl
  · rw [reviewed]
    split
    · rw [changeAsk_causes]; exact clear.responsive
    · exact clear.responsive

theorem scanReview_eq_of_charging (clear : Clear x (selected s)) (charging : s.charge.phase.charging = true) :
    scanReview s = refreshAsk (windowReview s) := by
  obtain ⟨phase, cleared⟩ := windowReview_cleared clear charging
  rw [scanReview, chargeReview_of_charging (by rw [phase, charging]) cleared.no_cause]

/-- The ask of a charging phase at a scan: in TOPOFF it is kept unless the window changed (R95). -/
theorem scanReview_of_charging (clear : Clear x (selected s)) (charging : s.charge.phase.charging = true) :
    (scanReview s).charge.phase = s.charge.phase ∧ (scanReview s).charge.ask.v =
      if s.charge.phase = .topoff ∧ selection s = s.charge.window then s.charge.ask.v else s.fullV x.vCell := by
  obtain ⟨phase, cleared⟩ := windowReview_cleared clear charging
  have fullV : (windowReview s).fullV x.vCell = s.fullV x.vCell := by
    rw [State.fullV, (windowReview_sameDock (docked_of_charging charging)).cfg]
    rfl
  rw [scanReview_eq_of_charging clear charging]
  refine ⟨by rw [refreshAsk_phase, phase], ?_⟩
  rw [refreshAsk_ask, askFor_of_charging (by rw [phase, charging]) cleared.window, fullV, phase]
  have reviewed := windowReview_of_clear clear charging
  by_cases topoff : s.charge.phase = .topoff
  case neg => simp [topoff]
  case pos =>
    by_cases kept : selection s = s.charge.window
    · simp [topoff, kept, reviewed, selected]
    · have asked : (windowReview s).charge.ask = (selected s).askFor ((selected s).fullV x.vCell) := by
        rw [reviewed, if_pos ⟨topoff, kept⟩]
        exact (changeAsk_keeps _ _).1
      rw [asked, askFor_of_charging (s := selected s) charging clear.window]
      simp [topoff, kept]
      rfl

/-! #### In WAITING and PAUSED -/

theorem chargeReview_begins (clear : Clear x s) (idle : s.charge.phase = .waiting ∨ s.charge.phase = .paused) :
    (chargeReview s).charge.phase = beginning s := by
  rcases idle with waiting | paused
  · rw [chargeReview_of_waiting waiting, waitingDecision_phase clear.ready, if_neg (by simp [clear.hindered])]
  · exact chargeReview_resumes paused clear.hindered clear.ready clear.no_cause

/-- A review makes no DOCK_UNRESPONSIVE stand (R98, R106). -/
theorem chargeReview_responsive (h : s.charge.causes.unresponsive = false) :
    (chargeReview s).charge.causes.unresponsive = false := by
  have waiting : (waitingDecision (enterPhase .waiting s)).charge.causes.unresponsive = false :=
    waitingDecision_responsive (by simp [enterPhase_charge, Causes.none])
  have reviewed : s.causesNow.unresponsive = false := by simp [State.causesNow, h]
  have pause : (if s.causesNow.any then enterPaused s.causesNow s else s).charge.causes.unresponsive = false := by
    split
    · exact reviewed
    · exact h
  unfold chargeReview
  split
  case h_1 => exact pause
  case h_2 => exact pause
  case h_3 => exact pause
  case h_4 =>
    split
    · exact reviewed
    · exact waiting
  case h_5 => exact waitingDecision_responsive h
  all_goals exact h

theorem scanReview_begins (clear : Clear x (selected s))
    (idle : s.charge.phase = .waiting ∨ s.charge.phase = .paused) :
    (scanReview s).charge.phase = beginning s := by
  have docked : s.charge.phase ≠ .undocked := by rcases idle with idle | idle <;> simp [idle]
  rw [scanReview, refreshAsk_phase]
  by_cases same : selection s = s.charge.window
  · rw [selected_of_same same] at clear
    rw [windowReview_of_same same, chargeReview_begins clear idle]
  · have begun : (chargeReview (selected s)).charge.phase = beginning s := chargeReview_begins clear idle
    have charging := beginning_charging s
    have cleared : Clear x (chargeReview (selected s)) :=
      clear.of_sameDock (chargeReview_sameDock _) (chargeReview_responsive clear.responsive) (by simp)
    have topoff : (chargeReview (selected s)).charge.phase ≠ .topoff := by
      rw [begun, beginning]
      split <;> simp
    rw [windowReview_of_changed docked same, newWindowAsk_of_ne_topoff topoff,
      chargeReview_of_charging (by rw [begun, charging]) cleared.no_cause, begun]

end

/-! #### In DONE, FAULT and UNDOCKED -/

theorem chargeReview_of_ended {s : State} (ended : s.charge.phase = .done ∨ s.charge.phase = .fault ∨
    s.charge.phase = .undocked) : chargeReview s = s := by
  unfold chargeReview
  rcases ended with phase | phase | phase <;> rw [phase]

theorem scanReview_of_ended {s : State} (ended : s.charge.phase = .done ∨ s.charge.phase = .fault ∨
    s.charge.phase = .undocked) : (scanReview s).charge.phase = s.charge.phase := by
  have phase : (windowReview s).charge.phase = s.charge.phase := by
    by_cases undocked : s.charge.phase = .undocked
    · rw [windowReview_of_undocked undocked]
    by_cases same : selection s = s.charge.window
    · rw [windowReview_of_same same]
    · have topoff : (selected s).charge.phase ≠ .topoff := by
        rcases ended with phase | phase | phase <;> simp [selected, phase]
      rw [windowReview_of_changed undocked same, chargeReview_of_ended (s := selected s) ended,
        newWindowAsk_of_ne_topoff topoff]
      rfl
  rw [scanReview, refreshAsk_phase, chargeReview_of_ended (by rwa [phase]), phase]

/-! ### The progress of a phase (R101, R102, R105) -/

section
variable {x : ChargeWindow} {s : State}

/-- The phase after the charge controller's part of a scan that nothing holds back (R100 to R102, R105, R107). -/
def scanPhase (x : ChargeWindow) (s : State) : ChargePhase :=
  match s.charge.phase with
  | .precharge => if 3100 ≤ s.lowestCell then .bulk else .precharge
  | .bulk => if x.vCell ≤ s.highestCell + 20 then .topoff else .bulk
  | .done => if s.lowestCell + 150 < x.vCell then beginning s else .done
  | .waiting => beginning s
  | .paused => beginning s
  | .topoff => .topoff
  | .undocked => .undocked
  | .fault => .fault

theorem phaseProgress_phase (window : s.window = some x) (live : s.liveWindow = some x)
    (ready : s.table.dockReady = true) (free : hindered s = false) (begun : s.charge.phase ≠ .waiting)
    (gone : s.charge.phase ≠ .paused) : (phaseProgress s).charge.phase = scanPhase x s := by
  have entered : ∀ ph, (enterPhase ph s).charge.phase = ph := fun ph => by simp [enterPhase_charge]
  have waiting := enterPhase_sameDock .waiting s
  have again : (waitingDecision (enterPhase .waiting s)).charge.phase = beginning s := by
    have still : hindered (enterPhase .waiting s) = false := by rw [waiting.hindered (by simp), free]
    rw [waitingDecision_phase (by rw [waiting.table, ready]), if_neg (by simp [still]), waiting.beginning]
  unfold phaseProgress scanPhase
  cases phase : s.charge.phase with
  | waiting => contradiction
  | paused => contradiction
  | precharge =>
    dsimp only
    split <;> simp [entered, phase]
  | bulk =>
    simp only [window]
    split <;> simp [entered, phase]
  | done =>
    simp only [live]
    split <;> simp [again, phase]
  | topoff => exact phase
  | undocked => exact phase
  | fault => exact phase

/-- Progress of a phase in a charge that runs (R101, R102). -/
theorem scanProgress_phase (clear : Clear x (selected s)) :
    (scanProgress s.charge.phase (scanReview s)).charge.phase = scanPhase x s := by
  by_cases undocked : s.charge.phase = .undocked
  · have phase := scanReview_of_ended (.inr (.inr undocked))
    simp [scanProgress, phaseProgress, phase, undocked, scanPhase]
  have same := scanReview_sameDock undocked
  have free : hindered (scanReview s) = false := by
    rw [same.hindered (by simp [selected]), clear.hindered]
  by_cases idle : s.charge.phase = .waiting ∨ s.charge.phase = .paused
  case pos =>
    have phase := scanReview_begins clear idle
    have moved : (scanReview s).charge.phase ≠ s.charge.phase := by
      rw [phase, beginning]
      rcases idle with idle | idle <;> rw [idle] <;> split <;> simp
    rw [scanProgress, if_neg moved, phase]
    rcases idle with idle | idle <;> simp [scanPhase, idle]
  case neg =>
    obtain ⟨begun, gone⟩ := not_or.mp idle
    have phase : (scanReview s).charge.phase = s.charge.phase := by
      by_cases charging : s.charge.phase.charging = true
      · exact (scanReview_of_charging clear charging).1
      · refine scanReview_of_ended ?_
        cases h : s.charge.phase <;> simp_all [ChargePhase.charging]
    have figures : scanPhase x (scanReview s) = scanPhase x s := by
      have lowest : (scanReview s).lowestCell = s.lowestCell := same.lowestCell
      have highest : (scanReview s).highestCell = s.highestCell := same.highestCell
      have begins : beginning (scanReview s) = beginning s := same.beginning
      simp only [scanPhase, phase, lowest, highest, begins]
    rw [scanProgress, if_pos phase, phaseProgress_phase (by rw [same.window_eq, clear.window])
      (by rw [same.liveWindow, clear.liveWindow]) (by rw [same.table, clear.ready]) free (by rwa [phase])
      (by rwa [phase]), figures]

theorem scanFrom_phase (clear : Clear x (selected s)) : (scanFrom s).charge.phase = scanPhase x s := by
  rw [scanFrom, scanConclusion_phase, scanProgress_phase clear]

theorem phaseProgress_ask (s : State) : (phaseProgress s).charge.ask = s.charge.ask := by
  have decided : ∀ u, (waitingDecision u).charge.ask = u.charge.ask := by
    intro u
    unfold waitingDecision enterPaused
    (repeat' split) <;> simp [enterPhase_charge]
  unfold phaseProgress
  (repeat' split) <;> simp [enterPhase_charge, decided]

theorem scanProgress_ask (p : ChargePhase) (s : State) : (scanProgress p s).charge.ask = s.charge.ask := by
  unfold scanProgress
  split
  · exact phaseProgress_ask s
  · rfl

/-- A scan leaves TOPOFF behind only BULK and TOPOFF (R102). -/
theorem scanPhase_topoff (h : scanPhase x s = .topoff) : s.charge.phase = .bulk ∨ s.charge.phase = .topoff := by
  have begins : beginning s ≠ .topoff := by
    unfold beginning
    split <;> simp
  unfold scanPhase at h
  split at h <;> simp_all <;> split at h <;> simp_all

/-- The ask of a charge that runs after a scan (R95, R103). -/
theorem scanFrom_ask (clear : Clear x (selected s)) (docked : s.charge.phase ≠ .undocked) :
    (scanFrom s).charge.ask.enable = (scanPhase x s).charging ∧ ((scanPhase x s).charging = true →
      (scanFrom s).charge.ask.v = if s.charge.phase = .topoff ∧ selection s = s.charge.window
        then s.charge.ask.v else s.fullV x.vCell) := by
  set p := scanProgress s.charge.phase (scanReview s) with hp
  have phase : p.charge.phase = scanPhase x s := scanProgress_phase clear
  have same : SameDock (selected s) p := (scanReview_sameDock docked).trans (scanProgress_sameDock _ _)
  have asked : (scanFrom s).charge.ask = p.askFor (scanReview s).charge.ask.v := by
    rw [scanFrom, scanConclusion_ask, ← hp, hp, scanProgress_ask]
  have fullV : p.fullV x.vCell = s.fullV x.vCell := by
    rw [State.fullV, same.cfg]
    rfl
  by_cases charging : (scanPhase x s).charging = true
  case neg => simp [asked, askFor_of_rest (s := p) (by simpa [phase] using charging), charging, Ask.disabled]
  case pos =>
    rw [asked, askFor_of_charging (by rwa [phase]) (by rw [same.window_eq, clear.window]), phase, fullV]
    refine ⟨charging.symm, fun _ => ?_⟩
    by_cases topoff : scanPhase x s = .topoff
    · have before : s.charge.phase.charging = true := by
        rcases scanPhase_topoff topoff with before | before <;> rw [before] <;> rfl
      simp only [topoff, if_true, (scanReview_of_charging clear before).2]
    · have before : s.charge.phase ≠ .topoff := by
        intro before
        simp [scanPhase, before] at topoff
      simp [topoff, before]

/-! ### The termination timer (R104) -/

theorem changeAsk_termination (a : Ask) (s : State) : (changeAsk a s).charge.termination = s.charge.termination := by
  unfold changeAsk
  split <;> rfl

theorem ScanSettling.lowestCell {t : State} (h : ScanSettling s t) : t.lowestCell = s.lowestCell := by
  obtain ⟨-, -, loader, -⟩ := h.frame
  exact lowestCell_of_cells loader h.readings.2

theorem ScanSettling.highestCell {t : State} (h : ScanSettling s t) : t.highestCell = s.highestCell := by
  obtain ⟨-, -, loader, -⟩ := h.frame
  simp only [State.highestCell, map_activeCells_of_cells loader h.readings.2 (·.vMeas) fun _ => rfl]

theorem ScanSettling.ending {t : State} (h : ScanSettling s t) : t.ending = s.ending := by
  have current : t.chargeCurrent = s.chargeCurrent := by rw [State.chargeCurrent, h.pack]; rfl
  simp only [State.ending, current, h.lowestCell, h.highestCell, h.cfg]

theorem changeAsk_echoed {a : Ask} {s : State} (h : (changeAsk a s).charge.awaiting = false) :
    s.charge.awaiting = false := by
  rcases changeAsk_cases a s with ⟨-, kept⟩ | awaited
  · rwa [kept] at h
  · simp [awaited] at h

/-- The charge of a closed switch whose conditions all stand is left alone (R99). -/
theorem switchJudge_of_wanted (closed : s.charge.switch = true) (wanted : s.switchWanted = true) :
    switchJudge s = s := by
  rw [switchJudge, if_pos (wanted.trans closed.symm)]

/-- The charge controller's part of a scan in TOPOFF (R95, R99, R104). -/
theorem scanFrom_of_topoff (clear : Clear x (selected s)) (topoff : s.charge.phase = .topoff) :
    scanFrom s = terminationJudge (switchJudge (refreshAsk (refreshAsk (windowReview s)))) := by
  have charging : s.charge.phase.charging = true := by rw [topoff]; rfl
  have review : (scanReview s).charge.phase = .topoff := by rw [(scanReview_of_charging clear charging).1, topoff]
  rw [← scanReview_eq_of_charging clear charging]
  simp [scanFrom, scanConclusion, scanProgress, phaseProgress, review, topoff]

/-- In TOPOFF no echo that was awaited comes with a scan (R98). -/
theorem scanFrom_echoed (clear : Clear x (selected s)) (topoff : s.charge.phase = .topoff)
    (echoed : (scanFrom s).charge.awaiting = false) : s.charge.awaiting = false := by
  rw [scanFrom_of_topoff clear topoff, terminationJudge_keeps, switchJudge_charge_eq] at echoed
  have window := changeAsk_echoed (changeAsk_echoed echoed)
  rw [windowReview_of_clear clear (by rw [topoff]; rfl)] at window
  split at window
  · exact changeAsk_echoed (s := selected s) window
  · exact window

/-- In TOPOFF, where no new ask has opened the switch, the termination timer runs on while the charge is ending (R104). -/
theorem scanFrom_termination (clear : Clear x (selected s)) (topoff : s.charge.phase = .topoff)
    (closed : s.charge.switch = true) (quiet : s.drive.state.quiet = true)
    (echoed : (scanFrom s).charge.awaiting = false) :
    (scanFrom s).drive = s.drive ∧ (scanFrom s).charge.switch = true ∧
    (scanFrom s).charge.termination = if s.ending = true then s.charge.termination.run s.now else .zero := by
  have charging : s.charge.phase.charging = true := by rw [topoff]; rfl
  have concluded := scanFrom_of_topoff clear topoff
  have review := windowReview_of_clear clear charging
  obtain ⟨reviewed, -⟩ := windowReview_cleared clear charging
  set v := refreshAsk (refreshAsk (windowReview s)) with hv
  have phase : v.charge.phase = .topoff := by rw [hv, refreshAsk_phase, refreshAsk_phase, reviewed, topoff]
  have kept : v.charge.termination = s.charge.termination := by
    have window : (windowReview s).charge.termination = s.charge.termination := by
      rw [review]
      split
      · rw [changeAsk_termination]; rfl
      · rfl
    rw [hv, refreshAsk, changeAsk_termination, refreshAsk, changeAsk_termination, window]
  have echoed : v.charge.awaiting = false := by
    rw [concluded, terminationJudge_keeps, switchJudge_charge_eq] at echoed
    exact echoed
  have drive : v.drive = s.drive := by simp [hv]
  have live : v.charge.switch = true := by simp [hv, refreshAsk, closed]
  have wanted : v.switchWanted = true := by
    have free : v.hold.stopCharge = false := by
      have free := clear.free
      simpa [hv, selected] using free
    rw [switchWanted_iff, phase, drive]
    exact ⟨rfl, echoed, quiet, free⟩
  have settled : Settling s v :=
    ((windowReview_settling s).trans (refreshAsk_settling _)).trans (refreshAsk_settling _)
  have now : v.now = s.now := by simp [State.now, settled.frame]
  have judged : terminationJudge v = v.onCharge fun c =>
      { c with termination := if v.ending then c.termination.run v.now else .zero } := by
    rw [terminationJudge, if_pos (by simp [phase, live])]
  rw [concluded, switchJudge_of_wanted live wanted, judged]
  refine ⟨drive, live, ?_⟩
  rw [onCharge_charge, settled.toScanSettling.ending, kept, now]

end

/-! ### A charge that pauses (R106, R108) -/

theorem enterPaused_charge (cs : Causes) (s : State) : (enterPaused cs s).charge = { s.charge with
    phase := .paused, causes := cs, echoTimer := none, resendTimer := none, regTimer := none, termination := .zero,
    precharge := s.charge.precharge.stop s.now, total := s.charge.total.stop s.now } := by
  simp [enterPaused, enterPhase_charge, ChargePhase.charging]

/-- A pause re-formed for the causes that made it is that pause (R107). -/
theorem chargeReview_of_pause {s : State} (cause : s.causesNow.any = true) :
    (chargeReview (enterPaused s.causesNow s)).charge = (enterPaused s.causesNow s).charge := by
  set v := enterPaused s.causesNow s with hv
  have charge : v.charge = { s.charge with
      phase := .paused, causes := s.causesNow, echoTimer := none, resendTimer := none, regTimer := none,
      termination := .zero, precharge := s.charge.precharge.stop s.now, total := s.charge.total.stop s.now } :=
    enterPaused_charge _ s
  have same : SameDock s v :=
    (enterPaused_settling _ s).toScanSettling.sameDock (by rw [charge]) (by rw [charge])
  have hold : v.hold = s.hold := by simp [hv]
  have causes : v.causesNow = s.causesNow := by
    simp [State.causesNow, same.liveWindow, same.table, same.dockWeak, hold, charge]
  have paused : v.charge.phase = .paused := by rw [charge]
  have review : chargeReview v = v.onCharge fun c => { c with causes := s.causesNow } := by
    simp [chargeReview, paused, causes, cause]
  rw [review, onCharge_charge, charge]

/-- The review of the window, and of the causes after it, pauses a charging phase for what it finds (R94, R106). -/
theorem chargeReview_windowReview_of_cause {s : State} (charging : s.charge.phase.charging = true)
    (cause : (selected s).causesNow.any = true) :
    (chargeReview (windowReview s)).charge = (enterPaused (selected s).causesNow (selected s)).charge := by
  by_cases same : selection s = s.charge.window
  · rw [selected_of_same same] at cause ⊢
    rw [windowReview_of_same same, chargeReview_pauses charging cause]
  · have paused : (enterPaused (selected s).causesNow (selected s)).charge.phase ≠ .topoff := by
      rw [enterPaused_charge]
      simp
    rw [windowReview_of_changed (docked_of_charging charging) same,
      chargeReview_pauses (s := selected s) charging cause, newWindowAsk_of_ne_topoff paused, chargeReview_of_pause cause]

/-- The termination timer is judged in TOPOFF alone (R104). -/
theorem scanConclusion_of_ne_topoff {s : State} (h : s.charge.phase ≠ .topoff) (p : ChargePhase) :
    scanConclusion p s = switchJudge (refreshAsk s) := by
  have phase : (switchJudge (refreshAsk s)).charge.phase ≠ .topoff := by rwa [switchJudge_phase, refreshAsk_phase]
  unfold scanConclusion
  dsimp only
  split
  · simp [terminationJudge, phase]
  · rfl

/-- A cause that the review of the window finds pauses the charge (R94, R106). -/
theorem scanFrom_of_cause {s : State} (charging : s.charge.phase.charging = true)
    (cause : (selected s).causesNow.any = true) : let c := (scanFrom s).charge
    c.phase = .paused ∧ c.causes = (selected s).causesNow ∧ c.ask = .disabled ∧ c.switch = false ∧ c.regTimer = none ∧
    c.echoTimer = none ∧ c.resendTimer = none ∧ c.termination = .zero := by
  set y := chargeReview (windowReview s) with hy
  have paused := chargeReview_windowReview_of_cause charging cause
  rw [← hy, enterPaused_charge] at paused
  have asked := refreshAsk_charge (s := y) (by rw [paused]; rfl) (by rw [paused]) (by rw [paused])
  rw [paused] at asked
  generalize (refreshAsk y).charge.awaiting = b at asked
  have review : scanReview s = refreshAsk y := rfl
  have moved : (refreshAsk y).charge.phase ≠ s.charge.phase := by
    rw [asked]
    rintro phase
    rw [← phase] at charging
    simp [ChargePhase.charging] at charging
  have concluded : scanFrom s = switchJudge (refreshAsk (refreshAsk y)) := by
    rw [scanFrom, review, scanProgress, if_neg moved, scanConclusion_of_ne_topoff (by rw [asked]; simp)]
  rw [concluded, settledAtRest_charge] <;> simp [asked, ChargePhase.charging, stop_zero]

end Sys2Proof.Proofs
end

section
/-! ## A scan completion around the charge controller's part (R3, R99, R106, R108, R110)

Before the charge controller the scan's readings and reasons are handed on, after it the target: with stop-charge as it
was, either moves the switch of the charge controller and nothing else. -/

namespace Sys2Proof.Proofs
open Sys2Proof.Machine Sys2Proof.Safety

/-! ### Events that move the switch alone -/

/-- Of the charge controller the switch and the termination timer may have moved (R99, R104). -/
def SwitchOnly (c d : Charge) : Prop := d = { c with switch := d.switch, termination := d.termination }

theorem SwitchOnly.refl (c : Charge) : SwitchOnly c c := rfl

theorem SwitchOnly.trans {a b c : Charge} (h : SwitchOnly a b) (k : SwitchOnly b c) : SwitchOnly a c := by
  rw [SwitchOnly] at h k ⊢
  rw [h] at k
  exact k

theorem switchJudge_switchOnly (s : State) : SwitchOnly s.charge (switchJudge s).charge := by
  rw [SwitchOnly, switchJudge_charge_eq]

/-- With stop-charge as it is, handing the reasons on judges the switch and nothing else (R99, R170). -/
theorem handReasons_charge_of_same {s : State} (h : s.liveReasons.stopsCharge = s.hold.stopCharge) :
    (handReasons s).charge = (switchJudge (handStopSuction s)).charge := by
  simp [handReasons_eq, handStopCharge, h]

theorem handReasons_switchOnly {s : State} (h : s.liveReasons.stopsCharge = s.hold.stopCharge) :
    SwitchOnly s.charge (handReasons s).charge := by
  rw [handReasons_charge_of_same h]
  have judged := switchJudge_switchOnly (handStopSuction s)
  rwa [handStopSuction_charge] at judged

theorem SwitchOnly.sameDock {s t : State} (h : SwitchOnly s.charge t.charge) (settled : ScanSettling s t) :
    SameDock s t := settled.sameDock (by rw [h]) (by rw [h])

/-! ### Before the charge controller's part -/

/-- The state that the charge controller finds at a completion: the readings and the reasons have been handed on (R3). -/
def reasonsTold (r : ScanReading) (s : State) : State := asEvent (scanTemps r) (packTold r s)

theorem scanBefore_eq_told (r : ScanReading) (s : State) :
    scanBefore r s = asEvent (scanCharge r s) (reasonsTold r s) := rfl

theorem scanPack_eq (r : ScanReading) (s : State) : scanPack r s = handReasons (readingsTaken r s) := rfl

theorem scanPack_stopCharge (r : ScanReading) (s : State) :
    (scanPack r s).hold.stopCharge = (readingsTaken r s).liveReasons.stopsCharge := by
  rw [scanPack_eq, handReasons_hold, formHolds_stopCharge]

theorem scanPack_formed (r : ScanReading) (s : State) : Formed (scanPack r s) := handReasons_formed _

/-- The reasons of the temperatures leave stop-charge (R165, R170). -/
theorem scanTemps_switchOnly {s : State} (r : ScanReading) (formed : Formed s) :
    SwitchOnly s.charge (scanTemps r s).charge ∧ (scanTemps r s).hold.stopCharge = s.hold.stopCharge := by
  obtain ⟨-, formed⟩ := formed
  unfold scanTemps
  split
  · have same : (packReasons s).liveReasons.stopsCharge = (packReasons s).hold.stopCharge := formed.symm
    have moved := handReasons_switchOnly same
    rw [handReasons_hold, formHolds_stopCharge, same]
    exact ⟨by simpa using moved, rfl⟩
  · exact ⟨.refl _, rfl⟩

theorem reasonsTold_stopCharge (r : ScanReading) (s : State) :
    (reasonsTold r s).hold.stopCharge = (scanPack r s).hold.stopCharge := by
  have told := (scanTemps_switchOnly r (packTold_formed r s)).2
  simpa [reasonsTold, packTold, scanPack_eq] using told

/-- With stop-charge as it was, the charge controller is found as it was but for its switch. -/
theorem reasonsTold_switchOnly {r : ScanReading} {s : State}
    (same : (scanPack r s).hold.stopCharge = s.hold.stopCharge) : SwitchOnly s.charge (reasonsTold r s).charge := by
  obtain ⟨-, -, -, charge, -, hold, -⟩ := readingsTaken_frame r s
  have pack : SwitchOnly (readingsTaken r s).charge (scanPack r s).charge :=
    handReasons_switchOnly (by rw [← scanPack_stopCharge, same, hold])
  rw [charge] at pack
  have temps := (scanTemps_switchOnly r (packTold_formed r s)).1
  exact pack.trans (by simpa [reasonsTold, packTold, scanPack_eq] using temps)

/-- The readings that the charge controller finds are those of the pack monitor's part. -/
theorem reasonsTold_readings {r : ScanReading} {s : State} (h : ScanReading.accepted r = true) :
    (reasonsTold r s).pack.tPack = (scanPack r s).pack.tPack ∧
    (reasonsTold r s).pack.dockReading = (scanPack r s).pack.dockReading ∧
    (reasonsTold r s).pack.vPack = (scanPack r s).pack.vPack ∧
    (reasonsTold r s).pack.cells.map unbled = (scanPack r s).pack.cells.map unbled := by
  have taken : (scanTaken r s).pack = (readingsTaken r s).pack := by simp [scanTaken, readingsTaken, h]
  have pack : ScanSettling (readingsTaken r s) (scanPack r s) := (handReasons_settling _).toScanSettling
  have told : ScanSettling (scanTaken r s) (reasonsTold r s) := (scanEvents_settling r s h).toScanSettling
  obtain ⟨packKept, packCells⟩ := pack.readings
  obtain ⟨toldKept, toldCells⟩ := told.readings
  rw [taken] at toldKept toldCells
  exact ⟨by rw [toldKept, packKept], by rw [toldKept, packKept], by rw [toldKept, packKept], toldCells.trans packCells.symm⟩

theorem readingsTaken_table (r : ScanReading) (s : State) : (readingsTaken r s).table = s.table := by
  unfold readingsTaken
  split <;> simp [clearScan]

theorem reasonsTold_frame (r : ScanReading) (s : State) : (reasonsTold r s).table = s.table ∧
    (reasonsTold r s).loader = s.loader ∧ (reasonsTold r s).time = s.time := by
  obtain ⟨-, -, -, -, -, -, time, loader⟩ := readingsTaken_frame r s
  simp [reasonsTold, packTold, readingsTaken_table, time, loader]

/-! ### After the charge controller's part -/

/-- The arrival of the target is a settling (R23, R60, R180). -/
theorem handDrive_targetArrived_settling (s : State) : Settling s (handDrive (targetArrived s)) :=
  allowanceComputation_settling s

/-- The computation and the arrival of its target move the switch of the charge controller alone (R23, R29, R99). -/
theorem completeScan_switchOnly (r : ScanReading) (s : State) :
    SwitchOnly (scanBefore r s).charge (completeScan r s).charge := by
  set u := scanBefore r s with hu
  have arrived : SwitchOnly u.charge (handDrive (targetArrived u)).charge := by
    have judged := switchJudge_switchOnly (targetArrived u)
    rw [(targetArrived_frame u).1] at judged
    simpa [handDrive] using judged
  have same : (handDrive (targetArrived u)).liveReasons.stopsCharge = (handDrive (targetArrived u)).hold.stopCharge := by
    have formed := (scanBefore_formed r s).2
    have hold : (handDrive (targetArrived u)).hold = u.hold := by simp [handDrive, targetArrived_frame]
    rw [(handDrive_targetArrived_settling u).toScanSettling.stopsCharge, hold, ← formed]
  have told : (completeScan r s).charge = (handReasons (handDrive (targetArrived u))).charge := by
    rw [completeScan_eq_arrived]
    simp [← hu]
  rw [told]
  exact arrived.trans (handReasons_switchOnly same)

theorem completeScan_sameDock (r : ScanReading) (s : State) : SameDock (scanBefore r s) (completeScan r s) :=
  (completeScan_switchOnly r s).sameDock (completeScan_settling r s).toScanSettling

/-! ### The charge controller's part -/

/-- A cell's class alone says that it has become HIGH (R110). -/
theorem becameHigh_eq (before after : List Cell) : becameHigh before after =
    (before.zip (after.map (·.cls))).any fun p => decide (p.1.cls ≠ .high) && decide (p.2 = .high) := by
  rw [List.zip_map_right, List.any_map]
  rfl

theorem reasonsTold_becameHigh {r : ScanReading} {s : State} (h : ScanReading.accepted r = true) :
    becameHigh s.activeCells (reasonsTold r s).activeCells = becameHigh s.activeCells (scanPack r s).activeCells := by
  obtain ⟨-, -, -, cells⟩ := reasonsTold_readings (s := s) h
  have loader : (reasonsTold r s).loader = (scanPack r s).loader := by
    obtain ⟨-, -, -, -, -, -, -, loader⟩ := readingsTaken_frame r s
    simp [reasonsTold_frame, scanPack_eq, loader]
  rw [becameHigh_eq, becameHigh_eq, map_activeCells_of_cells loader cells (·.cls) fun _ => rfl]

/-- A cell that has become HIGH stops the charge (R164, R170). -/
theorem stopCharge_of_becameHigh {s : State} {before : List Cell} (formed : Formed s)
    (high : becameHigh before s.activeCells = true) :
    s.liveReasons.cellHigh = true ∧ s.hold.stopCharge = true := by
  have stands : s.liveReasons.cellHigh = true := by
    obtain ⟨p, mem, high⟩ := List.any_eq_true.mp high
    obtain ⟨-, high⟩ := Bool.and_eq_true_iff.mp high
    exact List.any_eq_true.mpr ⟨p.2, (List.of_mem_zip mem).2, high⟩
  exact ⟨stands, by rw [formed.2]; simp [Reasons.stopsCharge, stands]⟩

/-! ### The clauses -/

/-- The state in which the charge controller reviews the window at a scan without a fault (R108). -/
def guarded (r : ScanReading) (s : State) : State := supplyGuard s.pack.scanSwitchClosed (reasonsTold r s)

/-- The dock reading says that the supply is lost (R108). -/
abbrev supplyGone (r : ScanReading) (s : State) : Prop :=
  s.pack.scanSwitchClosed = true ∧ (scanPack r s).pack.dockReading + 100 ≤ (scanPack r s).pack.vPack

theorem supplyGuard_charge (throughout : Bool) (s : State) : (supplyGuard throughout s).charge = { s.charge with
    supplyLost := s.charge.supplyLost || (throughout && decide (s.pack.dockReading + 100 ≤ s.pack.vPack)) } := by
  unfold supplyGuard
  split
  case isTrue h => simp [h]
  case isFalse h => simp [h]

section
variable {r : ScanReading} {s : State} (accepted : ScanReading.accepted r = true)
include accepted

/-- The review of a scan selects by the configuration, the window before it and the temperature taken (R94). -/
theorem guarded_selection (window : (reasonsTold r s).charge.window = s.charge.window) : selection (guarded r s) =
    reviewWindow s.cfg.windows s.charge.window (scanPack r s).pack.tPack := by
  obtain ⟨temp, -⟩ := reasonsTold_readings (s := s) accepted
  rw [selection, guarded, supplyGuard_charge]
  simp [State.cfg, reasonsTold_frame, window, temp]

/-- A scan at which no cell becomes HIGH, or at which no charge is under way, brings no charge FAULT (R110). -/
theorem scanBefore_eq_scanFrom (calm : becameHigh s.activeCells (scanPack r s).activeCells = false ∨
    ((reasonsTold r s).charge.phase.charging = false ∧ (reasonsTold r s).charge.phase ≠ .paused)) :
    scanBefore r s = publish (reasonsTold r s) (powerJudge (scanFrom (guarded r s))) := by
  have same : highFault (becameHigh s.activeCells (reasonsTold r s).activeCells) (reasonsTold r s) = reasonsTold r s := by
    rw [reasonsTold_becameHigh accepted, highFault]
    rcases calm with calm | ⟨idle, gone⟩
    · simp [calm]
    · simp [idle, gone]
  rw [scanBefore_eq_told, asEvent, scanCharge_accepted r s _ accepted, chargeScan_eq, same]
  rfl

/-- The readings of a decision from the review of the window to the end of the completion. -/
theorem completeScan_sameDock_selected (calm : becameHigh s.activeCells (scanPack r s).activeCells = false ∨
    ((reasonsTold r s).charge.phase.charging = false ∧ (reasonsTold r s).charge.phase ≠ .paused))
    (docked : (reasonsTold r s).charge.phase ≠ .undocked) :
    SameDock (selected (guarded r s)) (completeScan r s) := by
  have phase : (guarded r s).charge.phase ≠ .undocked := by rwa [guarded, supplyGuard_charge]
  have told : ∀ u, SameDock u (publish (reasonsTold r s) (powerJudge u)) := fun u =>
    ((powerJudge_settling u).toScanSettling.sameDock (by simp) (by simp)).trans (publish_sameDock _ _)
  have before := (scanFrom_sameDock phase).trans (told _)
  rw [← scanBefore_eq_scanFrom accepted calm] at before
  exact before.trans (completeScan_sameDock r s)

/-- With stop-charge clear before and after, the charge controller reviews what it had (R106). -/
theorem guarded_of_free (free : s.hold.stopCharge = false ∧ (scanPack r s).hold.stopCharge = false) :
    SwitchOnly { s.charge with supplyLost := s.charge.supplyLost || decide (supplyGone r s) } (guarded r s).charge ∧
    (guarded r s).hold.stopCharge = false ∧ becameHigh s.activeCells (scanPack r s).activeCells = false := by
  obtain ⟨before, after⟩ := free
  obtain ⟨-, dock, volts, -⟩ := reasonsTold_readings (s := s) accepted
  have moved := reasonsTold_switchOnly (r := r) (after.trans before.symm)
  refine ⟨?_, by rw [guarded]; simp [reasonsTold_stopCharge, after], ?_⟩
  · rw [guarded, supplyGuard_charge, dock, volts, moved]
    simp [SwitchOnly, supplyGone]
  · by_contra high
    obtain ⟨-, stop⟩ := stopCharge_of_becameHigh (scanPack_formed r s) (by simpa using high)
    simp [after] at stop

end

theorem completeScan_settled (r : ScanReading) (s : State) : ScanSettling (reasonsTold r s) (completeScan r s) := by
  have charge : ScanSettling (reasonsTold r s) (scanBefore r s) := by
    rw [scanBefore_eq_told]
    exact asEvent_scanSettling (scanCharge_scanSettling r s _)
  exact charge.trans (completeScan_settling r s).toScanSettling

theorem completeScan_figures (r : ScanReading) (s : State) :
    (completeScan r s).lowestCell = (guarded r s).lowestCell ∧
    (completeScan r s).highestCell = (guarded r s).highestCell ∧ (completeScan r s).ending = (guarded r s).ending := by
  have guard : ScanSettling (reasonsTold r s) (guarded r s) := (supplyGuard_settling _ _).toScanSettling
  have settled := completeScan_settled r s
  exact ⟨settled.lowestCell.trans guard.lowestCell.symm, settled.highestCell.trans guard.highestCell.symm,
    settled.ending.trans guard.ending.symm⟩

/-! #### A charge that nothing holds back -/

section
variable {r : ScanReading} {s : State} {x : ChargeWindow} (accepted : ScanReading.accepted r = true)
  (free : s.hold.stopCharge = false ∧ (scanPack r s).hold.stopCharge = false)
  (window : (reviewWindow s.cfg.windows s.charge.window (scanPack r s).pack.tPack).bind (s.cfg.windows[·]?) = some x)
  (live : x.iChg ≠ 0) (ready : s.table.dockReady = true) (strong : s.fullV x.vCell ≤ s.table.dockMaxV)
  (kept : s.charge.supplyLost = false) (responsive : s.charge.causes.unresponsive = false)
  (supplied : ¬ supplyGone r s)
include accepted free window live ready strong kept responsive supplied

theorem guarded_clear : Clear x (selected (guarded r s)) := by
  obtain ⟨charge, stop, -⟩ := guarded_of_free accepted free
  have same : (scanPack r s).hold.stopCharge = s.hold.stopCharge := free.2.trans free.1.symm
  have unmoved : (reasonsTold r s).charge.window = s.charge.window := by rw [reasonsTold_switchOnly same]
  obtain ⟨table, loader, -⟩ := reasonsTold_frame r s
  have cfg : (selected (guarded r s)).cfg = s.cfg := by simp [State.cfg, selected, guarded, loader]
  have dock : (selected (guarded r s)).table = s.table := by simp [selected, guarded, table]
  constructor
  · rw [State.window, cfg]
    simpa [selected, guarded_selection accepted unmoved] using window
  · exact live
  · rw [dock, ready]
  · rw [dock, State.fullV, cfg]
    exact strong
  · simp only [selected, onCharge_charge]
    rw [charge]
    simp [kept, supplied]
  · simp only [selected, onCharge_charge]
    rw [charge]
    exact responsive
  · exact stop

/-- The phase, the window and the ask of a charge that nothing holds back (R94, R95, R100 to R102, R105). -/
theorem completeScan_of_clear : let t := completeScan r s
    t.charge.phase = scanPhase x (guarded r s) ∧
    (s.charge.phase ≠ .undocked → t.charge.window =
      reviewWindow s.cfg.windows s.charge.window (scanPack r s).pack.tPack) ∧
    t.charge.ask.enable = t.charge.phase.charging ∧
    (t.charge.phase.charging = true → t.charge.ask.v =
      if s.charge.phase = .topoff ∧ t.charge.window = s.charge.window then s.charge.ask.v else s.fullV x.vCell) := by
  intro t
  obtain ⟨charge, -, calm⟩ := guarded_of_free accepted free
  have clear := guarded_clear accepted free window live ready strong kept responsive supplied
  have unmoved : (reasonsTold r s).charge.window = s.charge.window ∧ (reasonsTold r s).charge.phase = s.charge.phase := by
    rw [reasonsTold_switchOnly (r := r) (free.2.trans free.1.symm)]
    exact ⟨rfl, rfl⟩
  obtain ⟨windowKept, phaseKept⟩ := unmoved
  have phase : (guarded r s).charge.phase = s.charge.phase := by rw [charge]
  have found : (guarded r s).charge.window = s.charge.window := by rw [charge]
  have ask : (guarded r s).charge.ask = s.charge.ask := by rw [charge]
  have fullV : (guarded r s).fullV x.vCell = s.fullV x.vCell := by
    simp [State.fullV, State.cfg, guarded, reasonsTold_frame]
  have select := guarded_selection accepted windowKept
  have scanned : SwitchOnly (scanFrom (guarded r s)).charge t.charge := by
    have last := completeScan_switchOnly r s
    rw [scanBefore_eq_scanFrom accepted (.inl calm)] at last
    simpa using last
  have moved : t.charge.phase = scanPhase x (guarded r s) := by rw [scanned, ← scanFrom_phase clear]
  have asked : t.charge.ask = (scanFrom (guarded r s)).charge.ask := by rw [scanned]
  have windowed : s.charge.phase ≠ .undocked → t.charge.window =
      reviewWindow s.cfg.windows s.charge.window (scanPack r s).pack.tPack := fun docked => by
    have same := completeScan_sameDock_selected accepted (.inl calm) (by rwa [phaseKept])
    exact same.window.trans select
  refine ⟨moved, windowed, ?_⟩
  by_cases docked : s.charge.phase = .undocked
  · have rest : t.charge.phase = .undocked := by rw [moved, scanPhase, phase, docked]
    have idle : (scanFrom (guarded r s)).charge.ask.enable = false := by
      have concluded : (scanFrom (guarded r s)).charge.phase.charging = false := by
        rw [scanFrom_phase clear, ← moved, rest]; rfl
      rw [scanFrom, scanConclusion_phase] at concluded
      rw [scanFrom, scanConclusion_ask, askFor_of_rest concluded]; rfl
    rw [asked, idle, rest]
    simp [ChargePhase.charging]
  · obtain ⟨enabled, volts⟩ := scanFrom_ask clear (by rwa [phase])
    rw [asked, moved, windowed docked]
    refine ⟨enabled, fun charging => ?_⟩
    rw [volts charging, phase, select, found, ask, fullV]

end

end Sys2Proof.Proofs
end

section
/-! ## The clauses of the charge controller at a scan (R94 to R110)

A closed switch whose conditions stand is left closed by every handing, and with it the termination timer of TOPOFF. -/

namespace Sys2Proof.Proofs
open Sys2Proof.Machine Sys2Proof.Safety

/-! ### The fault history at an accepted scan -/

theorem scanFrom_hold (s : State) : (scanFrom s).hold = s.hold := by
  unfold scanFrom scanConclusion
  dsimp only
  split <;> simp [scanReview]

theorem reasonsTold_history (r : ScanReading) (s : State) : (reasonsTold r s).hold.history = s.hold.history := by
  have pack : (scanPack r s).hold.history = s.hold.history := by
    obtain ⟨-, -, -, -, -, hold, -⟩ := readingsTaken_frame r s
    rw [scanPack_eq, handReasons_hold, formHolds_history, hold]
  have told : (packTold r s).hold.history = s.hold.history := by simpa [packTold, scanPack_eq] using pack
  have judged : (packReasons (packTold r s)).hold.history = (packTold r s).hold.history := by
    unfold packReasons
    rfl
  unfold reasonsTold asEvent scanTemps
  split <;> simp [told, judged, handReasons_hold, formHolds_history]

/-- The history that a completion ends with is the one that the charge controller's part leaves. -/
theorem completeScan_history (r : ScanReading) (s : State) :
    (completeScan r s).hold.history = (scanBefore r s).hold.history := by
  have start : ∀ b u, (startScanEnd b u).hold = u.hold := by
    intro b u
    cases b <;> simp [startScanEnd]
  rw [completeScan_eq_arrived, start]
  simp [handReasons_hold, formHolds_history, handDrive, targetArrived_frame]

/-- A scan that brings no charge FAULT logs nothing (R110). -/
theorem completeScan_history_of_calm {r : ScanReading} {s : State} (accepted : ScanReading.accepted r = true)
    (calm : becameHigh s.activeCells (scanPack r s).activeCells = false ∨
      ((reasonsTold r s).charge.phase.charging = false ∧ (reasonsTold r s).charge.phase ≠ .paused)) :
    (completeScan r s).hold.history = s.hold.history := by
  rw [completeScan_history, scanBefore_eq_scanFrom accepted calm]
  simp [scanFrom_hold, guarded, reasonsTold_history]

/-! ### A switch that stays closed (R99) -/

/-- The charge switch is closed, and of its conditions those of the charge controller and the drive stand (R99). -/
structure Closed (s : State) : Prop where
  switch : s.charge.switch = true
  charging : s.charge.phase.charging = true
  echoed : s.charge.awaiting = false
  quiet : s.drive.state.quiet = true

theorem Easing.keeps_quiet {s t : State} (h : Easing s t) (quiet : s.drive.state.quiet = true) :
    t.drive.state.quiet = true := by
  rcases h.drive with ⟨same, -⟩ | ⟨eased, -⟩
  · rwa [same]
  · rw [eased, easedDrive_quiet]

theorem Closed.of_easing {s t : State} (h : Closed s) (easing : Easing s t) (charge : t.charge = s.charge) :
    Closed t where
  switch := by rw [charge, h.switch]
  charging := by rw [charge, h.charging]
  echoed := by rw [charge, h.echoed]
  quiet := easing.keeps_quiet h.quiet

theorem Closed.published {s : State} (h : Closed s) (s0 : State) : Closed (publish s0 s) :=
  h.of_easing (publish_easing s0 s) (by simp)

theorem Closed.judged {s : State} (h : Closed s) (free : s.hold.stopCharge = false) : switchJudge s = s :=
  switchJudge_of_wanted h.switch ((switchWanted_iff s).mpr ⟨h.charging, h.echoed, h.quiet, free⟩)

/-- With stop-charge clear before and after, a handing of reasons leaves a closed switch closed. -/
theorem Closed.handed {s : State} (h : Closed s) (free : s.hold.stopCharge = false)
    (still : s.liveReasons.stopsCharge = false) : (handReasons s).charge = s.charge ∧ Closed (handReasons s) := by
  have handed : (handReasons s).charge = s.charge := by
    have told := h.of_easing (handStopSuction_easing s) (handStopSuction_charge s)
    rw [handReasons_charge_of_same (still.trans free.symm), told.judged (by rw [handStopSuction_stopCharge, still]),
      handStopSuction_charge]
  exact ⟨handed, h.of_easing (handReasons_easing s) handed⟩

/-- With the switch closed P_allow is 0, and so is the target (R28, R32, R33). -/
theorem computed_target_of_closed {s : State} (closed : s.charge.switch = true) : s.computed.target = 0 := by
  by_contra above
  obtain ⟨-, low⟩ := computed_target_ne_zero above
  have none : s.computed.pAllow = 0 := by simp [State.computed, allowance, closed]
  have least : s.cfg.pRunMin = 0 := by
    have least := le_of_lowAfter_eq_false (c := s.cfg) (p := s.computed.pAllow) (before := s.allow.low) low
    omega
  refine above ?_
  have target : s.computed.target = newTarget s.cfg s.hold.stopSuction s.computed.low
    (wantedPower s.cfg (modeInForce s.table.activeRequest) s.dirt.level s.pack.soc s.drive.blocked) s.computed.pAllow
    s.allow.target := rfl
  rw [target, newTarget, none, slew, least]
  (repeat' split) <;> simp

/-- Before the charge controller's part a closed switch stays closed while stop-charge stays clear (R99, R170). -/
theorem Closed.told {r : ScanReading} {s : State} (h : Closed s)
    (free : s.hold.stopCharge = false ∧ (scanPack r s).hold.stopCharge = false) :
    (reasonsTold r s).charge = s.charge ∧ Closed (reasonsTold r s) := by
  obtain ⟨-, drive, -, charge, -, hold, -⟩ := readingsTaken_frame r s
  have read : Closed (readingsTaken r s) := ⟨by rw [charge, h.switch], by rw [charge, h.charging],
    by rw [charge, h.echoed], by rw [drive, h.quiet]⟩
  obtain ⟨packKept, pack⟩ := read.handed (by rw [hold, free.1]) (by rw [← scanPack_stopCharge, free.2])
  have told : Closed (packTold r s) := pack.published s
  have toldCharge : (packTold r s).charge = s.charge := by simp [packTold, packKept, charge]
  have temps : (scanTemps r (packTold r s)).charge = (packTold r s).charge ∧ Closed (scanTemps r (packTold r s)) := by
    unfold scanTemps
    split
    · have clear : (packReasons (packTold r s)).hold.stopCharge = false := by
        have kept : (packTold r s).hold.stopCharge = false := by simpa [packTold, scanPack_eq] using free.2
        rw [← kept]
        rfl
      have judged : Closed (packReasons (packTold r s)) :=
        ⟨by simpa using told.switch, by simpa using told.charging, by simpa using told.echoed, by simpa using told.quiet⟩
      have formed := (packTold_formed r s).2
      obtain ⟨kept, closed⟩ := judged.handed clear (by
        rw [← clear]
        exact formed.symm)
      exact ⟨by simpa using kept, closed⟩
    · exact ⟨rfl, told⟩
  obtain ⟨kept, closed⟩ := temps
  refine ⟨by simp [reasonsTold, kept, toldCharge], closed.published _⟩

/-- After the charge controller's part a closed switch stays closed: the target that arrives is 0 (R28, R33, R99). -/
theorem Closed.completed {r : ScanReading} {s : State} (h : Closed (scanBefore r s))
    (free : (scanBefore r s).hold.stopCharge = false) : (completeScan r s).charge = (scanBefore r s).charge := by
  set u := scanBefore r s with hu
  obtain ⟨charge, hold, -⟩ := targetArrived_frame u
  have arrived : Closed (targetArrived u) := by
    refine ⟨by rw [charge, h.switch], by rw [charge, h.charging], by rw [charge, h.echoed], ?_⟩
    have quiet : (allowanceFormed u).drive.state.quiet = true := by simpa [allowanceFormed] using h.quiet
    rw [targetArrived, allowanceFormed_allow, computed_target_of_closed h.switch, driveTarget_zero, easedDrive_quiet]
  have judged := arrived.judged (by rw [hold, free])
  have handed : Closed (handDrive (targetArrived u)) := by
    have easing := handDrive_easing (targetArrived u)
    exact arrived.of_easing easing (by simp [handDrive, judged])
  have kept : (handDrive (targetArrived u)).hold = u.hold := by simp [handDrive, hold]
  have still : (handDrive (targetArrived u)).liveReasons.stopsCharge = false := by
    rw [(handDrive_targetArrived_settling u).toScanSettling.stopsCharge, ← (scanBefore_formed r s).2, free]
  obtain ⟨told, -⟩ := handed.handed (by rw [kept, free]) still
  rw [completeScan_eq_arrived, ← hu]
  have settled : (handDrive (targetArrived u)).charge = u.charge := by simp [handDrive, judged, charge]
  simp [told, settled]

/-! ### The termination timer at a completion (R104) -/

theorem handReasons_echoed {s : State} (closed : (handReasons s).charge.switch = true) :
    (handReasons s).charge.awaiting = false := by
  have judged : ∀ u, (switchJudge u).charge.switch = true → (switchJudge u).charge.awaiting = false := by
    intro u closed
    rw [switchJudge_switch, switchWanted_iff] at closed
    rw [switchJudge_charge_eq]
    exact closed.2.1
  have handed : ∀ b u, (handStopCharge b u).charge.switch = true → (handStopCharge b u).charge.awaiting = false := by
    intro b u
    unfold handStopCharge
    split
    · exact judged u
    · exact judged _
  simp only [handReasons_eq, powerJudge_frame, railJudge_frame] at closed ⊢
  exact handed _ _ closed

/-- A completion that ends with the switch closed ends with no echo awaited (R99). -/
theorem completeScan_echoed {r : ScanReading} {s : State} (closed : (completeScan r s).charge.switch = true) :
    (completeScan r s).charge.awaiting = false := by
  have told : (completeScan r s).charge = (handReasons (handDrive (targetArrived (scanBefore r s)))).charge := by
    rw [completeScan_eq_arrived]
    simp
  rw [told] at closed ⊢
  exact handReasons_echoed closed

/-- The termination timer of a TOPOFF whose switch is closed throughout the completion (R104). -/
theorem completeScan_termination {r : ScanReading} {s : State} {x : ChargeWindow}
    (accepted : ScanReading.accepted r = true)
    (free : s.hold.stopCharge = false ∧ (scanPack r s).hold.stopCharge = false)
    (clear : Clear x (selected (guarded r s))) (topoff : s.charge.phase = .topoff) (before : s.charge.switch = true)
    (quiet : s.drive.state.quiet = true) (after : (completeScan r s).charge.switch = true) :
    (completeScan r s).charge.termination =
      if (completeScan r s).ending = true then s.charge.termination.run s.now else .zero := by
  obtain ⟨kept, stop, calm⟩ := guarded_of_free accepted free
  have phase : (guarded r s).charge.phase = .topoff := by rw [kept]; exact topoff
  have scanned := scanBefore_eq_scanFrom accepted (.inl calm)
  have moved := completeScan_switchOnly r s
  have echoed : (scanFrom (guarded r s)).charge.awaiting = false := by
    have echoed := completeScan_echoed after
    rw [moved, scanned] at echoed
    simpa using echoed
  have found : s.charge.awaiting = false := by
    have found := scanFrom_echoed clear phase echoed
    rw [kept] at found
    exact found
  obtain ⟨charge, told⟩ := Closed.told (r := r) ⟨before, by rw [topoff]; rfl, found, quiet⟩ free
  have guard := supplyGuard_charge s.pack.scanSwitchClosed (reasonsTold r s)
  have closed : (guarded r s).charge.switch = true := by rw [guarded, guard]; exact told.switch
  have still : (guarded r s).drive.state.quiet = true := by rw [guarded]; simpa using told.quiet
  have run : (guarded r s).charge.termination = s.charge.termination := by rw [guarded, guard, charge]
  have now : (guarded r s).now = s.now := by simp [State.now, guarded, reasonsTold_frame]
  obtain ⟨drive, switch, termination⟩ := scanFrom_termination clear phase closed still echoed
  have last : Closed (scanBefore r s) := by
    rw [scanned]
    refine ⟨by simpa using switch, ?_, by simpa using echoed, by simp [drive, still]⟩
    have topped : (scanFrom (guarded r s)).charge.phase = .topoff := by rw [scanFrom_phase clear, scanPhase, phase]
    simp [topped, ChargePhase.charging]
  rw [last.completed (by rw [scanned]; simp [scanFrom_hold, stop]), (completeScan_figures r s).2.2, scanned]
  simp [termination, run, now]

end Sys2Proof.Proofs
end

section
/-! ## Scans that pause, end or pass by a charge (R99, R106, R108, R110) -/

namespace Sys2Proof.Proofs
open Sys2Proof.Machine Sys2Proof.Safety

/-! ### A charge controller outside the charging phases -/

/-- Outside the charging phases, with the switch open. -/
structure Idle (c : Charge) : Prop where
  phase : c.phase.charging = false
  switch : c.switch = false

theorem switchJudge_of_idle {s : State} (h : Idle s.charge) : switchJudge s = s := by
  have off : s.switchWanted = false := by simp [State.switchWanted, h.phase]
  rw [switchJudge, if_pos (off.trans h.switch.symm)]

theorem handReasons_charge_of_idle {s : State} (h : Idle s.charge)
    (same : s.liveReasons.stopsCharge = s.hold.stopCharge) : (handReasons s).charge = s.charge := by
  rw [handReasons_charge_of_same same, switchJudge_of_idle (by simpa using h), handStopSuction_charge]

/-- What follows the charge controller's part leaves a charge controller that does not charge (R99). -/
theorem completeScan_charge_of_idle {r : ScanReading} {s : State} (h : Idle (scanBefore r s).charge) :
    (completeScan r s).charge = (scanBefore r s).charge := by
  set u := scanBefore r s with hu
  obtain ⟨charge, hold, -⟩ := targetArrived_frame u
  have judged := switchJudge_of_idle (s := targetArrived u) (by rwa [charge])
  have kept : (handDrive (targetArrived u)).charge = u.charge := by simp [handDrive, judged, charge]
  have same : (handDrive (targetArrived u)).liveReasons.stopsCharge = (handDrive (targetArrived u)).hold.stopCharge := by
    have still : (handDrive (targetArrived u)).hold = u.hold := by simp [handDrive, hold]
    rw [(handDrive_targetArrived_settling u).toScanSettling.stopsCharge, still, ← (scanBefore_formed r s).2]
  have told := handReasons_charge_of_idle (by rwa [kept]) same
  rw [completeScan_eq_arrived, ← hu]
  simp [told, kept]

/-! ### A charge that pauses (R94, R106, R108) -/

theorem causesNow_temp (s : State) : s.causesNow.temp = s.window.all (·.iChg = 0) := by
  unfold State.causesNow State.liveWindow
  cases s.window with
  | none => rfl
  | some w => by_cases dead : w.iChg = 0 <;> simp [dead]

theorem causesNow_any_of_temp {s : State} (h : s.causesNow.temp = true) : s.causesNow.any = true := by
  simp [Causes.any, h]

theorem causesNow_any_of_notReady {s : State} (h : s.causesNow.notReady = true) : s.causesNow.any = true := by
  simp [Causes.any, h]

section
variable {r : ScanReading} {s : State} (accepted : ScanReading.accepted r = true)
  (free : s.hold.stopCharge = false ∧ (scanPack r s).hold.stopCharge = false)
include accepted free

/-- The causes that the review of a scan finds, as far as the window and the supply make them. -/
theorem guarded_causes : (selected (guarded r s)).causesNow.temp =
      ((reviewWindow s.cfg.windows s.charge.window (scanPack r s).pack.tPack).bind (s.cfg.windows[·]?)).all
        (·.iChg = 0) ∧
    (selected (guarded r s)).causesNow.notReady =
      (!s.table.dockReady || (s.charge.supplyLost || decide (supplyGone r s))) := by
  obtain ⟨kept, -⟩ := guarded_of_free accepted free
  have unmoved : (reasonsTold r s).charge.window = s.charge.window := by
    rw [reasonsTold_switchOnly (r := r) (free.2.trans free.1.symm)]
  obtain ⟨table, loader, -⟩ := reasonsTold_frame r s
  have cfg : (selected (guarded r s)).cfg = s.cfg := by simp [State.cfg, selected, guarded, loader]
  have dock : (selected (guarded r s)).table = s.table := by simp [selected, guarded, table]
  have lost : (selected (guarded r s)).charge.supplyLost = (s.charge.supplyLost || decide (supplyGone r s)) := by
    have lost : (selected (guarded r s)).charge.supplyLost = (guarded r s).charge.supplyLost := rfl
    rw [lost, kept]
  constructor
  · rw [causesNow_temp, State.window, cfg]
    simp [selected, guarded_selection accepted unmoved]
  · rw [State.causesNow, dock, lost]

theorem completeScan_of_cause (charging : s.charge.phase.charging = true)
    (cause : (selected (guarded r s)).causesNow.any = true) : let t := completeScan r s
    t.charge.phase = .paused ∧ t.charge.ask = .disabled ∧ t.charge.switch = false ∧ t.charge.regTimer = none ∧
    t.charge.echoTimer = none ∧ t.charge.resendTimer = none ∧ t.charge.termination = .zero ∧
    t.charge.supplyLost = (s.charge.supplyLost || decide (supplyGone r s)) ∧
    t.charge.causes = (selected (guarded r s)).causesNow ∧ t.hold.history = s.hold.history := by
  obtain ⟨kept, -, calm⟩ := guarded_of_free accepted free
  have phase : (guarded r s).charge.phase = s.charge.phase := by rw [kept]
  have scanned := scanBefore_eq_scanFrom accepted (.inl calm)
  obtain ⟨paused, causes, ask, switch, regTimer, echoTimer, resendTimer, termination⟩ :=
    scanFrom_of_cause (s := guarded r s) (by rw [phase, charging]) cause
  have charge : (scanBefore r s).charge = (scanFrom (guarded r s)).charge := by rw [scanned]; simp
  have last := completeScan_charge_of_idle (r := r) (s := s) (by rw [charge]; exact ⟨by rw [paused]; rfl, switch⟩)
  have lost : (completeScan r s).charge.supplyLost = (s.charge.supplyLost || decide (supplyGone r s)) := by
    have docked : (guarded r s).charge.phase ≠ .undocked := docked_of_charging (by rw [phase, charging])
    have same := scanFrom_sameDock docked
    have kept : (selected (guarded r s)).charge.supplyLost = (s.charge.supplyLost || decide (supplyGone r s)) := by
      have lost : (selected (guarded r s)).charge.supplyLost = (guarded r s).charge.supplyLost := rfl
      rw [lost, kept]
    rw [last, charge, same.supplyLost, kept]
  refine ⟨?_, ?_, ?_, ?_, ?_, ?_, ?_, lost, ?_, completeScan_history_of_calm accepted (.inl calm)⟩ <;>
    rw [last, charge] <;> assumption

end

/-! ### UNDOCKED and FAULT stay (R91, R110) -/

/-- UNDOCKED and FAULT, which no review and no test of a scan leaves. -/
def Fixed (p : ChargePhase) : Prop := p = .undocked ∨ p = .fault

theorem Fixed.not_charging {p : ChargePhase} (h : Fixed p) : p.charging = false := by
  rcases h with h | h <;> rw [h] <;> rfl

theorem Fixed.ended {p : ChargePhase} (h : Fixed p) : p = .done ∨ p = .fault ∨ p = .undocked := by
  rcases h with h | h <;> simp [h]

theorem Fixed.not_paused {p : ChargePhase} (h : Fixed p) : p ≠ .paused := by
  rcases h with h | h <;> simp [h]

/-- The charge controller's part of a scan leaves UNDOCKED and FAULT as they are, ask disabled and switch open. -/
theorem scanFrom_of_fixed {s : State} (h : Fixed s.charge.phase) : (scanFrom s).charge.phase = s.charge.phase ∧
    (scanFrom s).charge.ask = .disabled ∧ (scanFrom s).charge.switch = false := by
  have review := scanReview_of_ended h.ended
  have progress : (scanProgress s.charge.phase (scanReview s)).charge.phase = s.charge.phase := by
    rw [scanProgress, if_pos review, phaseProgress, review]
    rcases h with h | h <;> rw [h] <;> simp [review, h]
  have topoff : s.charge.phase ≠ .topoff := by rcases h with h | h <;> simp [h]
  refine ⟨by rw [scanFrom, scanConclusion_phase, progress], ?_, ?_⟩
  · rw [scanFrom, scanConclusion_ask, askFor_of_rest (by rw [progress, h.not_charging])]
  · rw [scanFrom, scanConclusion_of_ne_topoff (by rw [progress]; exact topoff), switchJudge_switch, State.switchWanted,
      refreshAsk_phase, progress, h.not_charging]
    rfl

theorem handReasons_of_fixed {s : State} (h : Fixed s.charge.phase) :
    (handReasons s).charge.phase = s.charge.phase := by
  have handed : ∀ b u, u.charge.phase = s.charge.phase → (handStopCharge b u).charge.phase = s.charge.phase := by
    intro b u same
    unfold handStopCharge
    split
    · rw [switchJudge_phase, same]
    · rw [chargeSettle_phase, chargeReview_of_ended (by rw [same]; exact h.ended), same]
  simpa [handReasons_eq] using handed s.hold.stopCharge (handStopSuction s) (by simp)

theorem reasonsTold_of_fixed {s : State} (r : ScanReading) (h : Fixed s.charge.phase) :
    (reasonsTold r s).charge.phase = s.charge.phase ∧ (reasonsTold r s).charge.window = s.charge.window := by
  obtain ⟨-, -, -, charge, -⟩ := readingsTaken_frame r s
  have pack : (packTold r s).charge.phase = s.charge.phase := by
    simpa [packTold, charge] using handReasons_of_fixed (s := readingsTaken r s) (by rwa [charge])
  have packWindow : (packTold r s).charge.window = s.charge.window := by
    simpa [packTold, charge] using (handReasons_sameDock (readingsTaken r s)).window
  have temps : (scanTemps r (packTold r s)).charge.phase = s.charge.phase ∧
      (scanTemps r (packTold r s)).charge.window = s.charge.window := by
    unfold scanTemps
    split
    · have handed := handReasons_of_fixed (s := packReasons (packTold r s)) (by simpa [pack] using h)
      have window := (handReasons_sameDock (packReasons (packTold r s))).window
      exact ⟨by simpa [pack] using handed, by simpa [packWindow] using window⟩
    · exact ⟨pack, packWindow⟩
  simpa [reasonsTold] using temps

theorem completeScan_of_fixed {r : ScanReading} {s : State} (accepted : ScanReading.accepted r = true)
    (h : Fixed s.charge.phase) : let t := completeScan r s
    t.charge.phase = s.charge.phase ∧ t.charge.ask = .disabled ∧ t.charge.switch = false ∧
    (s.charge.phase = .fault →
      t.charge.window = reviewWindow s.cfg.windows s.charge.window (scanPack r s).pack.tPack) := by
  obtain ⟨phase, window⟩ := reasonsTold_of_fixed r h
  have calm : becameHigh s.activeCells (scanPack r s).activeCells = false ∨
      ((reasonsTold r s).charge.phase.charging = false ∧ (reasonsTold r s).charge.phase ≠ .paused) :=
    .inr ⟨by rw [phase, h.not_charging], by rw [phase]; exact h.not_paused⟩
  have same : (guarded r s).charge.phase = s.charge.phase := by rw [guarded, supplyGuard_phase, phase]
  obtain ⟨stays, ask, switch⟩ := scanFrom_of_fixed (s := guarded r s) (by rwa [same])
  have charge : (scanBefore r s).charge = (scanFrom (guarded r s)).charge := by
    rw [scanBefore_eq_scanFrom accepted calm]
    simp
  have last := completeScan_charge_of_idle (r := r) (s := s)
    (by rw [charge]; exact ⟨by rw [stays, same, h.not_charging], switch⟩)
  refine ⟨by rw [last, charge, stays, same], by rw [last, charge, ask], by rw [last, charge, switch], fun fault => ?_⟩
  have reviewed := completeScan_sameDock_selected accepted calm (by rw [phase, fault]; simp)
  exact reviewed.window.trans (guarded_selection accepted window)

/-! ### A cell that becomes HIGH (R110) -/

/-- A flag that stands goes on standing (R142). -/
def FlagsStand (s t : State) : Prop := ∀ f, Raised f s → Raised f t

theorem publish_flags (s0 s : State) : FlagsStand s (publish s0 s) := by
  obtain ⟨-, -, -, -, -, -, -, -, -, -, -, flags⟩ := publish_told s0 s
  exact fun f h => Raised.told h flags

theorem FlagsStand.of_report {s t : State} (h : t.report = s.report) : FlagsStand s t :=
  fun f stands => Raised.told stands (.inl (by rw [h]))

theorem FlagsStand.trans {s t u : State} (a : FlagsStand s t) (b : FlagsStand t u) : FlagsStand s u :=
  fun f h => b f (a f h)

theorem completeScan_flags (r : ScanReading) (s : State) : FlagsStand (scanBefore r s) (completeScan r s) := by
  have start : ∀ b u, (startScanEnd b u).report = u.report := by
    intro b u
    cases b
    · rfl
    · simp only [startScanEnd, if_true, endStartScan]
      split <;> simp
  have handed : (handReasons (handDrive (targetArrived (scanBefore r s)))).report = (scanBefore r s).report := by
    simp [handDrive, targetArrived, allowanceFormed]
  rw [completeScan_eq_arrived]
  exact ((FlagsStand.of_report handed).trans (publish_flags _ _)).trans (.of_report (start _ _))

theorem completeScan_cellHigh (r : ScanReading) (s : State) :
    (completeScan r s).hold.reasons.cellHigh = (completeScan r s).liveReasons.cellHigh := by
  have settled : ScanSettling (handDrive (targetArrived (scanBefore r s))) (completeScan r s) := by
    rw [completeScan_eq_arrived]
    exact (((handReasons_settling _).publish _).trans (startScanEnd_settling _ _)).toScanSettling
  have live := settled.any_activeCells (fun c => decide (c.cls = .high)) fun _ => rfl
  have formed : (completeScan r s).hold.reasons = (handDrive (targetArrived (scanBefore r s))).liveReasons := by
    rw [completeScan_eq_arrived]
    simp [handReasons_hold, formHolds_reasons]
  rw [formed]
  exact live.symm

/-- Where stop-charge has risen, a charge under way is paused for it before the charge controller's part (R106). -/
theorem reasonsTold_of_stopped {r : ScanReading} {s : State}
    (docked : s.charge.phase.charging = true ∨ s.charge.phase = .paused)
    (stop : (scanPack r s).hold.stopCharge = true) :
    (reasonsTold r s).charge.phase.charging = true ∨ (reasonsTold r s).charge.phase = .paused := by
  by_cases before : s.hold.stopCharge = true
  · rw [reasonsTold_switchOnly (r := r) (stop.trans before.symm)]
    exact docked
  · obtain ⟨-, -, -, charge, -, hold, -⟩ := readingsTaken_frame r s
    have told : (handStopSuction (readingsTaken r s)).charge = s.charge := by simp [charge]
    have held : (handStopSuction (readingsTaken r s)).hold.stopCharge = true := by
      rw [handStopSuction_stopCharge, ← scanPack_stopCharge, stop]
    have pack : (packTold r s).charge.phase = .paused := by
      have moved : (scanPack r s).charge.phase = .paused := by
        rw [scanPack_eq, handReasons_phase_of_changed (by rw [← scanPack_stopCharge, hold, stop]; simpa using before)]
        exact chargeReview_of_cause (by rwa [told]) (causesNow_hindered (by rw [hindered, held]; rfl))
      simpa [packTold, scanPack_eq] using moved
    have temps := (scanTemps_switchOnly r (packTold_formed r s)).1
    right
    have kept : (reasonsTold r s).charge = (scanTemps r (packTold r s)).charge := by simp [reasonsTold]
    rw [kept, temps, pack]

/-- The end of the charge that a cell's HIGH brings at a scan (R110). -/
theorem scanBefore_of_high {r : ScanReading} {s : State} (accepted : ScanReading.accepted r = true)
    (high : becameHigh s.activeCells (scanPack r s).activeCells = true)
    (docked : s.charge.phase.charging = true ∨ s.charge.phase = .paused) : let u := scanBefore r s
    u.charge.phase = .fault ∧ Raised .chargeFault u ∧ u.charge.ask = .disabled ∧ u.charge.switch = false ∧
    (u.hold.history.head?.map (·.kind)) = some .cellHigh ∧ u.hold.history.tail = s.hold.history.take 7 := by
  obtain ⟨-, stop⟩ := stopCharge_of_becameHigh (scanPack_formed r s) high
  have under := reasonsTold_of_stopped docked stop
  set v := supplyGuard s.pack.scanSwitchClosed (chargeFault .cellHigh (reasonsTold r s)) with hv
  have fault : highFault (becameHigh s.activeCells (reasonsTold r s).activeCells) (reasonsTold r s) =
      chargeFault .cellHigh (reasonsTold r s) := by
    rw [reasonsTold_becameHigh accepted, high, highFault]
    rcases under with under | under <;> simp [under]
  have scanned : scanBefore r s = publish (reasonsTold r s) (powerJudge (scanFrom v)) := by
    rw [scanBefore_eq_told, asEvent, scanCharge_accepted r s _ accepted, chargeScan_eq, fault]
  have phase : v.charge.phase = .fault := by rw [hv, supplyGuard_phase, chargeFault_phase]
  obtain ⟨stays, ask, switch⟩ := scanFrom_of_fixed (s := v) (.inr phase)
  have logged : (scanBefore r s).hold.history = (chargeFault .cellHigh (reasonsTold r s)).hold.history := by
    rw [scanned]
    simp [scanFrom_hold, hv]
  have raised : Raised .chargeFault v := by
    have raised : Raised .chargeFault (chargeFault .cellHigh (reasonsTold r s)) :=
      raise_raised .chargeFault (endCharge .fault (reasonsTold r s))
    have guard : ∀ b u, (supplyGuard b u).report = u.report := by
      intro b u
      unfold supplyGuard
      split <;> simp
    exact FlagsStand.of_report (guard _ _) _ raised
  have flags : FlagsStand v (scanBefore r s) := by
    have report : (powerJudge (scanFrom v)).report = v.report := by
      have conclusion : ∀ p u, (scanConclusion p u).report = u.report := by
        intro p u
        unfold scanConclusion
        dsimp only
        split <;> simp
      have progress : ∀ p u, (scanProgress p u).report = u.report := by
        intro p u
        unfold scanProgress
        split <;> simp
      simp [scanFrom, conclusion, progress, scanReview]
    rw [scanned]
    exact (FlagsStand.of_report report).trans (publish_flags _ _)
  refine ⟨by rw [scanned]; simp [stays, phase], flags _ raised, by rw [scanned]; simp [ask],
    by rw [scanned]; simp [switch], ?_, ?_⟩ <;>
    rw [logged] <;> simp [chargeFault_eq, pushHistory, endCharge_frame, reasonsTold_history]

theorem completeScan_of_high {r : ScanReading} {s : State} (accepted : ScanReading.accepted r = true)
    (high : becameHigh s.activeCells (scanPack r s).activeCells = true)
    (docked : s.charge.phase.charging = true ∨ s.charge.phase = .paused) : let t := completeScan r s
    t.charge.phase = .fault ∧ Raised .chargeFault t ∧ t.charge.ask = .disabled ∧ t.charge.switch = false ∧
    (t.hold.history.head?.map (·.kind)) = some .cellHigh ∧ t.hold.history.tail = s.hold.history.take 7 ∧
    t.hold.reasons.cellHigh = true ∧ t.hold.stopCharge = true := by
  obtain ⟨phase, raised, ask, switch, kind, tail⟩ := scanBefore_of_high accepted high docked
  have last := completeScan_charge_of_idle (r := r) (s := s) ⟨by rw [phase]; rfl, switch⟩
  have history := completeScan_history r s
  have stands : becameHigh s.activeCells (completeScan r s).activeCells = true := by
    rw [becameHigh_eq, (completeScan_settled r s).map_activeCells (·.cls) fun _ => rfl, ← becameHigh_eq,
      reasonsTold_becameHigh accepted, high]
  obtain ⟨live, stop⟩ := stopCharge_of_becameHigh (completeScan_formed r s) stands
  exact ⟨by rw [last, phase], completeScan_flags r s _ raised, by rw [last, ask], by rw [last, switch],
    by rw [history, kind], by rw [history, tail], by rw [completeScan_cellHigh, live], stop⟩

/-! ### A rejected scan (R3) -/

theorem completeScan_of_rejected {r : ScanReading} {s : State} (rejected : ScanReading.accepted r = false)
    (same : (scanPack r s).hold.stopCharge = s.hold.stopCharge) : SwitchOnly s.charge (completeScan r s).charge := by
  have scanned : (scanBefore r s).charge = (reasonsTold r s).charge := by
    simp [scanBefore_eq_told, asEvent, scanCharge, rejected]
  have told := reasonsTold_switchOnly same
  have last := completeScan_switchOnly r s
  rw [scanned] at last
  exact told.trans last

end Sys2Proof.Proofs
end

section
/-! ## What a scan makes of a charge (R94 to R110) -/

namespace Sys2Proof.Proofs
open Sys2Proof.Machine Sys2Proof.Safety

/-- The review keeps a window whose range holds the temperature within 2 degrees, else selects afresh (R94). -/
theorem reviewWindow_eq (ws : List ChargeWindow) (k : Option Nat) (temp : Int) : reviewWindow ws k temp =
    if (k.bind (ws[·]?)).any (fun y => decide (y.tLo - 2 ≤ temp) && decide (temp ≤ y.tHi + 2)) = true then k
    else ws.findIdx? fun y => y.enabled && decide (y.tLo ≤ temp) && decide (temp ≤ y.tHi) := by
  have first : firstWindow ws temp =
      ws.findIdx? fun y => y.enabled && decide (y.tLo ≤ temp) && decide (temp ≤ y.tHi) := by
    simp only [firstWindow, inRange, Bool.and_assoc]
  unfold reviewWindow
  rw [first]
  cases k.bind (ws[·]?) with
  | none => rfl
  | some w => rfl

/-- The causes of a pause that a scan makes: a dead window, a dock that is not ready, or a lost supply (R94, R106, R108). -/
theorem guarded_cause {r : ScanReading} {s : State} (accepted : ScanReading.accepted r = true)
    (free : s.hold.stopCharge = false ∧ (scanPack r s).hold.stopCharge = false)
    (cause : ((reviewWindow s.cfg.windows s.charge.window (scanPack r s).pack.tPack).bind (s.cfg.windows[·]?)).all
      (·.iChg = 0) = true ∨ s.table.dockReady = false ∨ supplyGone r s) :
    (selected (guarded r s)).causesNow.any = true := by
  obtain ⟨temp, notReady⟩ := guarded_causes accepted free
  rcases cause with dead | away | gone
  · exact causesNow_any_of_temp (by rw [temp, dead])
  · exact causesNow_any_of_notReady (by rw [notReady, away]; rfl)
  · exact causesNow_any_of_notReady (by rw [notReady]; simp [gone])

/-- Settles O41: with the window that the review selects, either nothing holds the charge back (`Clear`) and the test of
its phase decides, or a cause pauses it; the target that follows finds the switch closed and is 0, or it moves nothing. -/
theorem chargeControllerAtScan : Obligations.ChargeControllerAtScan := by
  intro s r ws k temp x
  refine ⟨reviewWindow_eq ws k temp, fun scanning range free window live ready strong kept responsive supplied => ?_,
    fun scanning range free charging cause => ?_, fun scanning range high docked => ?_, fun scanning range fixed => ?_,
    fun scanning range same => ?_⟩ <;> refine scanCompletion_answers scanning ?_
  · have accepted := accepted_of_range range
    obtain ⟨charge, -, calm⟩ := guarded_of_free accepted free
    have clear := guarded_clear accepted free window live ready strong kept responsive supplied
    obtain ⟨phase, windowed, enabled, volts⟩ :=
      completeScan_of_clear accepted free window live ready strong kept responsive supplied
    have cfg : (completeScan r s).cfg = s.cfg := by
      obtain ⟨-, loader, -⟩ := reasonsTold_frame r s
      rw [(completeScan_settled r s).cfg, State.cfg, loader]
      rfl
    intro begun moved
    have found : (guarded r s).charge.phase = s.charge.phase := by rw [charge]
    obtain ⟨lowest, highest, -⟩ := completeScan_figures r s
    have decided : (completeScan r s).charge.phase = moved := by
      simp only [phase, scanPhase, beginning, found, ← lowest, ← highest, moved]
      cases s.charge.phase <;> rfl
    rw [← decided]
    refine ⟨rfl, windowed, enabled, volts, fun topoff closed quiet after => ?_,
      completeScan_history_of_calm accepted (.inl calm)⟩
    rw [completeScan_termination accepted free clear topoff closed quiet after]
    simp [State.ending, cfg]
  · have accepted := accepted_of_range range
    obtain ⟨temp, notReady⟩ := guarded_causes accepted free
    obtain ⟨phase, ask, switch, regTimer, echoTimer, resendTimer, termination, lost, causes, history⟩ :=
      completeScan_of_cause accepted free charging (guarded_cause accepted free cause)
    exact ⟨phase, ask, switch, regTimer, echoTimer, resendTimer, termination, lost, by rw [causes, temp],
      by rw [causes, notReady, lost], history⟩
  · exact completeScan_of_high (accepted_of_range range) high docked
  · obtain ⟨phase, ask, switch, window⟩ := completeScan_of_fixed (accepted_of_range range) fixed
    exact ⟨phase, by rw [ask]; rfl, switch, window⟩
  · have rejected : ScanReading.accepted r = false := by
      simp only [ScanReading.accepted, Bool.and_eq_false_iff, decide_eq_false_iff_not]
      omega
    rw [completeScan_of_rejected rejected same]
    exact ⟨rfl, rfl, rfl, rfl⟩

end Sys2Proof.Proofs
end

section
/-! ## The receive queue and what a change of the table sets off (R120, R156)

No block reads the receive queue but the handling itself, so that what the table sets off is the same whether the oldest
notice has left the queue or not. -/

namespace Sys2Proof.Proofs
open Sys2Proof.Machine Sys2Proof.Safety

/-- An operation that the receive queue is nothing to. -/
def Queueless (f : State → State) : Prop := ∀ s, f (dropOldest s) = dropOldest (f s)

theorem Queueless.comp {f g : State → State} (hf : Queueless f) (hg : Queueless g) : Queueless fun s => f (g s) :=
  fun s => by dsimp only; rw [hg s, hf]

theorem Queueless.ite {c : State → Prop} [∀ s, Decidable (c s)] (hc : ∀ s, c (dropOldest s) ↔ c s)
    {f g : State → State} (hf : Queueless f) (hg : Queueless g) : Queueless fun s => if c s then f s else g s := by
  intro s
  dsimp only
  by_cases h : c s
  · rw [if_pos h, if_pos ((hc s).mpr h), hf]
  · rw [if_neg h, if_neg (fun k => h ((hc s).mp k)), hg]

theorem queueless_id : Queueless fun s => s := fun _ => rfl

/-! ### The drive -/

theorem quietDrive_queueless (st : DriveState) : Queueless (quietDrive st) :=
  Queueless.comp (f := fun s => s.onDrive (·.quieted st)) (fun _ => rfl)
    (.ite (fun _ => .rfl) (fun _ => rfl) queueless_id)

theorem enterCoast_queueless (b : Bool) : Queueless (enterCoast b) := by
  intro s
  rw [enterCoast, quietDrive_queueless]
  rfl

theorem enterStopped_queueless : Queueless enterStopped := by
  intro s
  unfold enterStopped
  rw [quietDrive_queueless]
  exact Queueless.ite (c := fun u => u.drive.target = 0) (fun _ => .rfl) queueless_id (g := startRun) (fun _ => rfl) _

theorem driveTarget_queueless (w : Nat) : Queueless (driveTarget w) := by
  intro s
  have coasts := Queueless.ite (c := fun _ => w = 0) (fun _ => .rfl) (enterCoast_queueless false) queueless_id
    (s.onDrive fun d => { d with target := w })
  have starts := Queueless.ite (c := fun _ => w = 0) (fun _ => .rfl) queueless_id (g := startRun) (fun _ => rfl)
    (s.onDrive fun d => { d with target := w })
  have rests := Queueless.ite (c := fun _ => w = 0) (fun _ => .rfl)
    (f := fun u => u.onDrive fun d => { d with restart := false }) (fun _ => rfl) queueless_id
    (s.onDrive fun d => { d with target := w })
  have same : (dropOldest s).drive.state = s.drive.state := rfl
  unfold driveTarget
  dsimp only [onDrive_drive]
  rw [same]
  cases s.drive.state
  · exact starts
  · exact coasts
  · exact coasts
  · exact coasts
  · exact rests
  · rfl

theorem zeroTarget_queueless : Queueless zeroTarget := by
  intro s
  rw [zeroTarget, zeroTarget, ← driveTarget_queueless]
  rfl

/-! ### The charge controller -/

theorem switchJudge_queueless : Queueless switchJudge := by
  have closes : Queueless switchClosed := by
    intro s
    exact Queueless.ite (c := fun u => u.allow.target = 0) (fun _ => .rfl) queueless_id zeroTarget_queueless
      (s.onAllow fun a => { a with pAllow := 0 })
  refine .ite (fun _ => .rfl) queueless_id (.ite (fun _ => .rfl) ?_ fun _ => rfl)
  exact Queueless.comp closes (g := fun u =>
    (u.onPack fun p => { p with scanSwitchClosed := false }).onCharge fun c => { c with switch := true }) fun _ => rfl

theorem refreshAsk_queueless : Queueless refreshAsk := fun s =>
  Queueless.ite (c := fun u => u.askFor u.charge.ask.v = u.charge.ask) (fun _ => .rfl) queueless_id
    (g := fun u => (putSlot .ask (u.askFor u.charge.ask.v).payload u).onCharge fun c =>
      { c with
        ask := u.askFor u.charge.ask.v
        awaiting := true
        resendTimer := if c.phase.charging then some (u.now + ms 500) else none
        echoTimer := if c.phase.charging then some (u.now + sec 3) else none }) (fun _ => rfl) s

theorem enterPhase_queueless (ph : ChargePhase) : Queueless (enterPhase ph) := by
  intro s
  unfold enterPhase
  dsimp only
  split <;> rfl

theorem enterPaused_queueless (cs : State → Causes) (same : ∀ s, cs (dropOldest s) = cs s) :
    Queueless fun s => enterPaused (cs s) s := by
  intro s
  dsimp only
  rw [enterPaused, enterPaused, same, enterPhase_queueless]
  rfl

theorem waitingDecision_queueless : Queueless waitingDecision :=
  .ite (fun _ => .rfl) queueless_id (.ite (fun _ => .rfl) (enterPaused_queueless State.waitingCauses fun _ => rfl)
    (.ite (fun _ => .rfl) (enterPhase_queueless _) (enterPhase_queueless _)))

theorem chargeReview_queueless : Queueless chargeReview := by
  intro s
  have pauses := Queueless.ite (c := fun u => u.causesNow.any = true) (fun _ => .rfl)
    (enterPaused_queueless State.causesNow fun _ => rfl) queueless_id s
  have resumes := Queueless.ite (c := fun u => u.causesNow.any = true) (fun _ => .rfl)
    (f := fun u => u.onCharge fun c => { c with causes := u.causesNow }) (fun _ => rfl)
    (waitingDecision_queueless.comp (enterPhase_queueless .waiting)) s
  have same : (dropOldest s).charge.phase = s.charge.phase := rfl
  unfold chargeReview
  rw [same]
  cases s.charge.phase
  case precharge => exact pauses
  case bulk => exact pauses
  case topoff => exact pauses
  case paused => exact resumes
  case waiting => exact waitingDecision_queueless s
  all_goals rfl

theorem chargeSettle_queueless : Queueless chargeSettle :=
  switchJudge_queueless.comp (refreshAsk_queueless.comp chargeReview_queueless)

/-! ### The hold unit, and the table -/

theorem powerJudge_queueless : Queueless powerJudge := by
  have awake : Queueless fun s => enterAwakeOrDoze s.keptAwake s :=
    Queueless.ite (c := fun s => s.keptAwake = true) (fun _ => .rfl)
      (.ite (fun _ => .rfl) queueless_id fun _ => rfl) fun _ => rfl
  exact .ite (fun _ => .rfl) (Queueless.comp (f := powerTimers) (fun _ => rfl) awake) queueless_id

theorem handCharge_queueless : Queueless handCharge := powerJudge_queueless.comp chargeSettle_queueless

theorem handReasons_queueless : Queueless handReasons := by
  have suction : Queueless handStopSuction :=
    Queueless.ite (c := fun s => ((formHolds s).hold.stopSuction && !s.hold.stopSuction) = true) (fun _ => .rfl)
      (zeroTarget_queueless.comp (g := formHolds) fun _ => rfl) (g := formHolds) fun _ => rfl
  have charge : ∀ b, Queueless (handStopCharge b) := fun b =>
    .ite (c := fun s => s.hold.stopCharge = b) (fun _ => .rfl) switchJudge_queueless chargeSettle_queueless
  intro s
  rw [handReasons_eq, handReasons_eq, suction, charge]
  exact powerJudge_queueless.comp (g := railJudge) (fun _ => rfl) _

theorem latchTest_queueless : Queueless latchTest := by
  have leaves : Queueless leaveFault :=
    .ite (c := fun s => s.drive.state = .fault) (fun _ => .rfl) enterStopped_queueless queueless_id
  refine .ite (fun _ => .rfl) ?_ queueless_id
  exact (handReasons_queueless.comp (g := fun u => u.onHold fun h =>
    { h with reasons := { h.reasons with driveFault := false } }) fun _ => rfl).comp leaves

theorem handTable_queueless (t0 : Table) : Queueless (handTable t0) := by
  have wishes : Queueless fun s => if s.table.wish = t0.wish then s else latchTest s :=
    .ite (fun _ => .rfl) queueless_id latchTest_queueless
  have holds : Queueless fun u =>
      if u.table.heardUnion u.cfg.holdStations = u.hold.heard then u else handReasons u :=
    .ite (fun _ => .rfl) queueless_id handReasons_queueless
  have told : Queueless fun u => if tellsDock t0.dockRecord u.table.dockRecord = true then handCharge u else powerJudge u :=
    .ite (fun _ => .rfl) handCharge_queueless powerJudge_queueless
  exact told.comp (holds.comp wishes)

theorem setTable_queueless (tb : Table) : Queueless (setTable tb) := fun s =>
  handTable_queueless s.table (s.onTable fun _ => tb)

/-- The eviction is the same with the notice in the queue and out of it. -/
theorem evict_dropOldest (n : Notice) (s : State) : let e := evict n (dropOldest s)
    e.table = (evict n s).table ∧ e.charge = (evict n s).charge ∧ e.hold = (evict n s).hold ∧
    e.drive = (evict n s).drive ∧ e.pack = (evict n s).pack := by
  have same : (dropOldest s).table.evicts n = s.table.evicts n := rfl
  unfold evict
  rw [same]
  split
  case h_1 old _ =>
    have told : setTable ((dropOldest s).table.remove old.station) (dropOldest s) =
        dropOldest (setTable (s.table.remove old.station) s) := setTable_queueless _ s
    simp only [asEvent, told, publish_frame]
    exact ⟨rfl, rfl, rfl, rfl, rfl⟩
  case h_2 => exact ⟨rfl, rfl, rfl, rfl, rfl⟩

end Sys2Proof.Proofs
end

section
/-! ## What a handed change leaves, and what a notice enters (R120, R156, R170) -/

namespace Sys2Proof.Proofs
open Sys2Proof.Machine Sys2Proof.Safety

/-! ### Dirt sensing where the drive may have left RUN (R68) -/

/-- RUN is not entered, and dirt sensing is as it was, or as the end of RUN leaves it; the samples aside. -/
structure RunClosed (s t : State) : Prop where
  state : t.drive.state = .run → s.drive.state = .run
  dirt : t.dirt = { (if s.drive.state = .run ∧ t.drive.state ≠ .run then s.dirt.closeRun else s.dirt) with
    samples := t.dirt.samples }

theorem RunClosed.trans {s t u : State} (a : RunClosed s t) (b : RunClosed t u) : RunClosed s u where
  state run := a.state (b.state run)
  dirt := by
    have first := a.dirt
    have second := b.dirt
    by_cases before : s.drive.state = .run
    · by_cases between : t.drive.state = .run
      · rw [if_neg (by simp [between])] at first
        simp only [between, before, true_and] at second ⊢
        rw [second, first]
        split <;> rfl
      · have after : u.drive.state ≠ .run := fun run => between (b.state run)
        rw [if_pos ⟨before, between⟩] at first
        rw [if_neg (by simp [between])] at second
        rw [if_pos ⟨before, after⟩, second, first]
    · have between : t.drive.state ≠ .run := fun run => before (a.state run)
      rw [if_neg (by simp [before])] at first
      rw [if_neg (by simp [between])] at second
      rw [if_neg (by simp [before]), second, first]

theorem RunClosed.of_kept {s t : State} (state : t.drive.state = s.drive.state)
    (dirt : t.dirt = { s.dirt with samples := t.dirt.samples }) : RunClosed s t where
  state run := by rwa [state] at run
  dirt := by rw [if_neg (by simp [state])]; exact dirt

theorem RunClosed.of_closed {s t : State} (state : t.drive.state ≠ .run)
    (dirt : t.dirt = if s.drive.state = .run then s.dirt.closeRun else s.dirt) : RunClosed s t where
  state run := absurd run state
  dirt := by rw [dirt]; split <;> simp_all

theorem driveTarget_runClosed (w : Nat) (s : State) : RunClosed s (driveTarget w s) := by
  have recorded : RunClosed s (s.onDrive fun d => { d with target := w }) := .of_kept rfl rfl
  have coasts : RunClosed s (if w = 0 then enterCoast false (s.onDrive fun d => { d with target := w })
      else s.onDrive fun d => { d with target := w }) := by
    split
    · exact recorded.trans (.of_closed (by simp) (quietDrive_dirt .coast _))
    · exact recorded
  unfold driveTarget
  dsimp only [onDrive_drive]
  cases stopped : s.drive.state
  case stopped =>
    dsimp only
    split
    · exact recorded
    · exact .of_closed (by simp) (by simp [stopped])
  case coast =>
    dsimp only
    split
    · exact recorded.trans (.of_kept rfl rfl)
    · exact recorded
  case fault => exact recorded
  all_goals exact coasts

theorem runClosed_relation : DriveRelation RunClosed where
  trans := .trans
  kept := fun ⟨_, drive, dirt⟩ => .of_kept (by rw [drive]) dirt
  target := driveTarget_runClosed
  quiet := fun st s quiet => .of_closed (by rintro run; rw [quietDrive_state] at run; simp [run, DriveState.quiet] at quiet)
    (quietDrive_dirt st s)
  stopped := fun s => .of_closed (by
    unfold enterStopped
    dsimp only
    split <;> simp) (enterStopped_dirt s)

/-- The end of RUN that a target of 0 brings (R59, R60, R68). -/
theorem driveTarget_zero_dirt (s : State) :
    (driveTarget 0 s).dirt = if s.drive.state = .run then s.dirt.closeRun else s.dirt := by
  have coasts := quietDrive_dirt .coast (s.onDrive fun d => { d with target := 0 })
  unfold driveTarget
  dsimp only [onDrive_drive]
  cases run : s.drive.state
  case run => simpa [enterCoast, run] using coasts
  case align => simpa [enterCoast, run] using coasts
  case ramp => simpa [enterCoast, run] using coasts
  all_goals simp

/-! ### A handed change, but for the DRIVE_FAULT latch -/

/-- The allowance, the drive and the counts are left or eased, and the reasons of the hold unit's own stay. -/
structure Handing (s t : State) : Prop where
  easing : Easing s t
  own : OwnReasonsKept s.hold.reasons t.hold.reasons

section
variable {s t u : State}

theorem Handing.trans (a : Handing s t) (b : Handing t u) : Handing s u where
  easing := a.easing.trans b.easing
  own := by simp [OwnReasonsKept, a.own, b.own]

theorem Handing.of_settling (easing : Easing s t) (settled : ScanSettling s t) : Handing s t :=
  ⟨easing, settled.own⟩

theorem Handing.latched (h : Handing s t) : t.hold.reasons.driveFault = s.hold.reasons.driveFault := by
  obtain ⟨-, -, latched, -⟩ := h.own
  exact latched

/-- What the handling of a notice, gone from the queue, sets off (R156). -/
theorem Handing.consequences (h : Handing s t) (aside : Aside (dropOldest s) t) (closed : RunClosed s t) :
    Consequences s t := by
  obtain ⟨head, dock, seat, settle⟩ := aside.attach
  have driven : (t.drive = s.drive ∧ t.dirt = s.dirt) ∨
      (t.drive = (driveTarget 0 { s with time := t.time }).drive ∧
        t.dirt = (driveTarget 0 { s with time := t.time }).dirt) := by
    have time : ({ s with time := t.time } : State) = s := by rw [h.easing.time]
    rcases h.easing.drive with ⟨drive, dirt, -⟩ | ⟨drive, -⟩
    · exact .inl ⟨drive, dirt⟩
    · refine .inr ⟨by rw [time, driveTarget_zero, drive], ?_⟩
      have rest : t.drive.state ≠ .run := by
        intro run
        have quiet := easedDrive_quiet s.drive s.now
        rw [← drive, run] at quiet
        simp [DriveState.quiet] at quiet
      have samples : t.dirt.samples = s.dirt.samples := aside.samples
      have dirt := closed.dirt
      rw [samples] at dirt
      rw [time, driveTarget_zero_dirt, dirt]
      simp only [rest, ne_eq, not_false_eq_true, and_true]
      split <;> rfl
  exact ⟨aside.readings, h.easing.counters, h.easing.share, h.easing.low, h.easing.mode, h.easing.target, h.easing.pAllow,
    driven, aside.history, head, dock, seat, settle, aside.running, aside.asleep⟩

end

theorem Handing.of_kept {s t : State} (easing : Easing s t) (hold : t.hold = s.hold) : Handing s t :=
  ⟨easing, by simp [OwnReasonsKept, hold]⟩

theorem handReasons_handing (s : State) : Handing s (handReasons s) :=
  .of_settling (handReasons_easing s) (handReasons_settling s).toScanSettling

theorem handCharge_handing (s : State) : Handing s (handCharge s) :=
  .of_kept (handCharge_easing s) (by simp [handCharge])

theorem powerJudge_handing (s : State) : Handing s (powerJudge s) := .of_kept (powerJudge_easing s) (by simp)

theorem publish_handing (s0 s : State) : Handing s (publish s0 s) := .of_kept (publish_easing s0 s) (by simp)

theorem onTable_handing (f : Table → Table) (s : State) : Handing s (s.onTable f) :=
  .of_kept (.of_kept (by simp)) (by simp)

/-- A latch that does not stand is not tested (R166). -/
theorem latchTest_of_clear {s : State} (h : s.hold.reasons.driveFault = false) : latchTest s = s := by
  simp [latchTest, h]

theorem handTable_handing (t0 : Table) {s : State} (h : s.hold.reasons.driveFault = false) :
    Handing s (handTable t0 s) := by
  have refl : Handing s s := .of_kept (.refl s) rfl
  have wished : Handing s (handWish t0 s) := by
    rw [handWish, latchTest_of_clear h, ite_self]
    split
    · exact refl
    · exact handReasons_handing s
  rw [handTable_eq]
  split
  · exact wished.trans (handCharge_handing _)
  · exact wished.trans (powerJudge_handing _)

theorem setTable_handing (tb : Table) {s : State} (h : s.hold.reasons.driveFault = false) : Handing s (setTable tb s) :=
  (onTable_handing _ s).trans (handTable_handing _ (by simpa using h))

theorem evict_handing (n : Notice) {s : State} (h : s.hold.reasons.driveFault = false) : Handing s (evict n s) := by
  unfold evict
  split
  · exact (setTable_handing _ h).trans (publish_handing _ _)
  · exact .of_kept (.refl s) rfl

theorem evict_aside (n : Notice) (s : State) : Aside s (evict n s) := by
  unfold evict
  split
  · exact (setTable_aside _ s).trans (publish_aside _ _)
  · exact .refl s

/-! ### The heard union (R160, R169) -/

theorem handWish_heard (t0 : Table) (s : State) :
    (handWish t0 s).hold.heard = s.table.heardUnion s.cfg.holdStations := by
  have same : ∀ u : State, u.table = s.table → u.loader = s.loader →
      u.table.heardUnion u.cfg.holdStations = s.table.heardUnion s.cfg.holdStations := by
    intro u table loader
    simp [State.cfg, table, loader]
  have wished : (if s.table.wish = t0.wish then s else latchTest s).table = s.table ∧
      (if s.table.wish = t0.wish then s else latchTest s).loader = s.loader := by
    split <;> simp
  rw [← same _ wished.1 wished.2, handWish]
  generalize (if s.table.wish = t0.wish then s else latchTest s) = u
  split
  case isTrue heard => exact heard.symm
  case isFalse => rw [handReasons_hold]; rfl

theorem handTable_hold (t0 : Table) (s : State) : (handTable t0 s).hold = (handWish t0 s).hold := by
  rw [handTable_eq]
  split <;> simp [handCharge]

end Sys2Proof.Proofs
end

section
/-! ## The charge controller from an event to the end of what the event sets off (R95, R97, R106, R107)

One event may settle the charge controller more than once. `Tracked` follows an ask with its echo in and the phase it
stood in: an ask that changes stays changed while the phase stays, and a phase that is left is not entered again. -/

namespace Sys2Proof.Proofs
open Sys2Proof.Machine Sys2Proof.Safety

theorem SameDock.of_blocks {s t : State} (charge : t.charge = s.charge) (pack : t.pack = s.pack)
    (table : t.table = s.table) (loader : t.loader = s.loader) : SameDock s t where
  window := by rw [charge]
  supplyLost := by rw [charge]
  loader := loader
  table := table
  cells := by rw [pack]

/-- The ask depends on the phase beside what a decision reads (R95). -/
theorem SameDock.askFor {s t : State} (h : SameDock s t) (phase : t.charge.phase = s.charge.phase) (v : Nat) :
    t.askFor v = s.askFor v := by
  simp only [State.askFor, State.askCurrent, State.fullV, phase, h.window_eq, h.table, h.cfg]

/-- The ask that v_ask of an ask gives is that ask. -/
theorem askFor_again (s : State) (v : Nat) : s.askFor (s.askFor v).v = s.askFor v := by
  unfold State.askFor
  cases s.window with
  | none => split <;> rfl
  | some w =>
    by_cases charging : s.charge.phase.charging = true
    · by_cases topoff : s.charge.phase = .topoff
      · simp [topoff, ChargePhase.charging]
      · simp [charging, topoff]
    · simp [charging]

/-- The causes that stand, where neither the dock nor stop-charge has changed (R106). -/
theorem SameDock.causesNow_any {s t : State} (h : SameDock s t) (stop : t.hold.stopCharge = s.hold.stopCharge)
    (mark : (t.charge.causes.unresponsive && t.charge.awaiting) =
      (s.charge.causes.unresponsive && s.charge.awaiting)) : t.causesNow.any = s.causesNow.any := by
  rw [Proofs.causesNow_any, Proofs.causesNow_any, h.hindered stop, h.table, h.supplyLost, mark]

/-! ### The phase is `p`, or has left it for good -/

/-- In phase `p`; the ask is `a` with its echo in, or it is the one that is formed afresh. -/
structure Here (p : ChargePhase) (a : Ask) (s : State) : Prop where
  phase : s.charge.phase = p
  echoed : s.charge.ask = a → s.charge.awaiting = false
  formed : s.charge.ask ≠ a → s.askFor s.charge.ask.v = s.charge.ask

/-- A charge that nothing pauses, or a pause that nothing ends. -/
def Resolved (s : State) : Prop :=
  (s.charge.phase.charging = true ∧ s.charge.causes.unresponsive = false ∧ s.causesNow.any = false) ∨
  (s.charge.phase = .paused ∧ s.causesNow.any = true)

/-- Out of phase `p`, and not to enter it again. -/
structure Away (p : ChargePhase) (s : State) : Prop where
  left : s.charge.phase ≠ p
  resolved : Resolved s

def Tracked (p : ChargePhase) (a : Ask) (s : State) : Prop := Here p a s ∨ Away p s

section
variable {p : ChargePhase} {a : Ask} {s t : State}

theorem Tracked.echoed (h : Tracked p a s) (ask : s.charge.ask = a) (phase : s.charge.phase = p) :
    s.charge.awaiting = false := by
  rcases h with here | away
  · exact here.echoed ask
  · exact absurd phase away.left

/-- What moves neither the phase, the causes and the ask nor what they are formed from. -/
theorem Tracked.of_same (h : Tracked p a s) (same : SameDock s t) (stop : t.hold.stopCharge = s.hold.stopCharge)
    (charge : t.charge.phase = s.charge.phase ∧ t.charge.causes = s.charge.causes ∧ t.charge.ask = s.charge.ask ∧
      t.charge.awaiting = s.charge.awaiting) : Tracked p a t := by
  obtain ⟨phase, causes, ask, awaiting⟩ := charge
  have any := same.causesNow_any stop (by rw [causes, awaiting])
  rcases h with here | away
  · exact .inl ⟨by rw [phase, here.phase], by rw [ask, awaiting]; exact here.echoed,
      by rw [ask, same.askFor phase]; exact here.formed⟩
  · exact .inr ⟨by rw [phase]; exact away.left, by rw [Resolved, phase, causes, any]; exact away.resolved⟩

/-! #### A review -/

/-- A review that leaves the phase leaves the ask and its echo. -/
theorem Here.reviewed (h : Here p a s) (phase : (chargeReview s).charge.phase = s.charge.phase) :
    Here p a (chargeReview s) := by
  obtain ⟨ask, awaiting, -⟩ := chargeReview_keeps s
  have same := (chargeReview_sameDock s).askFor phase
  exact ⟨by rw [phase, h.phase], by rw [ask, awaiting]; exact h.echoed, by rw [ask, same]; exact h.formed⟩

/-- A cause that pauses a charge, or holds a pause, still stands in the pause (R106, R107). -/
theorem chargeReview_paused (docked : s.charge.phase.charging = true ∨ s.charge.phase = .paused)
    (cause : s.causesNow.any = true) : (chargeReview s).charge.phase = .paused ∧ (chargeReview s).causesNow.any = true := by
  have causes : (chargeReview s).charge.causes = s.causesNow := by
    rcases docked with charging | paused
    · rw [chargeReview_pauses charging cause, enterPaused_charge]
    · simp [chargeReview, paused, cause]
  refine ⟨chargeReview_of_cause docked cause, ?_⟩
  rw [(chargeReview_sameDock s).causesNow_any (by simp), cause]
  rw [causes, (chargeReview_keeps s).2.1, State.causesNow]
  simp

/-- The WAITING decision under a ready dock begins a charge that nothing pauses, or a pause that nothing ends (R100). -/
theorem waitingDecision_resolved (kept : s.charge.supplyLost = false) (ready : s.table.dockReady = true) :
    Resolved (waitingDecision s) := by
  have same := waitingDecision_sameDock s
  have still : hindered (waitingDecision s) = hindered s := same.hindered (by simp)
  have phase := waitingDecision_phase ready
  cases free : hindered s with
  | true => exact .inr ⟨by simpa [free] using phase, causesNow_hindered (by rw [still, free])⟩
  | false =>
    have responsive : (waitingDecision s).charge.causes.unresponsive = false := by
      unfold waitingDecision
      rw [if_neg (by simp [ready])]
      (repeat' split) <;> simp [enterPaused, enterPhase_charge, State.waitingCauses, Causes.none]
    rw [free, if_neg Bool.false_ne_true] at phase
    exact .inl ⟨by rw [phase, beginning_charging], responsive, causesNow_none (by rw [still, free])
      (by rw [same.table, ready]) (by rw [same.supplyLost, kept]) responsive⟩

/-- A review leaves the phase, or resolves the charge. -/
theorem chargeReview_cases (kept : s.charge.supplyLost = false) :
    (chargeReview s).charge.phase = s.charge.phase ∨ Resolved (chargeReview s) := by
  by_cases docked : s.charge.phase.charging = true ∨ s.charge.phase = .paused
  · by_cases cause : s.causesNow.any = true
    · exact .inr (.inr (chargeReview_paused docked cause))
    · have none : s.causesNow.any = false := by simpa using cause
      rcases docked with charging | paused
      · exact .inl (by rw [chargeReview_of_charging charging none])
      · have ready : s.table.dockReady = true := by
          rw [causesNow_any] at none
          by_contra away
          simp [away] at none
        have waiting := enterPhase_sameDock .waiting s
        have review : chargeReview s = waitingDecision (enterPhase .waiting s) := by simp [chargeReview, paused, none]
        rw [review]
        exact .inr (waitingDecision_resolved (by rw [waiting.supplyLost, kept]) (by rw [waiting.table, ready]))
  · by_cases waiting : s.charge.phase = .waiting
    · rw [chargeReview_of_waiting waiting]
      cases ready : s.table.dockReady with
      | true => exact .inr (waitingDecision_resolved kept ready)
      | false => exact .inl (by rw [waitingDecision_of_not_ready ready])
    · left
      rw [chargeReview_of_ended]
      cases phase : s.charge.phase <;> simp_all [ChargePhase.charging]

theorem Resolved.reviewed (h : Resolved s) :
    (chargeReview s).charge.phase = s.charge.phase ∧ Resolved (chargeReview s) := by
  rcases h with ⟨charging, responsive, none⟩ | ⟨paused, cause⟩
  · rw [chargeReview_of_charging charging none]
    exact ⟨rfl, .inl ⟨charging, responsive, none⟩⟩
  · obtain ⟨phase, stands⟩ := chargeReview_paused (.inr paused) cause
    exact ⟨phase.trans paused.symm, .inr ⟨phase, stands⟩⟩

theorem Tracked.reviewed (h : Tracked p a s) (kept : s.charge.supplyLost = false) : Tracked p a (chargeReview s) := by
  rcases h with here | away
  · by_cases phase : (chargeReview s).charge.phase = s.charge.phase
    · exact .inl (here.reviewed phase)
    · exact .inr ⟨by rw [← here.phase]; exact phase, (chargeReview_cases kept).resolve_left phase⟩
  · obtain ⟨phase, resolved⟩ := away.resolved.reviewed
    exact .inr ⟨by rw [phase]; exact away.left, resolved⟩

/-! #### The ask and the switch -/

theorem Resolved.refreshed (h : Resolved s) : Resolved (refreshAsk s) := by
  have same : SameDock s (refreshAsk s) := changeAsk_sameDock _ s
  have causes : (refreshAsk s).charge.causes = s.charge.causes := changeAsk_causes _ s
  have any : (refreshAsk s).causesNow.any = (hindered s || (!s.table.dockReady || s.charge.supplyLost) ||
      s.charge.causes.unresponsive && (refreshAsk s).charge.awaiting) := by
    rw [causesNow_any, same.hindered (by simp), same.table, same.supplyLost, causes]
  rcases h with ⟨charging, responsive, none⟩ | ⟨paused, cause⟩
  · refine .inl ⟨by rw [refreshAsk_phase, charging], by rw [causes, responsive], ?_⟩
    rw [any, ← none, causesNow_any, responsive]
    simp
  · refine .inr ⟨by rw [refreshAsk_phase, paused], ?_⟩
    rw [causesNow_any] at cause
    rw [any]
    rcases changeAsk_cases (s.askFor s.charge.ask.v) s with ⟨-, unmoved⟩ | awaited
    · rw [refreshAsk, unmoved, cause]
    · rw [refreshAsk, awaited, Bool.and_true]
      simp only [Bool.or_eq_true, Bool.and_eq_true] at cause ⊢
      exact cause.imp_right And.left

theorem Here.refreshed (h : Here p a s) : Here p a (refreshAsk s) := by
  have same : SameDock s (refreshAsk s) := changeAsk_sameDock _ s
  have phase := refreshAsk_phase s
  by_cases unmoved : s.askFor s.charge.ask.v = s.charge.ask
  · rwa [refreshAsk, changeAsk, if_pos unmoved]
  · have held : s.charge.ask = a := by
      by_contra other
      exact unmoved (h.formed other)
    have ask := refreshAsk_ask s
    refine ⟨by rw [phase, h.phase], fun same => ?_, fun _ => ?_⟩
    · rw [ask, ← held] at same
      exact absurd same unmoved
    · rw [ask, same.askFor phase, askFor_again]

theorem Tracked.settled (h : Tracked p a s) (kept : s.charge.supplyLost = false) : Tracked p a (chargeSettle s) := by
  have asked : Tracked p a (refreshAsk (chargeReview s)) := by
    rcases h.reviewed kept with here | away
    · exact .inl here.refreshed
    · exact .inr ⟨by rw [refreshAsk_phase]; exact away.left, away.resolved.refreshed⟩
  rw [chargeSettle]
  refine asked.of_same (switchJudge_sameDock _) (by simp) ?_
  rw [switchJudge_charge_eq]
  exact ⟨rfl, rfl, rfl, rfl⟩

theorem powerJudge_sameDock (s : State) : SameDock s (powerJudge s) :=
  (powerJudge_settling s).toScanSettling.sameDock (by simp) (by simp)

theorem Tracked.handedPower (h : Tracked p a s) : Tracked p a (powerJudge s) :=
  h.of_same (powerJudge_sameDock s) (by simp) (by simp)

theorem Tracked.handedCharge (h : Tracked p a s) (kept : s.charge.supplyLost = false) : Tracked p a (handCharge s) :=
  (h.settled kept).handedPower

/-! #### The hold unit -/

/-- In phase `p` with the ask `a` and its echo in, whatever stands. -/
def Echoed (p : ChargePhase) (a : Ask) (s : State) : Prop :=
  s.charge.phase = p ∧ s.charge.ask = a ∧ s.charge.awaiting = false

theorem Echoed.tracked (h : Echoed p a s) : Tracked p a s := by
  obtain ⟨phase, ask, echoed⟩ := h
  exact .inl ⟨phase, fun _ => echoed, fun moved => absurd ask moved⟩

theorem Tracked.handedReasons (h : Tracked p a s) (same : s.liveReasons.stopsCharge = s.hold.stopCharge) :
    Tracked p a (handReasons s) := by
  refine h.of_same (handReasons_sameDock s) ?_ ?_
  · rw [handReasons_hold, formHolds_stopCharge, same]
  · rw [handReasons_switchOnly same]
    exact ⟨rfl, rfl, rfl, rfl⟩

theorem Echoed.handedReasons (h : Echoed p a s) (kept : s.charge.supplyLost = false) :
    Tracked p a (handReasons s) := by
  have told : Echoed p a (handStopSuction s) := by rwa [Echoed, handStopSuction_charge]
  have handed : Tracked p a (handStopCharge s.hold.stopCharge (handStopSuction s)) := by
    unfold handStopCharge
    split
    · refine told.tracked.of_same (switchJudge_sameDock _) (by simp) ?_
      rw [switchJudge_charge_eq]
      exact ⟨rfl, rfl, rfl, rfl⟩
    · exact told.tracked.settled (by rw [handStopSuction_charge, kept])
  rw [handReasons_eq]
  exact handed.of_same (((railJudge_settling _).trans (powerJudge_settling _)).toScanSettling.sameDock (by simp) (by simp))
    (by simp) (by simp)

theorem latchTest_sameDock (s : State) : SameDock s (latchTest s) := by
  unfold latchTest
  split
  · exact (SameDock.of_blocks (by simp) (by simp) (by simp) (by simp)).trans (handReasons_sameDock _)
  · exact .refl s

theorem Echoed.latched (h : Echoed p a s) (kept : s.charge.supplyLost = false) :
    Echoed p a (latchTest s) ∨ Tracked p a (latchTest s) ∧ Formed (latchTest s) := by
  unfold latchTest
  split
  · right
    exact ⟨Echoed.handedReasons (by simpa [Echoed] using h) (by simpa using kept), handReasons_formed _⟩
  · exact .inl h

theorem handWish_sameDock (t0 : Table) (s : State) : SameDock s (handWish t0 s) := by
  have wished : SameDock s (if s.table.wish = t0.wish then s else latchTest s) := by
    split
    · exact .refl s
    · exact latchTest_sameDock s
  have heard : ∀ u, SameDock u
      (if u.table.heardUnion u.cfg.holdStations = u.hold.heard then u else handReasons u) := by
    intro u
    split
    · exact .refl u
    · exact handReasons_sameDock u
  exact wished.trans (heard _)

/-- A table's change leaves the window, the supply-lost mark and the readings of a decision. -/
theorem handTable_sameDock (t0 : Table) (s : State) : SameDock s (handTable t0 s) := by
  rw [handTable_eq]
  split
  · exact (handWish_sameDock t0 s).trans ((chargeSettle_sameDock _).trans (powerJudge_sameDock _))
  · exact (handWish_sameDock t0 s).trans (powerJudge_sameDock _)

theorem Echoed.handedTable (h : Echoed p a s) (kept : s.charge.supplyLost = false) (t0 : Table) :
    Tracked p a (handTable t0 s) := by
  have wished : ∀ u, Echoed p a u ∨ Tracked p a u ∧ Formed u → u.charge.supplyLost = false →
      Tracked p a (if u.table.heardUnion u.cfg.holdStations = u.hold.heard then u else handReasons u) := by
    intro u told kept
    split
    · exact told.elim Echoed.tracked And.left
    · rcases told with echoed | ⟨tracked, formed⟩
      · exact echoed.handedReasons kept
      · exact tracked.handedReasons formed.2.symm
  have told : Tracked p a (handWish t0 s) := by
    refine wished _ ?_ ?_
    · split
      · exact .inl h
      · exact h.latched kept
    · split
      · exact kept
      · rw [(latchTest_sameDock s).supplyLost, kept]
  have lost : (handWish t0 s).charge.supplyLost = false := by rw [(handWish_sameDock t0 s).supplyLost, kept]
  rw [handTable_eq]
  split
  · exact told.handedCharge lost
  · exact told.handedPower

end

end Sys2Proof.Proofs
end

section
/-! ## A SUPPLY and the record that it evicts (R93, R97, R107, R108, R110, R151, R155) -/

namespace Sys2Proof.Proofs
open Sys2Proof.Machine Sys2Proof.Safety

/-! ### A pause that an eviction ends (R107) -/

/-- Charging or paused, with all that a charge needs but for stop-charge. -/
structure Ripe (x : ChargeWindow) (s : State) : Prop where
  docked : s.charge.phase.charging = true ∨ s.charge.phase = .paused
  window : s.window = some x
  live : x.iChg ≠ 0
  ready : s.table.dockReady = true
  strong : s.fullV x.vCell ≤ s.table.dockMaxV
  kept : s.charge.supplyLost = false
  responsive : s.charge.causes.unresponsive = false

section
variable {x : ChargeWindow} {s t : State}

theorem Ripe.clear (h : Ripe x s) (free : s.hold.stopCharge = false) : Clear x s :=
  ⟨h.window, h.live, h.ready, h.strong, h.kept, h.responsive, free⟩

theorem Ripe.of_sameDock (h : Ripe x s) (same : SameDock s t)
    (docked : t.charge.phase.charging = true ∨ t.charge.phase = .paused)
    (responsive : t.charge.causes.unresponsive = false) : Ripe x t where
  docked := docked
  window := by rw [same.window_eq, h.window]
  live := h.live
  ready := by rw [same.table, h.ready]
  strong := by
    rw [same.table, State.fullV, same.cfg]
    exact h.strong
  kept := by rw [same.supplyLost, h.kept]
  responsive := responsive

theorem Ripe.of_same (h : Ripe x s) (same : SameDock s t) (phase : t.charge.phase = s.charge.phase)
    (causes : t.charge.causes = s.charge.causes) : Ripe x t :=
  h.of_sameDock same (by rw [phase]; exact h.docked) (by rw [causes, h.responsive])

theorem Ripe.settled (h : Ripe x s) : Ripe x (chargeSettle s) := by
  refine h.of_sameDock (chargeSettle_sameDock s) ?_ (by rw [chargeSettle_causes]; exact chargeReview_responsive h.responsive)
  rw [chargeSettle_phase]
  by_cases cause : s.causesNow.any = true
  · exact .inr (chargeReview_of_cause h.docked cause)
  · have none : s.causesNow.any = false := by simpa using cause
    rcases h.docked with charging | paused
    · exact .inl (by rw [chargeReview_of_charging charging none, charging])
    · have free : hindered s = false := by
        by_contra held
        exact cause (causesNow_hindered (by simpa using held))
      exact .inl (by rw [chargeReview_resumes paused free h.ready none, beginning_charging])

/-- With stop-charge clear a charge that has all it needs goes on, or begins again (R107). -/
theorem Ripe.charges (h : Ripe x s) (free : s.hold.stopCharge = false) :
    (handCharge s).charge.phase.charging = true := by
  have clear := h.clear free
  have phase : (handCharge s).charge.phase = (chargeReview s).charge.phase := by
    rw [← chargeSettle_phase]
    simp [handCharge]
  rw [phase]
  rcases h.docked with charging | paused
  · rw [chargeReview_of_charging charging clear.no_cause, charging]
  · rw [chargeReview_begins clear (.inr paused), beginning_charging]

theorem Ripe.handedReasons (h : Ripe x s) : Ripe x (handReasons s) := by
  have told : Ripe x (handStopSuction s) := h.of_same (handStopSuction_sameDock s) (by simp) (by simp)
  have handed : Ripe x (handStopCharge s.hold.stopCharge (handStopSuction s)) := by
    unfold handStopCharge
    split
    · exact told.of_same (switchJudge_sameDock _) (by rw [switchJudge_phase]) (switchJudge_causes _)
    · exact told.settled
  rw [handReasons_eq]
  exact handed.of_same (((railJudge_settling _).trans (powerJudge_settling _)).toScanSettling.sameDock (by simp) (by simp))
    (by simp) (by simp)

theorem Ripe.wished (h : Ripe x s) (t0 : Table) : Ripe x (handWish t0 s) := by
  have heard : ∀ u, Ripe x u →
      Ripe x (if u.table.heardUnion u.cfg.holdStations = u.hold.heard then u else handReasons u) := by
    intro u ripe
    split
    · exact ripe
    · exact ripe.handedReasons
  refine heard _ ?_
  split
  · exact h
  · unfold latchTest
    split
    · exact (h.of_same (.of_blocks (by simp) (by simp) (by simp) (by simp)) (by simp) (by simp)).handedReasons
    · exact h

end

/-- A record that has left is not the dock record, which a change of it tells of (R93, R155). -/
theorem tellsDock_remove {tb : Table} {old : Record} (dock : tb.dockRecord = some old) :
    tellsDock tb.dockRecord (tb.remove old.station).dockRecord = true := by
  rw [dock]
  cases after : (tb.remove old.station).dockRecord with
  | none => rfl
  | some b =>
    have other : b.station ≠ old.station := by
      obtain ⟨st, -, found⟩ := Option.bind_eq_some_iff.mp after
      have mem := List.mem_of_find?_eq_some found
      simpa [Table.remove, Table.removeWhere] using (List.mem_filter.mp mem).2
    simp [tellsDock, Ne.symm other]

/-- The eviction of the dock record begins a paused charge again, where the next dock is ready for it (R107, R155). -/
theorem evict_charging {s : State} {n : Notice} {old : Record} {x : ChargeWindow} (evicts : s.table.evicts n = some old)
    (dock : s.table.dockRecord = some old) (ripe : Ripe x (s.onTable fun _ => s.table.remove old.station))
    (free : (evict n s).hold.stopCharge = false) : (evict n s).charge.phase.charging = true := by
  set u := handWish s.table (s.onTable fun _ => s.table.remove old.station) with hu
  have told : setTable (s.table.remove old.station) s = handCharge u := by
    rw [setTable, handTable_eq, ← hu, if_pos]
    simpa [hu] using tellsDock_remove dock
  have evicted : evict n s = publish s (handCharge u) := by
    rw [evict, evicts]
    dsimp only
    rw [asEvent, told]
  rw [evicted] at free ⊢
  simpa using (ripe.wished s.table).charges (by simpa [handCharge] using free)

/-! ### The tests of a SUPPLY (R97, R108, R110) -/

/-- The supply-lost mark clears, and the ask in force is tested for its echo (R97, R108). -/
def echoTested (p : SupplyPart) (s : State) : State := s.onCharge fun c =>
  { c with
    supplyLost := false
    awaiting := c.awaiting && !echoes p s.charge.ask
    echoTimer := if echoes p s.charge.ask then none else c.echoTimer }

theorem supplyEvent_eq (p : SupplyPart) (s : State) : supplyEvent p s =
    if p.state = .fault && s.charge.phase.charging then chargeFault .dockFault (echoTested p s) else echoTested p s := rfl

theorem supplyEvent_quiet {p : SupplyPart} {s : State} (h : p.state ≠ .fault ∨ s.charge.phase.charging = false) :
    supplyEvent p s = echoTested p s := by
  rw [supplyEvent_eq, if_neg]
  rcases h with h | h <;> simp [h]

theorem supplyEvent_fault {p : SupplyPart} {s : State} (fault : p.state = .fault)
    (charging : s.charge.phase.charging = true) : supplyEvent p s = chargeFault .dockFault (echoTested p s) := by
  rw [supplyEvent_eq, if_pos (by simp [fault, charging])]

theorem echoTested_handing (p : SupplyPart) (s : State) : Handing s (echoTested p s) :=
  .of_kept (.of_kept (by simp [echoTested])) (by simp [echoTested])

theorem chargeFault_handing (k : FaultKind) (s : State) : Handing s (chargeFault k s) :=
  .of_settling (chargeFault_easing k s) (chargeFault_scanSettling k s)

theorem supplyEvent_handing (p : SupplyPart) (s : State) : Handing s (supplyEvent p s) := by
  rw [supplyEvent_eq]
  split
  · exact (echoTested_handing p s).trans (chargeFault_handing _ _)
  · exact echoTested_handing p s

theorem supplyEvent_rx (p : SupplyPart) (s : State) : (supplyEvent p s).line.rx = s.line.rx := by
  rw [supplyEvent_eq]
  split <;> simp [chargeFault_eq, endCharge, refreshAsk, echoTested]

/-! ### After the tests -/

/-- What a SUPPLY sets off after its tests: the table's readers are told, then the charge controller settles (R93). -/
def supplyTold (d u : State) : State := publish d (handCharge (handTable d.table u))

section
variable {d u : State}

theorem supplyTold_aside (d u : State) : Aside u (supplyTold d u) :=
  ((handTable_aside _ u).trans (handCharge_aside _)).trans (publish_aside _ _)

theorem supplyTold_handing (h : u.hold.reasons.driveFault = false) : Handing u (supplyTold d u) :=
  ((handTable_handing _ h).trans (handCharge_handing _)).trans (publish_handing _ _)

theorem supplyTold_sameDock (d u : State) : SameDock u (supplyTold d u) :=
  ((handTable_sameDock _ u).trans ((chargeSettle_sameDock _).trans (powerJudge_sameDock _))).trans (publish_sameDock _ _)

theorem supplyTold_heard (d u : State) : (supplyTold d u).hold.heard = u.table.heardUnion u.cfg.holdStations := by
  rw [← handWish_heard d.table u, ← handTable_hold]
  simp [supplyTold, handCharge]

theorem supplyTold_tracked {p : ChargePhase} {a : Ask} (h : Echoed p a u) (kept : u.charge.supplyLost = false) :
    Tracked p a (supplyTold d u) := by
  have told := h.handedTable kept d.table
  have settled := told.handedCharge (by rw [(handTable_sameDock _ u).supplyLost, kept])
  rw [supplyTold]
  exact settled.of_same (publish_sameDock _ _) (by simp) (by simp)

theorem supplyTold_flags (d u : State) : FlagsStand u (supplyTold d u) :=
  (FlagsStand.of_report (by simp [handCharge])).trans (publish_flags _ _)

/-- A charge that has ended stays as it is. -/
theorem supplyTold_of_rested (h : Rested u.charge) : (supplyTold d u).charge = u.charge := by
  have latched : (latchTest u).charge = u.charge := by
    unfold latchTest
    split
    · rw [onReasons, handReasons_charge_of_rested (by simpa using h)]
      simp
    · rfl
  have wished : (handWish d.table u).charge = u.charge := by
    have heard : ∀ v, v.charge = u.charge →
        (if v.table.heardUnion v.cfg.holdStations = v.hold.heard then v else handReasons v).charge = u.charge := by
      intro v same
      split
      · exact same
      · rw [handReasons_charge_of_rested (by rwa [same]), same]
    refine heard _ ?_
    split
    · rfl
    · exact latched
  have told : (handTable d.table u).charge = u.charge := by
    rw [handTable_eq]
    split
    · have settled : (handCharge (handWish d.table u)).charge = (handWish d.table u).charge := by
        rw [handCharge, chargeSettle_of_rested (by rwa [wished])]
        simp
      rw [settled, wished]
    · simpa using wished
  have settled : (handCharge (handTable d.table u)).charge = (handTable d.table u).charge := by
    rw [handCharge, chargeSettle_of_rested (by rwa [told])]
    simp
  rw [supplyTold]
  simp [settled, told]

end

end Sys2Proof.Proofs
end

section
/-! ## The handling of a SUPPLY (R93, R97, R108, R110, R136, R151, R155) -/

namespace Sys2Proof.Proofs
open Sys2Proof.Machine Sys2Proof.Safety

/-- The state in which a SUPPLY is tested: the notice out of the queue, the eviction handed on, the record entered. -/
def supplyEntered (n : Notice) (tb : Table) (s : State) : State := (evict n (dropOldest s)).onTable fun _ => tb

/-- The state after the handling of a SUPPLY that the table takes. -/
def supplied (n : Notice) (tb : Table) (s : State) : State :=
  supplyTold (evict n (dropOldest s)) (supplyEvent n.supplyPart (supplyEntered n tb s))

section
variable {s : State} {n : Notice} {rest : List Notice} {tb : Table}

theorem exec_supply (h : Handles s n rest tb 3) : exec .supply s = .next (supplied n tb s) := by
  obtain ⟨running, queue, cls, taken⟩ := h
  have handling : s.handling (Notice.isClass 3) = some n := by
    simp [State.handling, running, queue, Notice.isClass, cls]
  have entered : (dropOldest s).table.enter n (dropOldest s).now = some tb := taken
  show handledBy _ _ s = _
  rw [handledBy, handling]
  dsimp only
  rw [enterNotice, entered]
  rfl

theorem supply_answers (h : Handles s n rest tb 3) {P : State → Prop} (after : P (supplied n tb s)) :
    Answers (exec .supply s) P := ⟨_, exec_supply h, after⟩

/-- The charge controller and the figures of a fault's entry as the eviction leaves them. -/
theorem supplyEntered_kept (n : Notice) (tb : Table) (s : State) : let d := supplyEntered n tb s
    d.charge = (evict n s).charge ∧ d.hold = (evict n s).hold ∧ d.drive = (evict n s).drive ∧
    d.pack = (evict n s).pack ∧ d.time = s.time ∧ d.loader = s.loader := by
  obtain ⟨-, charge, hold, drive, pack⟩ := evict_dropOldest n s
  obtain ⟨time, -, loader, -⟩ := evict_frame n (dropOldest s)
  exact ⟨charge, hold, drive, pack, time, loader⟩

theorem supplyEntered_aside (n : Notice) (tb : Table) (s : State) : Aside (dropOldest s) (supplyEntered n tb s) :=
  (evict_aside n _).trans (.of_kept (by simp [supplyEntered]))

theorem supplyEntered_handing (n : Notice) (tb : Table) {s : State} (h : s.hold.reasons.driveFault = false) :
    Handing s (supplyEntered n tb s) := by
  have dropped : Handing s (dropOldest s) := .of_kept (.of_kept (by simp [dropOldest])) rfl
  exact (dropped.trans (evict_handing n (by simpa [dropOldest] using h))).trans (onTable_handing _ _)

theorem supplied_handing (n : Notice) (tb : Table) {s : State} (h : s.hold.reasons.driveFault = false) :
    Handing s (supplied n tb s) := by
  have tested := (supplyEntered_handing n tb h).trans (supplyEvent_handing n.supplyPart _)
  exact tested.trans (supplyTold_handing (tested.latched.trans h))

theorem supplied_frame (n : Notice) (tb : Table) (s : State) : let t := supplied n tb s
    t.time = s.time ∧ t.pins = s.pins ∧ t.loader = s.loader ∧ t.free = s.free ∧ t.pending = s.pending := by
  have tested : ∀ u : State, (supplyEvent n.supplyPart u).time = u.time ∧ (supplyEvent n.supplyPart u).pins = u.pins ∧
      (supplyEvent n.supplyPart u).loader = u.loader ∧ (supplyEvent n.supplyPart u).free = u.free ∧
      (supplyEvent n.supplyPart u).pending = u.pending := fun u => by simp
  obtain ⟨time, pins, loader, free, pending⟩ := (supplyEntered_aside n tb s).frame
  obtain ⟨time', pins', loader', free', pending'⟩ := tested (supplyEntered n tb s)
  obtain ⟨time'', pins'', loader'', free'', pending''⟩ :=
    (supplyTold_aside (evict n (dropOldest s)) (supplyEvent n.supplyPart (supplyEntered n tb s))).frame
  exact ⟨time''.trans (time'.trans time), pins''.trans (pins'.trans pins), loader''.trans (loader'.trans loader),
    free''.trans (free'.trans free), pending''.trans (pending'.trans pending)⟩

theorem supplied_entered (h : Handles s n rest tb 3) : Entered s (supplied n tb s) tb rest := by
  obtain ⟨-, queue, -, -⟩ := h
  have aside := supplyTold_aside (evict n (dropOldest s)) (supplyEvent n.supplyPart (supplyEntered n tb s))
  obtain ⟨rx, -⟩ := aside.marks
  obtain ⟨before, -⟩ := (supplyEntered_aside n tb s).marks
  have table : (supplyEvent n.supplyPart (supplyEntered n tb s)).table = tb := by simp [supplyEntered]
  have cfg : (supplyEvent n.supplyPart (supplyEntered n tb s)).cfg = s.cfg := by
    simp [State.cfg, supplyEntered, dropOldest]
  refine ⟨?_, ?_, ?_, ?_⟩
  · exact (supplyTold_sameDock _ _).table.trans table
  · exact rx.trans ((supplyEvent_rx _ _).trans (before.trans (by simp [dropOldest, queue])))
  · exact (supplyTold_heard _ _).trans (by rw [table, cfg])
  · obtain ⟨time, pins, loader, free, pending⟩ := supplied_frame n tb s
    simp [OnlyIn, time, pins, loader, free, pending]

theorem supplied_consequences (h : Handles s n rest tb 3) (latch : s.hold.reasons.driveFault = false)
    (quiet : n.supplyPart.state ≠ .fault ∨ (evict n s).charge.phase.charging = false) :
    Consequences s (supplied n tb s) := by
  obtain ⟨charge, -⟩ := supplyEntered_kept n tb s
  have tested : Aside (supplyEntered n tb s) (supplyEvent n.supplyPart (supplyEntered n tb s)) := by
    rw [supplyEvent_quiet (by rwa [charge])]
    exact onCharge_aside _ _
  have aside := ((supplyEntered_aside n tb s).trans tested).trans (supplyTold_aside (evict n (dropOldest s)) _)
  exact (supplied_handing n tb latch).consequences aside (runClosed_relation.exec .supply s rfl _ (exec_supply h))

/-! ### A SUPPLY that ends no charge (R97, R108) -/

theorem supplied_kept (n : Notice) (tb : Table) (s : State) : (supplied n tb s).charge.supplyLost = false := by
  have tested : (supplyEvent n.supplyPart (supplyEntered n tb s)).charge.supplyLost = false := by
    rw [supplyEvent_eq]
    split
    · simp [chargeFault_eq, endCharge_charge (ph := .fault) rfl, echoTested]
    · rfl
  exact (supplyTold_sameDock _ _).supplyLost.trans tested

/-- An echo that comes in while neither the phase nor the ask moves is awaited no more (R97). -/
theorem supplied_echoed (quiet : n.supplyPart.state ≠ .fault ∨ (evict n s).charge.phase.charging = false)
    (echo : echoes n.supplyPart (evict n s).charge.ask = true)
    (ask : (supplied n tb s).charge.ask = (evict n s).charge.ask)
    (phase : (supplied n tb s).charge.phase = (evict n s).charge.phase) :
    (supplied n tb s).charge.awaiting = false := by
  obtain ⟨charge, -⟩ := supplyEntered_kept n tb s
  have tested : supplyEvent n.supplyPart (supplyEntered n tb s) = echoTested n.supplyPart (supplyEntered n tb s) :=
    supplyEvent_quiet (by rwa [charge])
  have echoed : Echoed (evict n s).charge.phase (evict n s).charge.ask
      (supplyEvent n.supplyPart (supplyEntered n tb s)) := by
    rw [tested]
    simp [Echoed, echoTested, charge, echo]
  have tracked : Tracked (evict n s).charge.phase (evict n s).charge.ask (supplied n tb s) :=
    supplyTold_tracked echoed (by rw [tested]; rfl)
  exact tracked.echoed ask phase

/-! ### A SUPPLY in FAULT (R110) -/

/-- A charge FAULT pushes its entry with the figures that it finds (R110, R173). -/
theorem chargeFault_history (k : FaultKind) (v : State) : (chargeFault k v).hold.history =
    (⟨k, v.drive.runNumber, v.pack.soc, v.pack.tPack, v.krpm, v.time.seconds⟩ :: v.hold.history).take 8 := by
  have kept : ScanSettling v (endCharge .fault v) :=
    (((enterPhase_settling (by simp [bleedPhase]) _).trans (refreshAsk_settling _)).trans
      (switchJudge_settling _)).toScanSettling
  obtain ⟨driven, -, -⟩ := endCharge_quiet (ph := .fault) rfl v
  have soc : (endCharge .fault v).pack.soc = v.pack.soc := by rw [kept.pack]
  have time : (endCharge .fault v).time = v.time := by simp [endCharge]
  have hold : (endCharge .fault v).hold = v.hold := by simp [endCharge]
  simp [chargeFault_eq, pushHistory, driven, soc, kept.tPack, State.krpm, time, hold]

theorem supplied_fault (h : Handles s n rest tb 3) (fault : n.supplyPart.state = .fault)
    (charging : (evict n s).charge.phase.charging = true) : let t := supplied n tb s
    Entered s t tb rest ∧ t.charge.phase = .fault ∧ t.charge.supplyLost = false ∧ t.charge.ask = .disabled ∧
      t.charge.switch = false ∧ Raised .chargeFault t ∧ Logged .dockFault (evict n s) t ∧
      t.hold.history.tail = s.hold.history.take 7 ∧
    (s.hold.reasons.driveFault = false → OwnReasonsKept s.hold.reasons t.hold.reasons ∧ CountersKept s t) := by
  obtain ⟨charge, hold, drive, pack, time, -⟩ := supplyEntered_kept n tb s
  set v := echoTested n.supplyPart (supplyEntered n tb s) with hv
  set u := endCharge .fault v with hu
  have tested : supplyEvent n.supplyPart (supplyEntered n tb s) = chargeFault .dockFault v :=
    supplyEvent_fault fault (by rw [charge, charging])
  have ended : (chargeFault .dockFault v).charge = u.charge := by simp [chargeFault_eq, hu]
  have out := endCharge_charge (ph := .fault) rfl v
  have rested : Rested (chargeFault .dockFault v).charge := by
    rw [ended, hu, out]
    exact ⟨.inr (.inr rfl), rfl, rfl⟩
  have last : (supplied n tb s).charge = u.charge := by
    rw [supplied, tested, supplyTold_of_rested rested, ended]
  have flags := supplyTold_flags (evict n (dropOldest s)) (chargeFault .dockFault v) .chargeFault
    (raise_raised .chargeFault u)
  have aside := supplyTold_aside (evict n (dropOldest s)) (chargeFault .dockFault v)
  have history : (evict n s).hold.history = s.hold.history := (evict_aside n s).history
  have logged : Logged .dockFault (evict n s) (supplied n tb s) := by
    have now : (supplied n tb s).time = v.time := by
      obtain ⟨after, -⟩ := supplied_frame n tb s
      exact after.trans time.symm
    have soc : v.pack.soc = (evict n s).pack.soc := by rw [← pack]; rfl
    have temp : v.pack.tPack = (evict n s).pack.tPack := by rw [← pack]; rfl
    have motor : v.drive = (evict n s).drive := drive
    have held : v.hold = (evict n s).hold := hold
    rw [Logged, now, supplied, tested, aside.history, chargeFault_history, soc, temp, State.krpm, motor, held]
    rfl
  refine ⟨supplied_entered h, by rw [last, hu, out], supplied_kept n tb s, by rw [last, hu, out], by rw [last, hu, out],
    by rw [supplied, tested]; exact flags, logged, by rw [logged, history]; simp, fun latch => ?_⟩
  have handing := supplied_handing n tb latch
  exact ⟨handing.own, handing.easing.counters⟩

end

/-- Settles O45: the eviction is one event, and the tests and what they set off are another; the charge controller may
settle more than once in it, but no ask that has changed comes back with the phase (`Tracked`). -/
theorem supplyTestsEcho : Obligations.SupplyTestsEcho := by
  intro s n rest tb old x
  refine ⟨fun h quiet => ?_, fun h fault charging => ?_, fun h fault paused evicts dock ready live strong kept responsive
    free => ?_⟩ <;> refine supply_answers h ?_
  · exact ⟨supplied_entered h, fun latch => ⟨supplied_consequences h latch quiet, (supplied_handing n tb latch).own⟩,
      supplied_kept n tb s, supplied_echoed quiet⟩
  · exact supplied_fault h fault charging
  · have ripe : Ripe x (s.onTable fun _ => s.table.remove old.station) := by
      obtain ⟨window, current⟩ : s.window = some x ∧ x.iChg ≠ 0 := by
        unfold State.liveWindow at live
        split at live
        case h_1 w window =>
          split at live
          · contradiction
          · cases live
            exact ⟨window, ‹_›⟩
        case h_2 => contradiction
      exact ⟨.inr paused, window, current, ready, strong, kept, responsive⟩
    obtain ⟨entered, phase, -, ask, switch, raised, logged, tail, -⟩ :=
      supplied_fault h fault (evict_charging evicts dock ripe free)
    exact ⟨entered, phase, raised, logged, tail, ask, switch⟩

end Sys2Proof.Proofs
end

section
/-! ## What an event does to the line, and what telling it does (R121, R122, R130, R131)

`LineHanded` is what the hand-on of a reason, of the table or of the charge controller does to the line: it may put an
ask and bring the STATE cadence forward, and nothing else. -/

namespace Sys2Proof.Proofs
open Sys2Proof.Machine Sys2Proof.Safety

/-! ### Slots -/

theorem onSlot_slot_same (l : Line) (i : SlotId) (f : Slot → Slot) : (l.onSlot i f).slot i =
    ⟨f (l.slot i).slot, (l.slot i).errors⟩ := by
  cases i <;> rfl

theorem setSlot_slot_same (l : Line) (i : SlotId) (t : TxSlot) : (l.setSlot i t).slot i = t := by cases i <;> rfl

theorem setSlot_slot_other {i j : SlotId} (h : j ≠ i) (l : Line) (t : TxSlot) : (l.setSlot i t).slot j = l.slot j := by
  cases i <;> cases j <;> simp_all [Line.setSlot, Line.slot]

@[simp] theorem setSlot_rx (l : Line) (i : SlotId) (t : TxSlot) : (l.setSlot i t).rx = l.rx := by cases i <;> rfl

@[simp] theorem newest_lost (sl : Slot) : newest sl.lost = newest sl := by cases sl <;> rfl

@[simp] theorem occupied_put (w : List Byte) (sl : Slot) : occupied (sl.put w) = true := by cases sl <;> rfl

@[simp] theorem occupied_begin (w : List Byte) (sl : Slot) : occupied (sl.begin w) = occupied sl := by cases sl <;> rfl

theorem occupied_of_waiting {sl : Slot} (h : sl.waiting.isSome = true) : occupied sl = true := by
  cases sl <;> simp_all [Slot.waiting, occupied, newest]

/-! ### The hand-on -/

/-- The line may have got an ask, and its STATE cadence may have moved; the report unit is the same. -/
structure LineHanded (s t : State) : Prop where
  line : t.line = { s.line with
    ask := t.line.ask, unsettled := t.line.unsettled, stateCadence := t.line.stateCadence }
  errors : t.line.ask.errors = s.line.ask.errors
  asked : occupied s.line.ask.slot = true → occupied t.line.ask.slot = true
  unsettled : t.line.unsettled.isSome = s.line.unsettled.isSome
  report : t.report = s.report
  running : t.running = s.running

theorem LineHanded.trans {s t u : State} (a : LineHanded s t) (b : LineHanded t u) : LineHanded s u where
  line := by rw [b.line, a.line]
  errors := b.errors.trans a.errors
  asked h := b.asked (a.asked h)
  unsettled := b.unsettled.trans a.unsettled
  report := b.report.trans a.report
  running := b.running.trans a.running

theorem LineHanded.of_kept {s t : State} (h : t.line = s.line ∧ t.report = s.report ∧ t.power = s.power) :
    LineHanded s t := by
  obtain ⟨line, report, power⟩ := h
  exact ⟨by rw [line], by rw [line], by rw [line]; exact id, by rw [line], report, running_of_power power⟩

theorem LineHanded.refl (s : State) : LineHanded s s := .of_kept ⟨rfl, rfl, rfl⟩

theorem changeAsk_lineHanded (a : Ask) (s : State) : LineHanded s (changeAsk a s) := by
  unfold changeAsk
  split
  · exact .refl s
  · constructor <;> simp [putSlot, Line.onSlot, Line.setSlot, Line.slot, State.running]

theorem enterAwakeOrDoze_lineHanded (b : Bool) {s : State} (running : s.running = true) :
    LineHanded s (enterAwakeOrDoze b s) := by
  unfold enterAwakeOrDoze
  (repeat' split)
  · exact .refl s
  · constructor <;> simp_all [State.running, PowerState.running]
  · constructor <;> simp_all [State.running, PowerState.running]

theorem powerJudge_lineHanded (s : State) : LineHanded s (powerJudge s) := by
  have running := powerJudge_running s
  unfold powerJudge at running ⊢
  split
  case isTrue awake =>
    have judged := enterAwakeOrDoze_lineHanded s.keptAwake awake
    rw [if_pos awake] at running
    exact ⟨by simpa using judged.line, by simpa using judged.errors, by simpa using judged.asked,
      by simpa using judged.unsettled, by simp, running⟩
  case isFalse => exact .refl s

theorem switchJudge_lineHanded (s : State) : LineHanded s (switchJudge s) := .of_kept (by simp)

theorem railJudge_lineHanded (s : State) : LineHanded s (railJudge s) := .of_kept (by simp)

theorem chargeReview_lineHanded (s : State) : LineHanded s (chargeReview s) := .of_kept (by simp)

theorem chargeSettle_lineHanded (s : State) : LineHanded s (chargeSettle s) :=
  ((chargeReview_lineHanded s).trans (changeAsk_lineHanded _ _)).trans (switchJudge_lineHanded _)

theorem handCharge_lineHanded (s : State) : LineHanded s (handCharge s) :=
  (chargeSettle_lineHanded s).trans (powerJudge_lineHanded _)

theorem handReasons_lineHanded (s : State) : LineHanded s (handReasons s) := by
  have suction : LineHanded s (handStopSuction s) := by
    unfold handStopSuction
    split <;> exact .of_kept (by simp [formHolds])
  have settled : ∀ b u, LineHanded u (handStopCharge b u) := by
    intro b u
    unfold handStopCharge
    split
    · exact switchJudge_lineHanded u
    · exact chargeSettle_lineHanded u
  rw [handReasons_eq]
  exact ((suction.trans (settled _ _)).trans (railJudge_lineHanded _)).trans (powerJudge_lineHanded _)

theorem onReasons_lineHanded (f : Reasons → Reasons) (s : State) : LineHanded s (onReasons f s) :=
  LineHanded.trans (.of_kept (by simp)) (handReasons_lineHanded _)

theorem latchTest_lineHanded (s : State) : LineHanded s (latchTest s) := by
  unfold latchTest
  split
  · exact LineHanded.trans (.of_kept (by simp)) (onReasons_lineHanded _ _)
  · exact .refl s

theorem handTable_lineHanded (t0 : Table) (s : State) : LineHanded s (handTable t0 s) := by
  have latch : LineHanded s (if s.table.wish = t0.wish then s else latchTest s) := by
    split
    · exact .refl s
    · exact latchTest_lineHanded s
  have holds : ∀ u, LineHanded u (if u.table.heardUnion u.cfg.holdStations = u.hold.heard then u else handReasons u) := by
    intro u
    split
    · exact .refl u
    · exact handReasons_lineHanded u
  have wished : LineHanded s (handWish t0 s) := latch.trans (holds _)
  rw [handTable_eq]
  split
  · exact wished.trans (handCharge_lineHanded _)
  · exact wished.trans (powerJudge_lineHanded _)

theorem setTable_lineHanded (tb : Table) (s : State) : LineHanded s (setTable tb s) :=
  LineHanded.trans (.of_kept (by simp)) (handTable_lineHanded _ _)

/-! ### What an event tells the line -/

/-- An event without a change of content or of the local reasons tells the line nothing (log 8). -/
theorem tell_of_same {s0 s : State} (content : s.content = s0.content) (reasons : s.hold.reasons = s0.hold.reasons) :
    Machine.tell s0 s = s := by
  simp [Machine.tell, tellState, tellHold, content, reasons]

theorem publish_of_same {s0 s : State} (content : s.content = s0.content) (reasons : s.hold.reasons = s0.hold.reasons) :
    publish s0 s = beginAttempt s := by
  rw [publish, tell_of_same content reasons, ite_self]

theorem beginAttempt_of_not {s : State} (h : s.mayBegin = false) : beginAttempt s = s := by simp [beginAttempt, h]

theorem mayBegin_iff (s : State) : s.mayBegin = true ↔
    s.running = true ∧ s.line.state = .idle ∧ s.line.attempt = none ∧ s.line.unsettled = none := by
  simp [State.mayBegin, and_assoc]

/-- Whether an attempt may begin depends on these marks alone (R122). -/
theorem mayBegin_of_kept {s t : State} (running : t.running = s.running) (state : t.line.state = s.line.state)
    (attempt : t.line.attempt = s.line.attempt) (unsettled : t.line.unsettled.isSome = s.line.unsettled.isSome) :
    t.mayBegin = s.mayBegin := by
  have none : t.line.unsettled.isNone = s.line.unsettled.isNone := by simp [← Option.not_isSome, unsettled]
  simp [State.mayBegin, running, state, attempt, none]

theorem mayBegin_of_state {s : State} (h : s.line.state ≠ .idle) : s.mayBegin = false := by simp [State.mayBegin, h]

/-- What stays in a putting of STATE or HOLD: the attempt, the line's state, and the slots of the other classes. -/
structure Told (s t : State) : Prop where
  line : t.line = { s.line with
    hold := t.line.hold, state_ := t.line.state_, unsettled := t.line.unsettled, stateCadence := t.line.stateCadence
    holdoff := t.line.holdoff, lastStatePut := t.line.lastStatePut, holdCadence := t.line.holdCadence }
  unsettled : t.line.unsettled.isSome = s.line.unsettled.isSome
  errors : t.line.hold.errors = s.line.hold.errors ∧ t.line.state_.errors = s.line.state_.errors
  occupied : (occupied s.line.hold.slot = true → occupied t.line.hold.slot = true) ∧
    (occupied s.line.state_.slot = true → occupied t.line.state_.slot = true)

theorem Told.trans {s t u : State} (a : Told s t) (b : Told t u) : Told s u where
  line := by rw [b.line, a.line]
  unsettled := b.unsettled.trans a.unsettled
  errors := ⟨b.errors.1.trans a.errors.1, b.errors.2.trans a.errors.2⟩
  occupied := ⟨fun h => b.occupied.1 (a.occupied.1 h), fun h => b.occupied.2 (a.occupied.2 h)⟩

theorem Told.refl (s : State) : Told s s := ⟨rfl, rfl, ⟨rfl, rfl⟩, id, id⟩

theorem putState_tells (s : State) : Told s (putState s) := by
  constructor <;> simp [putState, putSlot, Line.onSlot, Line.setSlot, Line.slot]

theorem contentChange_tells (s : State) : Told s (contentChange s) := by
  unfold contentChange
  (repeat' split)
  · exact .refl s
  · exact putState_tells s
  · constructor <;> simp

theorem putHold_tells (s : State) : Told s (putHold s) := by
  unfold putHold
  split
  · exact .refl s
  · constructor <;> simp [putSlot, Line.onSlot, Line.setSlot, Line.slot]

theorem tellState_tells (s0 s : State) : Told s (tellState s0 s) := by
  unfold tellState
  split
  · exact .refl s
  · exact contentChange_tells s

theorem tellHold_tells (s0 s : State) : Told s (tellHold s0 s) := by
  unfold tellHold
  split
  · exact .refl s
  · exact putHold_tells s

theorem tell_tells (s0 s : State) : Told s (Machine.tell s0 s) := (tellState_tells s0 s).trans (tellHold_tells s0 _)

/-- What an event tells, without the attempt that may then begin. -/
def tellEvent (s0 s : State) : State := if s.rewoken s0 then s else Machine.tell s0 s

theorem publish_eq (s0 s : State) : publish s0 s = beginAttempt (tellEvent s0 s) := rfl

theorem tellEvent_tells (s0 s : State) : Told s (tellEvent s0 s) := by
  unfold tellEvent
  split
  · exact .refl s
  · exact tell_tells s0 s

@[simp] theorem tellEvent_frame (s0 s : State) :
    (tellEvent s0 s).time = s.time ∧ (tellEvent s0 s).pins = s.pins ∧ (tellEvent s0 s).loader = s.loader ∧
    (tellEvent s0 s).pack = s.pack ∧ (tellEvent s0 s).allow = s.allow ∧ (tellEvent s0 s).drive = s.drive ∧
    (tellEvent s0 s).dirt = s.dirt ∧ (tellEvent s0 s).charge = s.charge ∧ (tellEvent s0 s).table = s.table ∧
    (tellEvent s0 s).report = s.report ∧ (tellEvent s0 s).hold = s.hold ∧ (tellEvent s0 s).attach = s.attach ∧
    (tellEvent s0 s).power = s.power ∧ (tellEvent s0 s).free = s.free ∧ (tellEvent s0 s).pending = s.pending := by
  unfold tellEvent Machine.tell tellHold tellState
  (repeat' split) <;> simp

theorem Told.mayBegin {s t : State} (h : Told s t) (power : t.power = s.power) : t.mayBegin = s.mayBegin :=
  mayBegin_of_kept (running_of_power power) (by rw [h.line]) (by rw [h.line]) h.unsettled

theorem tellEvent_mayBegin (s0 s : State) : (tellEvent s0 s).mayBegin = s.mayBegin :=
  (tellEvent_tells s0 s).mayBegin (by simp)

/-- Where no attempt may begin, an event tells and no more. -/
theorem publish_of_not {s0 s : State} (h : s.mayBegin = false) : publish s0 s = tellEvent s0 s := by
  rw [publish_eq, beginAttempt_of_not (by rw [tellEvent_mayBegin, h])]

/-! ### The attempt that begins -/

theorem startAttempt_line (i : SlotId) (w : List Byte) (s : State) : ∃ payload,
    (startAttempt i w s).line = { s.line.onSlot i (Slot.begin payload) with
      state := .busy, dominantFrom := some s.now, risesAt := none, recessiveFrom := none, reception := none
      attempt := some ⟨i, s.now, noticeChars i.cls s.cfg.station payload⟩ } := by
  have launched : ∀ u : State, (onAnswer i .launched u).line = u.line ∧ (onAnswer i .launched u).time = u.time ∧
      (onAnswer i .launched u).loader = u.loader := fun u => by simp
  refine ⟨payloadNow i w (onAnswer i .launched (if i = .state then carryFlags s else s)), ?_⟩
  have carried : (if i = .state then carryFlags s else s).line = s.line ∧
      (if i = .state then carryFlags s else s).time = s.time ∧
      (if i = .state then carryFlags s else s).loader = s.loader := by split <;> simp
  obtain ⟨line, time, loader⟩ := launched (if i = .state then carryFlags s else s)
  unfold startAttempt
  dsimp only
  rw [onLine_line, line, carried.1, State.now, time, carried.2.1, State.cfg, loader, carried.2.2]
  rfl

/-- Where an attempt may begin and a slot waits, it begins from the slot of lowest class (R122). -/
theorem beginAttempt_of_waiting {s : State} {i : SlotId} {w : List Byte} (may : s.mayBegin = true)
    (next : s.line.nextSlot = some (i, w)) : beginAttempt s = startAttempt i w s := by
  simp [beginAttempt, may, next]

theorem beginAttempt_of_none {s : State} (next : s.line.nextSlot = none) : beginAttempt s = s := by
  unfold beginAttempt
  split
  · rw [next]
  · rfl

/-- An attempt does not begin, or it begins from a slot that waits. -/
theorem beginAttempt_cases (s : State) : beginAttempt s = s ∨
    ∃ i w, s.mayBegin = true ∧ s.line.nextSlot = some (i, w) ∧ beginAttempt s = startAttempt i w s := by
  cases may : s.mayBegin with
  | false => exact .inl (beginAttempt_of_not may)
  | true =>
    cases next : s.line.nextSlot with
    | none => exact .inl (beginAttempt_of_none next)
    | some p => exact .inr ⟨p.1, p.2, rfl, rfl, beginAttempt_of_waiting may next⟩

theorem startAttempt_mayBegin (i : SlotId) (w : List Byte) (s : State) : (startAttempt i w s).mayBegin = false := by
  obtain ⟨payload, line⟩ := startAttempt_line i w s
  exact mayBegin_of_state (by simp [line])

/-- After an event no slot waits on a line on which an attempt may begin (R122). -/
theorem beginAttempt_lawIdle (s : State) : lawIdle (beginAttempt s) := by
  intro may
  rcases beginAttempt_cases s with same | ⟨i, w, -, -, begun⟩
  · rw [same] at may ⊢
    by_contra waits
    obtain ⟨⟨i, w⟩, next⟩ := Option.ne_none_iff_exists'.mp waits
    rw [beginAttempt_of_waiting may next] at same
    rw [← same, startAttempt_mayBegin] at may
    contradiction
  · rw [begun, startAttempt_mayBegin] at may
    contradiction

theorem publish_lawIdle (s0 s : State) : lawIdle (publish s0 s) := beginAttempt_lawIdle _

end Sys2Proof.Proofs
end

section
/-! ## Events that put STATE and an ask at most (R96, R130, R141)

`LineCalm` is what every event outside the line does to it: a flag raised or an ask put. The line's state, its attempt,
its marks, the receive queue and the slots of HOLD and REPORT stay. -/

namespace Sys2Proof.Proofs
open Sys2Proof.Machine Sys2Proof.Safety

/-- A change of content is owed to the line: STATE stands in its slot, or the change-holdoff mark is set (R130). -/
def StateOwed (l : Line) : Prop := occupied l.state_.slot = true ∨ l.holdoff = true

theorem putState_owed (s : State) : StateOwed (putState s).line :=
  .inl (by simp [putState, putSlot, Line.onSlot, Line.setSlot, Line.slot])

/-- After a change of content told while the unit runs, STATE stands in its slot or the holdoff mark is set (R130). -/
theorem contentChange_owed {s : State} (running : s.running = true) : StateOwed (contentChange s).line := by
  unfold contentChange
  split
  case isTrue h =>
    simp only [running, Bool.not_true, Bool.false_or] at h
    exact .inl (occupied_of_waiting h)
  case isFalse =>
    split
    · exact putState_owed s
    · exact .inr (by simp)

/-- What a change of content leaves of what is owed. -/
theorem contentChange_keepsOwed {s : State} (owed : StateOwed s.line) : StateOwed (contentChange s).line := by
  cases running : s.running
  · simpa [contentChange, running] using owed
  · exact contentChange_owed running

/-- The line's state, attempt and marks, the receive queue, HOLD and REPORT are the same; STATE may have been put and an
ask too. -/
structure LineCalm (s t : State) : Prop where
  line : t.line = { s.line with
    ask := t.line.ask, state_ := t.line.state_, unsettled := t.line.unsettled, stateCadence := t.line.stateCadence
    holdoff := t.line.holdoff, lastStatePut := t.line.lastStatePut }
  unsettled : t.line.unsettled.isSome = s.line.unsettled.isSome
  owed : StateOwed s.line → StateOwed t.line
  ship : t.report.shipAnswer = s.report.shipAnswer ∧ t.report.shipPending = s.report.shipPending
  running : t.running = s.running

theorem LineCalm.trans {s t u : State} (a : LineCalm s t) (b : LineCalm t u) : LineCalm s u where
  line := by rw [b.line, a.line]
  unsettled := b.unsettled.trans a.unsettled
  owed h := b.owed (a.owed h)
  ship := ⟨b.ship.1.trans a.ship.1, b.ship.2.trans a.ship.2⟩
  running := b.running.trans a.running

theorem LineCalm.of_kept {s t : State} (h : t.line = s.line ∧ t.report = s.report ∧ t.power = s.power) :
    LineCalm s t := by
  obtain ⟨line, report, power⟩ := h
  exact ⟨by rw [line], by rw [line], by rw [line]; exact id, by simp [report], running_of_power power⟩

theorem LineCalm.refl (s : State) : LineCalm s s := .of_kept ⟨rfl, rfl, rfl⟩

theorem LineHanded.calm {s t : State} (h : LineHanded s t) : LineCalm s t where
  line := by rw [h.line]
  unsettled := h.unsettled
  owed owed := by rw [h.line]; exact owed
  ship := by simp [h.report]
  running := h.running

theorem contentChange_calm (s : State) : LineCalm s (contentChange s) where
  line := by
    unfold contentChange
    (repeat' split) <;> simp [putState, putSlot, Line.onSlot, Line.setSlot, Line.slot]
  unsettled := (contentChange_tells s).unsettled
  owed := contentChange_keepsOwed
  ship := by simp
  running := running_of_power (by simp)

theorem raise_calm (f : Flag) (s : State) : LineCalm s (raise f s) :=
  LineCalm.trans (t := s.onReport fun r => { r with flags := r.flags.modify f.bit FlagState.raised })
    ⟨rfl, rfl, id, ⟨rfl, rfl⟩, rfl⟩ (contentChange_calm _)

theorem onHold_calm (f : Hold → Hold) (s : State) : LineCalm s (s.onHold f) := .of_kept (by simp)

theorem onCharge_calm (f : Charge → Charge) (s : State) : LineCalm s (s.onCharge f) := .of_kept (by simp)

theorem changeAsk_calm (a : Ask) (s : State) : LineCalm s (changeAsk a s) := (changeAsk_lineHanded a s).calm

theorem switchJudge_calm (s : State) : LineCalm s (switchJudge s) := (switchJudge_lineHanded s).calm

theorem chargeReview_calm (s : State) : LineCalm s (chargeReview s) := (chargeReview_lineHanded s).calm

theorem pushHistory_calm (k : FaultKind) (s : State) : LineCalm s (pushHistory k s) := onHold_calm _ s

theorem enterPhase_calm (ph : ChargePhase) (s : State) : LineCalm s (enterPhase ph s) := .of_kept (by simp)

/-- An ask formed afresh and the switch judged. -/
theorem judged_calm (s : State) : LineCalm s (switchJudge (refreshAsk s)) :=
  (changeAsk_calm _ s).trans (switchJudge_calm _)

theorem handDrive_calm (s : State) : LineCalm s (handDrive s) :=
  ((switchJudge_lineHanded s).trans (powerJudge_lineHanded _)).calm

theorem handReasons_calm (s : State) : LineCalm s (handReasons s) := (handReasons_lineHanded s).calm

theorem onReasons_calm (f : Reasons → Reasons) (s : State) :
    LineCalm s (onReasons f s) := (onReasons_lineHanded f s).calm

theorem setTable_calm (tb : Table) (s : State) : LineCalm s (setTable tb s) := (setTable_lineHanded tb s).calm

theorem powerJudge_calm (s : State) : LineCalm s (powerJudge s) := (powerJudge_lineHanded s).calm

theorem handCharge_calm (s : State) : LineCalm s (handCharge s) := (handCharge_lineHanded s).calm

/-! ### The drive -/

theorem driveFault_calm (k : FaultKind) (s : State) : LineCalm s (driveFault k s) := by
  have entered : LineCalm s (raise .driveFault (quietDrive .fault (pushHistory k s))) :=
    LineCalm.trans (.of_kept (by simp [pushHistory])) (raise_calm _ _)
  unfold driveFault
  dsimp only
  split
  · exact entered.trans (onReasons_calm _ _)
  · exact (entered.trans (.of_kept (by simp))).trans (onReasons_calm _ _)

/-! ### The charge controller -/

theorem undock_calm (b : Bool) (s : State) : LineCalm s (undock b s) := by
  unfold undock
  refine LineCalm.trans ?_ (switchJudge_calm _)
  split
  · constructor <;> simp [putSlot, Line.onSlot, Line.setSlot, Line.slot, State.running, StateOwed]
  · exact .of_kept (by simp)

theorem chargeFault_calm (k : FaultKind) (s : State) : LineCalm s (chargeFault k s) :=
  (((enterPhase_calm .fault s).trans (judged_calm _)).trans (raise_calm .chargeFault _)).trans
    (pushHistory_calm k _)

theorem chargeDone_calm (s : State) : LineCalm s (chargeDone s) :=
  (((enterPhase_calm .done s).trans (judged_calm _)).trans (.of_kept (by simp))).trans (raise_calm _ _)

theorem supplyEvent_calm (p : SupplyPart) (s : State) : LineCalm s (supplyEvent p s) := by
  have faulted : ∀ (c : Prop) [Decidable c] (u : State), LineCalm u (if c then chargeFault .dockFault u else u) := by
    intro c _ u
    split
    · exact chargeFault_calm _ u
    · exact .refl u
  exact (onCharge_calm _ s).trans (faulted _ _)

theorem windowReview_calm (s : State) : LineCalm s (windowReview s) := by
  unfold windowReview
  dsimp only
  (repeat' split)
  · exact .refl s
  · exact .refl s
  · exact ((onCharge_calm _ s).trans (chargeReview_calm _)).trans (changeAsk_calm _ _)
  · exact (onCharge_calm _ s).trans (chargeReview_calm _)
  · exact (onCharge_calm _ s).trans (chargeReview_calm _)

theorem chargeScan_calm (high throughout : Bool) (s : State) : LineCalm s (chargeScan high throughout s) := by
  have faulted : ∀ c : Bool, LineCalm s (if c then chargeFault .cellHigh s else s) := by
    intro c
    split
    · exact chargeFault_calm _ s
    · exact .refl s
  have guarded : ∀ u, LineCalm u (supplyGuard throughout u) := by
    intro u
    unfold supplyGuard
    split
    · exact onCharge_calm _ u
    · exact .refl u
  have reviewed : ∀ u, LineCalm u (refreshAsk (chargeReview (windowReview u))) := fun u =>
    ((windowReview_calm u).trans (chargeReview_calm _)).trans (changeAsk_calm _ _)
  have progressed : ∀ (c : Prop) [Decidable c] (u : State), LineCalm u (if c then phaseProgress u else u) := by
    intro c _ u
    split
    · exact .of_kept (by simp)
    · exact .refl u
  have terminated : ∀ (c : Prop) [Decidable c] (u : State), LineCalm u (if c then terminationJudge u else u) := by
    intro c _ u
    split
    · exact .of_kept (by simp)
    · exact .refl u
  exact (((((faulted _).trans (guarded _)).trans (reviewed _)).trans (progressed _ _)).trans (judged_calm _)).trans
    (terminated _ _)

/-! ### A scan's events (R3) -/

theorem raiseSome_calm (f : Option Flag) (s : State) : LineCalm s (raiseSome f s) := by
  cases f with
  | none => exact .refl s
  | some f => exact raise_calm f s

theorem acceptScan_calm (r : ScanReading) (s : State) : LineCalm s (acceptScan r s) := by
  have judged : ∀ u, LineCalm u (balance (emptyRest (startValue (sensorJudge u)))) := fun u => .of_kept (by simp)
  exact (LineCalm.trans (t := s.onPack (takeReadings s.cfg r)) (.of_kept (by simp)) (raiseSome_calm _ _)).trans (judged _)

theorem scanPack_calm (r : ScanReading) (s : State) : LineCalm s (scanPack r s) := by
  unfold scanPack
  split
  · exact (LineCalm.trans (.of_kept (by simp [clearScan])) (acceptScan_calm r _)).trans (handReasons_calm _)
  · exact LineCalm.trans (.of_kept (by simp [clearScan])) (handReasons_calm _)

theorem scanTemps_calm (r : ScanReading) (s : State) : LineCalm s (scanTemps r s) := by
  unfold scanTemps
  split
  · exact LineCalm.trans (.of_kept (by simp [packReasons])) (handReasons_calm _)
  · exact .refl s

theorem scanCharge_calm (r : ScanReading) (s0 s : State) : LineCalm s (scanCharge r s0 s) := by
  unfold scanCharge
  split
  · exact (chargeScan_calm _ _ s).trans (powerJudge_calm _)
  · exact .refl s

theorem scanAllowance_calm (s : State) : LineCalm s (scanAllowance s) := by
  have driven : LineCalm s (driveTarget (excessJudge (s.onAllow fun _ => s.computed)).allow.target
      (excessJudge (s.onAllow fun _ => s.computed))) := .of_kept (by simp [excessJudge])
  exact (driven.trans (handDrive_calm _)).trans (handReasons_calm _)

/-! ### The line -/

theorem conflictEvidence_calm {s : State} : LineCalm (s.onLine fun l => { l with conflict := some (s.now + sec 5) })
    (conflictEvidence s) := (raise_calm _ _).trans (handReasons_calm _)

end Sys2Proof.Proofs
end

section
/-! ## The station table and the receive queue from step to step (R120, R122, R151) -/

namespace Sys2Proof.Proofs
open Sys2Proof.Machine Sys2Proof.Safety

/-! ### Tables -/

/-- A station that may have a record: from 1 to 14, and not the 6224's own (R151). -/
def Admitted (own st : Nat) : Prop := 1 ≤ st ∧ st ≤ 14 ∧ st ≠ own

/-- R151 of a table. -/
def TableSound (own : Nat) (tb : Table) : Prop :=
  tb.records.length ≤ 6 ∧ (tb.records.map (·.station)).Nodup ∧ ∀ r ∈ tb.records, Admitted own r.station

/-- A table whose records are some of a sound table's is sound. -/
theorem TableSound.of_sublist {own : Nat} {tb tb' : Table} (sound : TableSound own tb)
    (h : tb'.records.Sublist tb.records) : TableSound own tb' := by
  obtain ⟨few, nodup, admitted⟩ := sound
  exact ⟨h.length_le.trans few, nodup.sublist (h.map _), fun r hr => admitted r (h.subset hr)⟩

theorem removeWhere_sound {own : Nat} {tb : Table} (p : Record → Bool) (sound : TableSound own tb) :
    TableSound own (tb.removeWhere p) := sound.of_sublist List.filter_sublist

theorem remove_sound {own : Nat} {tb : Table} (st : Nat) (sound : TableSound own tb) : TableSound own (tb.remove st) :=
  removeWhere_sound _ sound

theorem update_sound {own : Nat} {tb : Table} (st : Nat) (f : Record → Record) (hf : ∀ r, (f r).station = r.station)
    (sound : TableSound own tb) : TableSound own (tb.update st f) := by
  have stations : (tb.update st f).records.map (·.station) = tb.records.map (·.station) := by
    simp only [Table.update, List.map_map, List.map_inj_left, Function.comp_apply]
    intro r _
    split <;> simp [hf]
  obtain ⟨few, nodup, admitted⟩ := sound
  refine ⟨by simpa [Table.update] using few, by rwa [stations], fun r hr => ?_⟩
  have known : r.station ∈ tb.records.map (·.station) := stations ▸ List.mem_map_of_mem hr
  obtain ⟨q, hq, same⟩ := List.mem_map.mp known
  exact same ▸ admitted q hq

/-- A record takes its place where there is room without the one of its station. -/
theorem place_sound {own : Nat} {tb : Table} {r : Record} (sound : TableSound own tb) (admits : Admitted own r.station)
    (room : (tb.records.filter (·.station ≠ r.station)).length < 6) : TableSound own (tb.place r) := by
  obtain ⟨-, nodup, admitted⟩ := sound
  refine ⟨by simpa [Table.place] using room, ?_, ?_⟩
  · simp only [Table.place, List.map_append, List.map_cons, List.map_nil]
    refine List.Nodup.append (nodup.sublist (List.filter_sublist.map _)) (List.nodup_singleton _) ?_
    simp [List.disjoint_singleton]
  · intro q hq
    simp only [Table.place, List.mem_append, List.mem_singleton] at hq
    rcases hq with old | rfl
    · exact admitted q (List.mem_of_mem_filter old)
    · exact admits

/-- Without a record of the table it holds less. -/
theorem filter_station_lt {tb : Table} {r : Record} (h : r ∈ tb.records) :
    (tb.records.filter (·.station ≠ r.station)).length < tb.records.length :=
  List.length_filter_lt_length_iff_exists.mpr ⟨r, h, by simp⟩

theorem reorder_records (tb : Table) (n : Notice) : (tb.reorder n).records = tb.records := by
  unfold Table.reorder
  (repeat' split) <;> rfl

theorem entered_station (r : Record) (n : Notice) (now : Nat) : (r.entered n now).station = r.station := by
  unfold Record.entered
  dsimp only
  split <;> rfl

theorem stalest_mem {tb : Table} {r : Record} (h : tb.stalest = some r) : r ∈ tb.records := by
  have older : ∀ (qs : List Record) (q : Record), qs.foldl olderOf q = q ∨ qs.foldl olderOf q ∈ qs := by
    intro qs
    induction qs with
    | nil => exact fun q => .inl rfl
    | cons x qs ih =>
      intro q
      have either : olderOf q x = q ∨ olderOf q x = x := by
        unfold olderOf
        split
        · exact .inr rfl
        · exact .inl rfl
      rcases ih (olderOf q x) with first | later
      · rcases either with same | next
        · exact .inl (first.trans same)
        · exact .inr (List.mem_cons.mpr (.inl (first.trans next)))
      · exact .inr (List.mem_cons_of_mem _ later)
  unfold Table.stalest at h
  split at h
  · contradiction
  · next q qs stale =>
    cases h
    refine List.mem_of_mem_filter (p := (·.stale)) (stale ▸ ?_)
    rcases older qs q with first | later
    · rw [first]; exact List.mem_cons_self
    · exact List.mem_cons_of_mem _ later

/-- Entering a notice of an admitted station keeps the table sound (R151). -/
theorem enter_sound {own : Nat} {tb tb' : Table} {n : Notice} {now : Nat} (sound : TableSound own tb)
    (admits : Admitted own n.station) (entered : tb.enter n now = some tb') : TableSound own tb' := by
  have ordered : ∀ u : Table, TableSound own u → TableSound own (u.reorder n) := fun u h =>
    h.of_sublist (by rw [reorder_records])
  unfold Table.enter at entered
  split at entered
  case h_1 r found =>
    cases entered
    have known : r ∈ tb.records := List.mem_of_find?_eq_some found
    have station : (r.entered n now).station = r.station := entered_station r n now
    have few : tb.records.length ≤ 6 := sound.1
    exact ordered _ (place_sound sound (station ▸ sound.2.2 r known)
      (by rw [station]; exact (filter_station_lt known).trans_le few))
  case h_2 =>
    have blank : ((Record.blank n.station).entered n now).station = n.station := entered_station _ n now
    split at entered
    · next room =>
      cases entered
      exact ordered _ (place_sound sound (by rwa [blank]) ((List.length_filter_le _ _).trans_lt room))
    · obtain ⟨old, evicts, rfl⟩ := Option.map_eq_some_iff.mp entered
      have known : old ∈ tb.records := by
        unfold Table.evicts at evicts
        split at evicts
        · contradiction
        · exact stalest_mem evicts
      have less : (tb.remove old.station).records.length < 6 := by
        have few : tb.records.length ≤ 6 := sound.1
        simpa [Table.remove, Table.removeWhere] using (filter_station_lt known).trans_le few
      exact ordered _ (place_sound (remove_sound _ sound) (by rwa [blank])
        ((List.length_filter_le _ _).trans_lt less))

/-! ### What keeps the queue and the table -/

/-- R120 and R151. -/
def Stationed (s : State) : Prop := lawReceive s ∧ lawTable s

theorem Stationed.sound {s : State} (h : Stationed s) : TableSound s.cfg.station s.table := h.2

/-- The laws of the receive queue and of the station table pass on. -/
def StationsKept (s t : State) : Prop := Stationed s → Stationed t

theorem StationsKept.trans {s t u : State} (a : StationsKept s t) (b : StationsKept t u) : StationsKept s u :=
  fun h => b (a h)

theorem StationsKept.refl (s : State) : StationsKept s s := id

theorem StationsKept.of_kept {s t : State}
    (h : t.loader = s.loader ∧ t.line.rx = s.line.rx ∧ t.table = s.table) : StationsKept s t := by
  obtain ⟨loader, rx, table⟩ := h
  simp only [StationsKept, Stationed, lawReceive, lawTable, State.cfg, loader, rx, table]
  exact id

theorem LineCalm.rx {s t : State} (h : LineCalm s t) : t.line.rx = s.line.rx := by rw [h.line]

theorem LineCalm.stationsKept {s t : State} (h : LineCalm s t) (same : t.loader = s.loader ∧ t.table = s.table) :
    StationsKept s t := .of_kept ⟨same.1, h.rx, same.2⟩

/-- No notice waits and no station is known. -/
theorem stationsKept_of_empty {s t : State} (rx : t.line.rx = []) (table : t.table = .reset) : StationsKept s t :=
  fun _ => ⟨by simp [lawReceive, rx], by simp [lawTable, table, Table.reset]⟩

theorem stationsKept_events : EventRelation StationsKept where
  refl := .refl
  trans := .trans
  elapse n s := .of_kept (by simp)
  publish s0 s := .of_kept ⟨by simp, (publish_marks s0 s).1, by simp⟩

theorem setTable_stationsKept {tb : Table} {s : State} (sound : Stationed s → TableSound s.cfg.station tb) :
    StationsKept s (setTable tb s) := by
  have rx : (setTable tb s).line.rx = s.line.rx := (setTable_calm tb s).rx
  have kept : (setTable tb s).loader = s.loader ∧ (setTable tb s).table = tb := by simp [setTable]
  intro stationed
  refine ⟨?_, ?_⟩
  · simpa only [lawReceive, rx, State.cfg, kept.1] using stationed.1
  · have law := sound stationed
    have law : lawTable { s with table := tb } := sound stationed
    simpa only [lawTable, State.cfg, kept.1, kept.2] using law

theorem onReasons_stationsKept (f : Reasons → Reasons) (s : State) : StationsKept s (onReasons f s) :=
  (onReasons_calm f s).stationsKept (by simp)

theorem handReasons_stationsKept (s : State) : StationsKept s (handReasons s) :=
  (handReasons_calm s).stationsKept (by simp)

theorem raise_stationsKept (f : Flag) (s : State) :
    StationsKept s (raise f s) := (raise_calm f s).stationsKept (by simp)

theorem removal_stationsKept (s : State) : StationsKept s (removal s) := by
  have raised : StationsKept s (raise .headRemoved (s.onAttach fun a =>
      { a with head := .removed, rail := false, railTimer := none, excess := false, overdrawTimer := none })) :=
    StationsKept.trans (.of_kept (by simp)) (raise_stationsKept _ _)
  have left : ∀ u, StationsKept u (setTable (u.table.removeWhere (·.roles.head)) u) := fun u =>
    setTable_stationsKept fun h => removeWhere_sound _ h.sound
  unfold removal
  exact (raised.trans (left _)).trans (onReasons_stationsKept _ _)

/-! ### SLEEP, SHIP and the wake -/

theorem quiet_stationsKept (p : PowerState) (s : State) : StationsKept s (quiet p s) :=
  stationsKept_of_empty (by simp [quiet, quietLine, Line.reset]) (by simp [quiet])

theorem judgeDockPin_stationsKept (s : State) : StationsKept s (judgeDockPin s) := by
  unfold judgeDockPin
  split
  · exact .of_kept (by simp [dockSettles])
  · exact .refl s

theorem judgeContacts_stationsKept (s : State) : StationsKept s (judgeContacts s) := by
  unfold judgeContacts
  (repeat' split)
  · exact .of_kept (by simp [headSettles])
  · exact .refl s
  · exact .refl s
  · exact removal_stationsKept s
  · exact .refl s

/-- The head, the dock, the rail and the power state are judged, at a wake and at the end of STARTING. -/
theorem judged_stationsKept (s : State) :
    StationsKept s (powerJudge (railJudge (judgeContacts (judgeDockPin s)))) :=
  (((judgeDockPin_stationsKept s).trans (judgeContacts_stationsKept _)).trans (.of_kept (by simp))).trans
    ((powerJudge_calm _).stationsKept (by simp))

theorem wake_stationsKept (s : State) : StationsKept s (wake s) :=
  StationsKept.trans (.of_kept (by simp [startDozeTimers, orderBreak, orderStartScan])) (judged_stationsKept _)

theorem wakeByLevel_stationsKept (s : State) : StationsKept s (wakeByLevel s) := by
  unfold wakeByLevel
  split
  · exact (wake_stationsKept s).trans
      (.of_kept ⟨by simp, by rw [(tell_tells s (wake s)).line], by simp⟩)
  · exact .refl s

theorem enterSleep_stationsKept (s : State) : StationsKept s (enterSleep s) :=
  (quiet_stationsKept _ s).trans (wakeByLevel_stationsKept _)

theorem enterShip_stationsKept (s : State) : StationsKept s (enterShip s) :=
  (quiet_stationsKept _ s).trans (wakeByLevel_stationsKept _)

theorem endStarting_stationsKept (s : State) : StationsKept s (endStarting s) :=
  StationsKept.trans (.of_kept (by simp [startDozeTimers])) (judged_stationsKept _)

theorem thenShip_stationsKept (b : Bool) (s : State) : StationsKept s (thenShip b s) := by
  unfold thenShip giveShipOrder
  dsimp only
  (repeat' split)
  · exact .refl s
  · exact .of_kept (by simp)
  · exact StationsKept.trans (.of_kept (by simp)) (enterShip_stationsKept _)
  · exact .refl s

theorem putSlot_stationsKept (i : SlotId) (w : List Byte) (s : State) : StationsKept s (putSlot i w s) :=
  .of_kept ⟨by simp, (putSlot_marks i w s).1, by simp⟩

theorem putReport_stationsKept (p : List Byte) (s : State) : StationsKept s (putReport p s) :=
  (putSlot_stationsKept _ _ s).trans (thenShip_stationsKept _ _)

theorem conflictEvidence_stationsKept (s : State) : StationsKept s (conflictEvidence s) :=
  StationsKept.trans (.of_kept (by simp)) (conflictEvidence_calm.stationsKept (by simp))

/-! ### Notices -/

theorem offerNotice_stationsKept {n : Notice} {s : State} (admits : Admitted s.cfg.station n.station) :
    StationsKept s (offerNotice n s) := by
  unfold offerNotice
  split
  case isTrue room =>
    rintro ⟨⟨-, admitted⟩, table⟩
    refine ⟨⟨by simpa using room, fun q hq => ?_⟩, by simpa [lawTable, State.cfg] using table⟩
    simp only [onLine_line, List.mem_append, List.mem_singleton] at hq
    rcases hq with old | rfl
    · exact admitted q old
    · exact admits
  case isFalse => exact raise_stationsKept _ s

theorem receiveNotice_stationsKept (chars : List Byte) (s : State) : StationsKept s (receiveNotice chars s) := by
  have ended : StationsKept s (s.onLine fun l =>
      { l with reception := none, recessiveFrom := some s.now, dominantFrom := none, risesAt := none }) := .of_kept (by simp)
  refine ended.trans ?_
  unfold receiveNotice judgeNotice
  split
  case h_1 n parsed =>
    split
    case isTrue passed =>
      split
      · exact conflictEvidence_stationsKept _
      · next other =>
        simp only [passes, Bool.and_eq_true, decide_eq_true_eq] at passed
        obtain ⟨⟨⟨-, least⟩, most⟩, -⟩ := passed
        exact offerNotice_stationsKept ⟨least, most, other⟩
    case isFalse => exact .refl _
  case h_2 => exact .refl _

theorem evict_stationsKept (n : Notice) (s : State) : StationsKept s (evict n s) := by
  unfold evict
  split
  · exact (setTable_stationsKept fun h => remove_sound _ h.sound).trans (stationsKept_events.publish s _)
  · exact .refl s

/-- A handling keeps the laws where what the notice does to a sound table's state keeps them. -/
theorem handledBy_stationsKept {act : Notice → Table → State → State}
    (hact : ∀ n tb s, TableSound s.cfg.station tb → StationsKept s (act n tb s)) (kind : Notice → Bool) (s : State) :
    AnswersWith StationsKept (handledBy kind act s) s := by
  have dropped : StationsKept s (dropOldest s) := by
    rintro ⟨⟨few, admitted⟩, table⟩
    refine ⟨⟨?_, fun n hn => admitted n (List.mem_of_mem_drop hn)⟩, table⟩
    simp only [dropOldest, onLine_line, List.length_drop]
    omega
  intro t ht stationed
  obtain ⟨-, rfl⟩ | ⟨n, handles, ⟨tb, entered, rfl⟩ | ⟨-, rfl⟩⟩ := handledBy_cases kind act s t ht
  · exact stationed
  · have oldest : n ∈ s.line.rx := by
      unfold State.handling at handles
      split at handles
      · exact List.mem_of_mem_head? (Option.filter_eq_some_iff.mp handles).1
      · contradiction
    have sound : TableSound s.cfg.station tb := enter_sound stationed.sound (stationed.1.2 n oldest) entered
    refine hact n tb _ ?_ (evict_stationsKept n _ (dropped stationed))
    simpa [State.cfg, dropOldest] using sound
  · exact stationsKept_events.asEvent (raise_stationsKept .tableFull) _ (dropped stationed)

theorem handled_stationsKept {act : Notice → Table → State → State}
    (hact : ∀ n tb s, TableSound s.cfg.station tb → StationsKept s (act n tb s)) (kind : Notice → Bool) (s : State) :
    AnswersWith StationsKept (handled kind act s) s :=
  handledBy_stationsKept (fun n tb s sound => (hact n tb s sound).trans (stationsKept_events.publish s _)) kind s

theorem actEntry_stationsKept (n : Notice) (tb : Table) (s : State) (sound : TableSound s.cfg.station tb) :
    StationsKept s (actEntry n tb s) := setTable_stationsKept fun _ => sound

theorem actRequest_stationsKept (n : Notice) (tb : Table) (s : State) (sound : TableSound s.cfg.station tb) :
    StationsKept s (actRequest n tb s) :=
  (setTable_stationsKept fun _ => sound).trans (.of_kept (t := seenActs n.seenSet _) (by simp))

theorem actSupply_stationsKept (n : Notice) (tb : Table) (s : State) (sound : TableSound s.cfg.station tb) :
    StationsKept s (actSupply n tb s) := by
  have taken : StationsKept s (s.onTable fun _ => tb) := fun h => ⟨h.1, sound⟩
  exact ((taken.trans ((supplyEvent_calm _ _).stationsKept (by simp))).trans
    ((handTable_lineHanded _ _).calm.stationsKept (by simp))).trans ((handCharge_calm _).stationsKept (by simp))

theorem actAnswer_stationsKept (form : Notice → State → List Byte) (n : Notice) (tb : Table) (s : State)
    (sound : TableSound s.cfg.station tb) : StationsKept s (actAnswer form n tb s) :=
  (setTable_stationsKept fun _ => sound).trans (putReport_stationsKept _ _)

theorem actSample_stationsKept (n : Notice) (tb : Table) (s : State) (sound : TableSound s.cfg.station tb) :
    StationsKept s (actSample n tb s) :=
  ((setTable_stationsKept fun _ => sound).trans (.of_kept (by simp))).trans (putReport_stationsKept _ _)

theorem actAction_stationsKept {act : State → State} (hact : ∀ s, StationsKept s (act s)) (n : Notice) (tb : Table)
    (s : State) (sound : TableSound s.cfg.station tb) : StationsKept s (actAction act n tb s) := by
  have answered : ∀ u, StationsKept u (answerAction act n u) := by
    intro u
    unfold answerAction
    split
    · exact (hact u).trans (putReport_stationsKept _ _)
    · exact putReport_stationsKept _ u
  exact ((setTable_stationsKept fun _ => sound).trans (stationsKept_events.publish s _)).trans
    (stationsKept_events.asEvent answered _)

theorem actShip_stationsKept (n : Notice) (tb : Table) (s : State) (sound : TableSound s.cfg.station tb) :
    StationsKept s (actShip n tb s) := by
  have accepted : ∀ u, StationsKept u (acceptShip n u) := by
    intro u
    unfold acceptShip
    dsimp only
    split
    · exact putReport_stationsKept _ u
    · exact (putReport_stationsKept (bareAnswer n .ok) u).trans (.of_kept (by simp))
  refine (setTable_stationsKept fun _ => sound).trans ?_
  unfold actShip
  dsimp only
  split
  · exact accepted _
  · exact putReport_stationsKept _ _

/-! ### The line -/

theorem becomeIdle_stationsKept (s : State) : StationsKept s (becomeIdle s) := by
  have counted : ∀ (u : Unsettled) (x : State), StationsKept x (countError u x) := by
    intro u x
    unfold countError
    dsimp only
    split
    · exact .of_kept (by simp)
    · exact (StationsKept.trans (.of_kept (by simp)) (conflictEvidence_stationsKept _)).trans
        (thenShip_stationsKept _ _)
  unfold becomeIdle settle
  split
  · exact StationsKept.trans (.of_kept (by simp)) (counted _ _)
  · exact .of_kept (by simp)

end Sys2Proof.Proofs
end

section
/-! ## Every command passes the laws of the stations on -/

namespace Sys2Proof.Proofs
open Sys2Proof.Machine Sys2Proof.Safety

theorem loseAttempt_rx (s : State) : (loseAttempt s).line.rx = s.line.rx := by
  unfold loseAttempt
  split
  · simp
  · rfl

theorem loseAttempt_stationsKept (s : State) : StationsKept s (loseAttempt s) := .of_kept (by simp [loseAttempt_rx])

theorem loseUnsettled_stationsKept (s : State) : StationsKept s (loseUnsettled s) := by
  unfold loseUnsettled
  split
  · exact .of_kept (by simp)
  · exact .refl s

theorem onLine_stationsKept {f : Line → Line} (s : State) (hf : (f s.line).rx = s.line.rx) :
    StationsKept s (s.onLine f) := .of_kept (by simp [hf])

theorem loseHeader_stationsKept (s : State) : StationsKept s (loseHeader s) :=
  ((loseAttempt_stationsKept s).trans (onLine_stationsKept _ rfl)).trans (thenShip_stationsKept _ _)

theorem endErrored_stationsKept (a : Attempt) (s : State) : StationsKept s (endErrored a s) :=
  StationsKept.trans (.of_kept (by simp)) (thenShip_stationsKept _ _)

theorem completeAttempt_stationsKept (a : Attempt) (s : State) : StationsKept s (completeAttempt a s) :=
  StationsKept.trans (.of_kept (by simp)) (thenShip_stationsKept _ _)

theorem takeBreak_stationsKept (s : State) : StationsKept s (takeBreak s) := by
  have emptied : ∀ (f : Line → Line) (u : State), (∀ l, (f l).rx = []) →
      StationsKept u (setTable .reset (u.onLine f)) := fun f u hf =>
    stationsKept_of_empty (by rw [(setTable_calm .reset (u.onLine f)).rx, onLine_line, hf]) (by simp [setTable])
  have held : ∀ u, StationsKept u (breakSettled (holdAtBreak (putState (raise .lineReset u)))) := by
    intro u
    have rx : (holdAtBreak (putState (raise .lineReset u))).line.rx = (raise .lineReset u).line.rx := by
      unfold holdAtBreak
      split
      · rw [(putHold_tells _).line, (putState_tells _).line]
      · rw [(putState_tells _).line]
    have holds : (holdAtBreak (putState (raise .lineReset u))).loader = u.loader ∧
        (holdAtBreak (putState (raise .lineReset u))).table = u.table := by
      unfold holdAtBreak
      split <;> simp
    exact .of_kept ⟨by simp [breakSettled, holds], by simp [breakSettled, rx], by simp [breakSettled, holds]⟩
  exact ((((loseAttempt_stationsKept s).trans (loseUnsettled_stationsKept _)).trans
    (emptied _ _ fun _ => rfl)).trans (held _)).trans (thenShip_stationsKept _ _)

theorem releaseBreak_stationsKept (s : State) : StationsKept s (releaseBreak s) := by
  unfold releaseBreak
  dsimp only
  split
  · exact (onLine_stationsKept s rfl).trans (endStarting_stationsKept _)
  · exact onLine_stationsKept s rfl

theorem stickLine_stationsKept (s : State) : StationsKept s (stickLine s) :=
  ((((loseAttempt_stationsKept s).trans (loseUnsettled_stationsKept _)).trans (onLine_stationsKept _ rfl)).trans
    (handReasons_stationsKept _)).trans (thenShip_stationsKept _ _)

theorem recoverLine_stationsKept (s : State) : StationsKept s (recoverLine s) :=
  (onLine_stationsKept s rfl).trans (handReasons_stationsKept _)

theorem fallingEdge_stationsKept (low : Option Nat) (s : State) : StationsKept s (fallingEdge low s) := by
  unfold fallingEdge
  (repeat' split)
  · exact onLine_stationsKept s rfl
  · exact .refl s
  · exact onLine_stationsKept s rfl
  · exact .refl s
  · exact onLine_stationsKept s rfl
  · exact .refl s
  · exact .refl s

/-! ### The pack, the drive and the dock -/

theorem scanPack_stationsKept (r : ScanReading) (s : State) : StationsKept s (scanPack r s) := by
  refine (scanPack_calm r s).stationsKept ?_
  unfold scanPack
  split <;> simp [clearScan]

theorem scanAllowance_stationsKept (s : State) : StationsKept s (scanAllowance s) :=
  (scanAllowance_calm s).stationsKept (by simp [scanAllowance, allowanceComputation, excessJudge])

theorem completeScan_stationsKept (r : ScanReading) (s : State) : StationsKept s (completeScan r s) := by
  have e := stationsKept_events
  have ended : ∀ (c : Prop) [Decidable c] u, StationsKept u (if c then endStartScan u else u) := by
    intro c _ u
    unfold endStartScan
    (repeat' split)
    · exact .of_kept (by simp [orderBreak])
    · exact .of_kept (by simp)
    · exact .refl u
  exact ((((e.asEvent (scanPack_stationsKept r) s).trans
    (e.asEvent (f := scanTemps r) (fun u => (scanTemps_calm r u).stationsKept (by simp)) _)).trans
    (e.asEvent (f := scanCharge r s) (fun u => (scanCharge_calm r s u).stationsKept (by simp)) _)).trans
    (e.asEvent scanAllowance_stationsKept _)).trans (ended _ _)

theorem onDrive_stationsKept (f : Drive → Drive) (s : State) : StationsKept s (s.onDrive f) := .of_kept (by simp)

theorem driveFault_stationsKept (k : FaultKind) (s : State) : StationsKept s (driveFault k s) :=
  (driveFault_calm k s).stationsKept (by simp)

theorem handDrive_stationsKept (s : State) : StationsKept s (handDrive s) := (handDrive_calm s).stationsKept (by simp)

theorem faultOrCoast_stationsKept (c : Prop) [Decidable c] (k : FaultKind) (s : State) :
    StationsKept s (if c then driveFault k s else handDrive (enterCoast true s)) := by
  split
  · exact driveFault_stationsKept k s
  · exact StationsKept.trans (.of_kept (by simp)) (handDrive_stationsKept _)

theorem takeDesync_stationsKept (s : State) : StationsKept s (takeDesync s) :=
  (onDrive_stationsKept _ s).trans (faultOrCoast_stationsKept _ .desync _)

theorem failRamp_stationsKept (s : State) : StationsKept s (failRamp s) :=
  (onDrive_stationsKept _ s).trans (faultOrCoast_stationsKept _ .startFail _)

theorem endCoast_stationsKept (s : State) : StationsKept s (endCoast s) := by
  unfold endCoast
  split <;> exact StationsKept.trans (.of_kept (by simp)) (handDrive_stationsKept _)

theorem captureEdge_stationsKept (p : MotorPhase) (e : Edge) (s : State) : StationsKept s (captureEdge p e s) := by
  unfold captureEdge
  (repeat' split) <;> exact .of_kept (by simp)

theorem expireWindow_stationsKept (s : State) : StationsKept s (expireWindow s) := by
  unfold expireWindow
  split
  · next st p _ =>
    have used : StationsKept s (s.onTable (·.markUsed st)) := fun h =>
      ⟨h.1, update_sound st (fun r => { r with headDirt := r.headDirt.map fun q => { q with used := true } })
        (fun _ => rfl) h.sound⟩
    exact used.trans (.of_kept (by simp))
  · exact .of_kept (by simp)

theorem dockRise_stationsKept (mv : Nat) (s : State) : StationsKept s (dockRise mv s) := by
  have woken := wake_stationsKept (s.onPins fun p => { p with dockMv := mv })
  unfold dockRise
  dsimp only
  (repeat' split)
  · exact .of_kept (by simp [dockSettles])
  · exact .of_kept (by simp)
  · exact .of_kept (by simp [dockSettles])
  · exact .of_kept (by simp)
  · exact woken
  · exact woken
  · exact .of_kept (by simp)

theorem dockFall_stationsKept (mv : Nat) (s : State) : StationsKept s (dockFall mv s) := by
  have left : ∀ u, StationsKept u (leaveDock u) := fun u =>
    ((StationsKept.trans (.of_kept (by simp)) (raise_stationsKept .undocked _)).trans
      ((undock_calm true _).stationsKept (by simp))).trans (handReasons_stationsKept _)
  unfold dockFall
  dsimp only
  (repeat' split)
  · exact .of_kept (by simp)
  · exact StationsKept.trans (.of_kept (by simp)) (left _)
  · exact .of_kept (by simp)
  · exact .of_kept (by simp)
  · exact .of_kept (by simp)

theorem settleDock_stationsKept (s : State) : StationsKept s (settleDock s) := by
  have docked := (StationsKept.trans (.of_kept (by simp)) (raise_stationsKept .docked (s.onAttach fun a =>
      { a with dock := .docked, settleTimer := none })) : StationsKept s _)
  exact ((docked.trans (.of_kept (by simp))).trans
    ((chargeSettle_lineHanded (dockIn _)).calm.stationsKept (by simp))).trans (handReasons_stationsKept _)

theorem regulateAsk_stationsKept (s : State) : StationsKept s (regulateAsk s) := by
  have stepped : ∀ u, StationsKept u (stepAsk u) := by
    intro u
    unfold stepAsk
    (repeat' split)
    · exact .refl u
    · exact (changeAsk_calm _ u).stationsKept (by simp)
    · exact .refl u
  exact ((StationsKept.of_kept (by simp)).trans (stepped (s.onCharge fun c =>
    { c with regTimer := some (s.now + ms 500) }))).trans ((switchJudge_calm _).stationsKept (by simp))

/-! ### The head -/

theorem contactsAsleep_stationsKept (h1 h2 : Bool) (s : State) : StationsKept s (contactsAsleep h1 h2 s) := by
  unfold contactsAsleep
  split
  · exact .refl s
  · exact StationsKept.trans (.of_kept (by simp [setContacts])) (wake_stationsKept _)

theorem contactsFall_stationsKept (s : State) : StationsKept s (contactsFall s) := by
  have fits : StationsKept s (headFits (setContacts false false s)) := by
    unfold headFits
    split <;> exact .of_kept (by simp [setContacts, headSettles])
  unfold contactsFall
  split
  · exact fits
  · exact fits
  · exact contactsAsleep_stationsKept _ _ s
  all_goals exact .of_kept (by simp [setContacts])

theorem contactRises_stationsKept (h1 h2 : Bool) (s : State) : StationsKept s (contactRises h1 h2 s) := by
  have lets : ∀ u, StationsKept u (headLets u) := by
    intro u
    unfold headLets
    split
    · exact .refl u
    · exact .of_kept (by simp)
    · exact removal_stationsKept u
  have pins : StationsKept s (setContacts h1 h2 s) := .of_kept (by simp [setContacts])
  unfold contactRises
  split
  · exact pins.trans (lets _)
  · exact pins.trans (lets _)
  · exact contactsAsleep_stationsKept _ _ s
  all_goals exact pins

theorem seatHead_stationsKept (s : State) : StationsKept s (seatHead s) := by
  have raised := (StationsKept.trans (.of_kept (by simp)) (raise_stationsKept .headAttached (s.onAttach fun a =>
    { a with head := .seated, seatTimer := none })) : StationsKept s _)
  exact raised.trans (.of_kept (by simp [seatHead]))

theorem latchOverdraw_stationsKept (s : State) : StationsKept s (latchOverdraw s) := by
  have reported := (StationsKept.trans (.of_kept (by simp)) (raise_stationsKept .overdraw (s.onAttach fun a =>
    { a with excess := false, overdrawTimer := none })) : StationsKept s _)
  unfold latchOverdraw
  dsimp only
  split
  · exact reported
  · exact (reported.trans (.of_kept (by simp [pushHistory]))).trans (onReasons_stationsKept _ _)

/-! ### The commands -/

/-- Every command but POWER_ON and the end of the load passes the laws of the receive queue and the table on. -/
theorem exec_stationsKept (c : Instr) (s : State) (hp : c ≠ .powerOn) (hl : ∀ b, c ≠ .configLoadEnd b) :
    AnswersWith StationsKept (exec c s) s := by
  have e := stationsKept_events
  cases c with
  | powerOn => contradiction
  | configLoadEnd b => exact absurd rfl (hl b)
  | scanTimerExpiry => exact e.onTimerQuietly (f := startTimedScan) (fun s => .of_kept (by simp [startTimedScan])) _ s
  | cellConversionsEnd => exact answersWith_next (.of_kept (by simp))
  | scanCompletion r =>
    refine answersWith_next ?_
    split
    · exact .refl s
    · exact completeScan_stationsKept r s
  | chargeDelivery m => exact e.onTimer (f := deliver m) (fun s => .of_kept (by simp [deliver])) _ s
  | periodStart mv ma low => exact e.nextIf ((e.runTo _ s).trans (onDrive_stationsKept _ _))
  | busCurrentTrip ma => exact e.nextIf (.of_kept (by simp))
  | overcurrent => exact e.finishIf (driveFault_stationsKept _) _ s
  | undervoltageTimerExpiry => exact e.onTimer (driveFault_stationsKept _) _ s
  | alignTimerExpiry => exact e.onTimer (f := enterRamp) (fun s => .of_kept (by simp)) _ s
  | forcedCommutation =>
    unfold exec execForcedCommutation
    dsimp only
    split
    · exact e.onTimerQuietly (f := nextForced) (fun s => .of_kept (by simp [nextForced])) _ s
    · exact e.stay s
  | comparatorCapture after p edge =>
    exact e.finishIf (fun s => (e.runTo _ s).trans (captureEdge_stationsKept p edge _)) _ s
  | commutationCompareExpiry =>
    exact e.onTimerQuietly (f := commutateOnCompare) (fun s => .of_kept (by simp [commutateOnCompare])) _ s
  | missedCrossingDeadline =>
    exact e.onTimerQuietly (f := missCrossing) (fun s => .of_kept (by simp [missCrossing])) _ s
  | desync => exact e.finishIf takeDesync_stationsKept _ s
  | rampTimerExpiry => exact e.onTimer failRamp_stationsKept _ s
  | controlExpiry => exact e.onTimerQuietly (f := controlStep) (fun s => .of_kept (by simp [controlStep])) _ s
  | blockedSet => exact e.onTimer (fun s => (onDrive_stationsKept _ s).trans (raise_stationsKept _ _)) _ s
  | blockedClear => exact e.onTimer (fun s => .of_kept (by simp)) _ s
  | runSecond => exact e.nextIf (.of_kept (by simp))
  | coastTimerExpiry => exact e.onTimer endCoast_stationsKept _ s
  | envelopeSample code => exact e.onTimerQuietly (f := takeSample code) (fun s => .of_kept (by simp [takeSample])) _ s
  | scoringCompletion => exact answersWith_next (.of_kept (by simp))
  | windowExpiry => exact e.onTimer expireWindow_stationsKept _ s
  | dockInputRise mv => exact e.finishIf (dockRise_stationsKept mv) _ s
  | dockInputFall mv => exact e.finishIf (dockFall_stationsKept mv) _ s
  | settleTimerExpiry => exact e.onTimer settleDock_stationsKept _ s
  | resendTimerExpiry =>
    exact e.onTimer (f := resendAsk) (fun s => (StationsKept.of_kept (by simp)).trans (putSlot_stationsKept _ _ _)) _ s
  | echoTimerExpiry =>
    exact e.onTimer (f := unresponsive) (fun s => StationsKept.trans (.of_kept (by simp))
      ((handCharge_calm _).stationsKept (by simp))) _ s
  | regulationExpiry => exact e.onTimer regulateAsk_stationsKept _ s
  | terminationTimerExpiry =>
    exact e.onTimer (fun s => ((chargeDone_calm s).trans (powerJudge_calm _)).stationsKept (by simp)) _ s
  | prechargeTimerExpiry | totalTimerExpiry =>
    exact e.onTimer (fun s => ((chargeFault_calm _ s).trans (powerJudge_calm _)).stationsKept (by simp)) _ s
  | noticeReceived chars => exact e.finishIf (receiveNotice_stationsKept chars) _ s
  | hold | draw | headDirt | otherClassNotice => exact handled_stationsKept actEntry_stationsKept _ s
  | request => exact handled_stationsKept actRequest_stationsKept _ s
  | supply => exact handled_stationsKept actSupply_stationsKept _ s
  | ident | runs | modeTime | chargeCounts | cellsA | cellsB | fault | holds | table | unknownItem =>
    exact handled_stationsKept (actAnswer_stationsKept _) _ s
  | sample => exact handled_stationsKept actSample_stationsKept _ s
  | masterOn | masterOff => exact handledBy_stationsKept (actAction_stationsKept (onReasons_stationsKept _)) _ s
  | clearHistory => exact handledBy_stationsKept (actAction_stationsKept fun s => .of_kept (by simp)) _ s
  | ship => exact handled_stationsKept actShip_stationsKept _ s
  | lineIdle => exact e.finishIf (fun s => (e.runTo _ s).trans (becomeIdle_stationsKept _)) _ s
  | headerLoss => exact e.finishIf loseHeader_stationsKept _ s
  | bitError =>
    unfold exec execBitError
    dsimp only
    split
    · exact e.finish (endErrored_stationsKept _) s
    · exact e.stay s
  | attemptCompletion =>
    unfold exec execAttemptCompletion
    dsimp only
    split
    · exact e.finish (fun s => (e.runTo _ s).trans (completeAttempt_stationsKept _ _)) s
    · exact e.stay s
  | shipOrderTimeout => exact e.onTimer (thenShip_stationsKept true) _ s
  | breakInProgress =>
    unfold exec execBreakInProgress
    dsimp only
    split
    · exact e.onTimerQuietly (fun s => onLine_stationsKept s rfl) _ s
    · exact e.stay s
  | breakTaken => exact e.finishIf (fun s => (e.runTo _ s).trans (takeBreak_stationsKept _)) _ s
  | ownBreakRelease => exact e.onTimer releaseBreak_stationsKept _ s
  | lineStuck =>
    unfold exec execLineStuck
    dsimp only
    split
    · exact e.onTimer stickLine_stationsKept _ s
    · exact e.stay s
  | stuckRecovery => exact e.finishIf (fun s => (e.runTo _ s).trans (recoverLine_stationsKept _)) _ s
  | conflictTimerExpiry =>
    exact e.onTimer (fun s => (onLine_stationsKept s rfl).trans (handReasons_stationsKept _)) _ s
  | stateCadenceExpiry | holdoffExpiry =>
    exact e.onTimer (f := putState) (fun s => .of_kept ⟨by simp, by rw [(putState_tells s).line], by simp⟩) _ s
  | holdCadenceExpiry =>
    exact e.onTimer (f := putHold) (fun s => .of_kept ⟨by simp, by rw [(putHold_tells s).line], by simp⟩) _ s
  | recordStale st =>
    exact e.onTimer (f := fun s => setTable (s.table.update st fun r => { r with stale := true }) s)
      (fun s => setTable_stationsKept fun h => update_sound st (fun r => { r with stale := true }) (fun _ => rfl) h.sound) _ s
  | recordAgeRemoval st =>
    have left : ∀ tb u, TableSound u.cfg.station tb → StationsKept u (setTable tb (raise .stationLost u)) := by
      intro tb u sound
      exact (raise_stationsKept .stationLost u).trans (setTable_stationsKept fun _ => by simpa [State.cfg] using sound)
    exact e.onTimer (f := fun s => setTable (s.table.remove st) (raise .stationLost s))
      (fun s h => left _ s (remove_sound st h.sound) h) _ s
  | headContactsLow => exact e.finish contactsFall_stationsKept s
  | headContactHigh h1 h2 => exact e.finishIf (contactRises_stationsKept h1 h2) _ s
  | seatTimerExpiry =>
    exact e.onTimer seatHead_stationsKept _ s
  | railOnTimerExpiry => exact e.onTimerQuietly (f := railOn) (fun s => .of_kept (by simp [railOn])) _ s
  | headRailShort ma =>
    exact e.finishIf (f := latchShort) (fun s => StationsKept.trans (.of_kept (by simp [pushHistory]))
      (onReasons_stationsKept _ _)) _ s
  | overdrawTimerExpiry => exact e.onTimer latchOverdraw_stationsKept _ s
  | dozeTimerExpiry => exact e.onTimer enterSleep_stationsKept _ s
  | shipTimerExpiry =>
    unfold exec execShipTimerExpiry
    dsimp only
    split
    · exact e.finish (fun s => (e.runToSecond _ s).trans (enterShip_stationsKept _)) s
    · exact e.stay s
  | trigEdge edge => exact e.finishIf wake_stationsKept _ s
  | sleepBreak =>
    unfold exec execSleepBreak
    dsimp only
    split
    · exact e.finish (fun s => (e.runToSteady _ s).trans (wake_stationsKept _)) s
    · exact e.stay s
  | lineFallingEdge low => exact answersWith_next (fallingEdge_stationsKept low s)
  | framingError => exact e.nextIf (onLine_stationsKept s rfl)
  | lengthTooGreat len => exact e.nextIf (onLine_stationsKept s rfl)

end Sys2Proof.Proofs
end

section
/-! ## No slot waits on a free line (R122) -/

namespace Sys2Proof.Proofs
open Sys2Proof.Machine Sys2Proof.Safety

/-- The law of the free line passes on. -/
def IdleKept (s t : State) : Prop := lawIdle s → lawIdle t

theorem idleKept_of_same {s t : State} (h : t.line = s.line ∧ t.power = s.power) : IdleKept s t := by
  obtain ⟨line, power⟩ := h
  have may : t.mayBegin = s.mayBegin :=
    mayBegin_of_kept (running_of_power power) (by rw [line]) (by rw [line]) (by rw [line])
  simp only [IdleKept, lawIdle, may, line]
  exact id

theorem idleKept_of_not {s t : State} (h : t.mayBegin = false) : IdleKept s t := fun _ may => by simp [h] at may

theorem idleKept_events : EventRelation IdleKept where
  refl _ := id
  trans a b h := b (a h)
  elapse n s := idleKept_of_same (by simp)
  publish s0 s _ := publish_lawIdle s0 s

/-- What an event does is told at its end, where the attempt that may begin does. -/
theorem finish_idleKept (f : State → State) (s : State) : AnswersWith IdleKept (finish f s) s :=
  answersWith_next fun _ => publish_lawIdle s _

theorem finishIf_idleKept (c : Bool) (f : State → State) (s : State) : AnswersWith IdleKept (finishIf c f s) s := by
  cases c
  · exact idleKept_events.stay s
  · exact finish_idleKept f s

theorem onTimer_idleKept (d : Option Nat) (f : State → State) (s : State) : AnswersWith IdleKept (onTimer d f s) s := by
  cases d with
  | none => exact idleKept_events.stay s
  | some d => exact finish_idleKept _ s

theorem handledBy_idleKept {act : Notice → Table → State → State} (hact : ∀ n tb s, lawIdle (act n tb s))
    (kind : Notice → Bool) (s : State) : AnswersWith IdleKept (handledBy kind act s) s := by
  intro t ht law
  obtain ⟨-, rfl⟩ | ⟨n, -, ⟨tb, -, rfl⟩ | ⟨-, rfl⟩⟩ := handledBy_cases kind act s t ht
  · exact law
  · exact hact n tb _
  · exact publish_lawIdle _ _

theorem handled_idleKept (kind : Notice → Bool) (act : Notice → Table → State → State) (s : State) :
    AnswersWith IdleKept (handled kind act s) s := handledBy_idleKept (fun _ _ _ => publish_lawIdle _ _) kind s

theorem actAction_lawIdle (act : State → State) (n : Notice) (tb : Table) (s : State) :
    lawIdle (actAction act n tb s) :=
  publish_lawIdle _ _

theorem completeScan_idleKept (r : ScanReading) (s : State) : IdleKept s (completeScan r s) := by
  have ended : ∀ (c : Prop) [Decidable c] u, lawIdle u → lawIdle (if c then endStartScan u else u) := by
    intro c _ u
    unfold endStartScan
    (repeat' split)
    · exact idleKept_of_not (mayBegin_of_state (by simp [orderBreak]))
    · exact idleKept_of_same (by simp)
    · exact id
  exact fun _ => ended _ _ (publish_lawIdle _ _)

theorem fallingEdge_idleKept (low : Option Nat) (s : State) : IdleKept s (fallingEdge low s) := by
  have fallen : IdleKept s (s.onLine (·.fall s.now low)) := by
    refine idleKept_of_not (mayBegin_of_state ?_)
    simp only [onLine_line, Line.fall]
    split <;> simp_all
  have asleep : s.power.state = .sleep → IdleKept s (s.onLine (·.watch s.time.steady low)) := fun sleep =>
    idleKept_of_not (by simp [State.mayBegin, State.running, sleep, PowerState.running])
  unfold fallingEdge
  (repeat' split)
  · exact fallen
  · exact id
  · exact fallen
  · exact id
  · next sleep => exact asleep sleep
  · exact id
  · exact id

theorem discard_idleKept {s : State} (receiving : s.receiving = true) : IdleKept s (discard s) := by
  simp only [State.receiving, Bool.and_eq_true, decide_eq_true_eq] at receiving
  obtain ⟨⟨-, busy⟩, -⟩ := receiving
  exact idleKept_of_not (mayBegin_of_state (by simp [Machine.discard, busy]))

/-- Every command but POWER_ON and the end of the load passes the law of the free line on. -/
theorem exec_idleKept (c : Instr) (s : State) (hp : c ≠ .powerOn) (hl : ∀ b, c ≠ .configLoadEnd b) :
    AnswersWith IdleKept (exec c s) s := by
  have e := idleKept_events
  cases c with
  | powerOn => contradiction
  | configLoadEnd b => exact absurd rfl (hl b)
  | scanTimerExpiry => exact e.onTimerQuietly (f := startTimedScan) (fun s => idleKept_of_same (by simp [startTimedScan])) _ s
  | cellConversionsEnd => exact answersWith_next (idleKept_of_same (by simp))
  | scanCompletion r =>
    refine answersWith_next ?_
    split
    · exact id
    · exact completeScan_idleKept r s
  | periodStart mv ma low => exact e.nextIf (idleKept_of_same (by simp [nextPeriod]))
  | busCurrentTrip ma | runSecond => exact e.nextIf (idleKept_of_same (by simp))
  | forcedCommutation =>
    unfold exec execForcedCommutation
    dsimp only
    split
    · exact e.onTimerQuietly (f := nextForced) (fun s => idleKept_of_same (by simp [nextForced])) _ s
    · exact e.stay s
  | commutationCompareExpiry =>
    exact e.onTimerQuietly (f := commutateOnCompare) (fun s => idleKept_of_same (by simp [commutateOnCompare])) _ s
  | missedCrossingDeadline =>
    exact e.onTimerQuietly (f := missCrossing) (fun s => idleKept_of_same (by simp [missCrossing])) _ s
  | controlExpiry => exact e.onTimerQuietly (f := controlStep) (fun s => idleKept_of_same (by simp [controlStep])) _ s
  | envelopeSample code =>
    exact e.onTimerQuietly (f := takeSample code) (fun s => idleKept_of_same (by simp [takeSample])) _ s
  | scoringCompletion => exact answersWith_next (idleKept_of_same (by simp))
  | breakInProgress =>
    unfold exec execBreakInProgress
    dsimp only
    split
    · exact e.onTimerQuietly (fun s => idleKept_of_not (mayBegin_of_state (by simp))) _ s
    · exact e.stay s
  | railOnTimerExpiry => exact e.onTimerQuietly (f := railOn) (fun s => idleKept_of_same (by simp [railOn])) _ s
  | lineFallingEdge low => exact answersWith_next (fallingEdge_idleKept low s)
  | framingError =>
    refine answersWith_next ?_
    split
    · next receiving => exact discard_idleKept receiving
    · exact id
  | lengthTooGreat len =>
    refine answersWith_next ?_
    split
    · next receiving => exact discard_idleKept receiving.1
    · exact id
  | overcurrent | comparatorCapture | desync | dockInputRise | dockInputFall | noticeReceived | lineIdle | headerLoss
  | breakTaken | stuckRecovery | headContactHigh | headRailShort | trigEdge => exact finishIf_idleKept _ _ s
  | chargeDelivery | undervoltageTimerExpiry | alignTimerExpiry | rampTimerExpiry | blockedClear | coastTimerExpiry
  | windowExpiry | settleTimerExpiry | resendTimerExpiry | echoTimerExpiry | regulationExpiry | shipOrderTimeout
  | ownBreakRelease | stateCadenceExpiry | holdoffExpiry | holdCadenceExpiry | seatTimerExpiry | overdrawTimerExpiry
  | dozeTimerExpiry => exact onTimer_idleKept _ _ s
  | blockedSet =>
    exact onTimer_idleKept _
      (fun s => raise .blocked (s.onDrive fun d => { d with blocked := true, blockedClearSince := none })) s
  | terminationTimerExpiry => exact onTimer_idleKept _ (fun s => powerJudge (chargeDone s)) s
  | prechargeTimerExpiry | totalTimerExpiry => exact onTimer_idleKept _ (fun s => powerJudge (chargeFault _ s)) s
  | conflictTimerExpiry =>
    exact onTimer_idleKept _ (fun s => handReasons (s.onLine fun l => { l with conflict := none })) s
  | recordStale st =>
    exact onTimer_idleKept _ (fun s => setTable (s.table.update st fun r => { r with stale := true }) s) s
  | recordAgeRemoval st => exact onTimer_idleKept _ (fun s => setTable (s.table.remove st) (raise .stationLost s)) s
  | hold | draw | headDirt | otherClassNotice => exact handled_idleKept _ actEntry s
  | request => exact handled_idleKept _ actRequest s
  | supply => exact handled_idleKept _ actSupply s
  | ident | runs | modeTime | chargeCounts | cellsA | cellsB | fault | holds | table | unknownItem =>
    exact handled_idleKept _ (actAnswer _) s
  | sample => exact handled_idleKept _ actSample s
  | ship => exact handled_idleKept _ actShip s
  | masterOn | masterOff | clearHistory => exact handledBy_idleKept (actAction_lawIdle _) _ s
  | headContactsLow => exact finish_idleKept _ s
  | bitError =>
    unfold exec execBitError
    dsimp only
    split
    · exact finish_idleKept _ s
    · exact e.stay s
  | attemptCompletion =>
    unfold exec execAttemptCompletion
    dsimp only
    split
    · exact finish_idleKept _ s
    · exact e.stay s
  | lineStuck =>
    unfold exec execLineStuck
    dsimp only
    split
    · exact onTimer_idleKept _ _ s
    · exact e.stay s
  | shipTimerExpiry =>
    unfold exec execShipTimerExpiry
    dsimp only
    split
    · exact finish_idleKept _ s
    · exact e.stay s
  | sleepBreak =>
    unfold exec execSleepBreak
    dsimp only
    split
    · exact finish_idleKept _ s
    · exact e.stay s

/-! ### The steps -/

/-- Settles O13: each command keeps the receive queue and the table, and every event ends with the attempt that may
begin. -/
theorem stationLaws : Obligations.StationLaws := by
  unfold Obligations.StationLaws
  rintro s t ⟨loading, receive, table, idle⟩ stepped
  have off : ∀ u : State, u.line = Line.reset → u.table = .reset → Stationed u ∧ lawIdle u := fun u line table =>
    ⟨⟨by simp [lawReceive, line, Line.reset], by simp [lawTable, table, Table.reset]⟩,
      fun _ => by rw [line]; rfl⟩
  have kept := step_keeps (P := fun u => Stationed u ∧ lawIdle u) (fun _ _ _ _ => off _ rfl rfl)
    (fun _ _ _ _ _ => off _ rfl rfl)
    (fun c u v hp hl holds answered => ⟨(exec_carries c u hp hl v answered).loader,
      exec_stationsKept c u hp hl v answered holds.1, exec_idleKept c u hp hl v answered holds.2⟩)
    (fun u q holds => holds)
    (fun u holds => ⟨stationsKept_events.elapse 1 u holds.1, idleKept_events.elapse 1 u holds.2⟩)
    loading ⟨⟨receive, table⟩, idle⟩ stepped
  obtain ⟨loading, ⟨receive, table⟩, idle⟩ := kept
  exact ⟨loading, receive, table, idle⟩

end Sys2Proof.Proofs
end

section
/-! ## What a changed reason of the line sets off (R126, R129, R156, R170) -/

namespace Sys2Proof.Proofs
open Sys2Proof.Machine Sys2Proof.Safety

/-- A change is handed on, and no more. -/
structure HandedOn (s t : State) : Prop where
  handing : Handing s t
  aside : Aside s t
  closed : RunClosed s t

theorem HandedOn.trans {s t u : State} (a : HandedOn s t) (b : HandedOn t u) : HandedOn s u :=
  ⟨a.handing.trans b.handing, a.aside.trans b.aside, a.closed.trans b.closed⟩

theorem HandedOn.of_kept {s t : State}
    (h : (t.time = s.time ∧ t.pins = s.pins ∧ t.loader = s.loader ∧ t.free = s.free ∧ t.pending = s.pending) ∧
      t.pack = s.pack ∧ t.allow = s.allow ∧ t.drive = s.drive ∧ t.dirt = s.dirt ∧ t.charge = s.charge ∧
      t.hold = s.hold ∧ t.attach = s.attach ∧ t.power = s.power ∧ MarksKept s.line t.line ∧
      t.line.conflict = s.line.conflict) : HandedOn s t := by
  obtain ⟨frame, pack, allow, drive, dirt, charge, hold, attach, power, marks, conflict⟩ := h
  exact ⟨.of_kept (.of_kept (by simp [frame, pack, allow, drive, dirt, charge, hold, attach, conflict])) hold,
    .of_kept ⟨frame, pack, by rw [hold], attach, marks, by rw [dirt], power⟩,
    runClosed_relation.kept ⟨frame.2.2.1, drive, by rw [dirt]⟩⟩

theorem handReasons_handedOn (s : State) : HandedOn s (handReasons s) :=
  ⟨handReasons_handing s, handReasons_aside s, runClosed_relation.handReasons s⟩

theorem publish_handedOn (s0 s : State) : HandedOn s (publish s0 s) :=
  ⟨publish_handing s0 s, publish_aside s0 s, runClosed_relation.events.publish s0 s⟩

theorem setTable_handedOn (tb : Table) {s : State} (latch : s.hold.reasons.driveFault = false) :
    HandedOn s (setTable tb s) :=
  ⟨setTable_handing tb latch, setTable_aside tb s, runClosed_relation.setTable tb s⟩

/-- What has been handed on from a state that differs from `s` in its time, line, table and report alone. -/
theorem HandedOn.consequences {s w t : State} (h : HandedOn w t)
    (same : w.pack = s.pack ∧ w.allow = s.allow ∧ w.drive = s.drive ∧ w.dirt = s.dirt ∧ w.charge = s.charge ∧
      w.hold = s.hold ∧ w.attach = s.attach ∧ w.power = s.power) :
    Consequences s t ∧ OwnReasonsKept s.hold.reasons t.hold.reasons := by
  obtain ⟨pack, allow, drive, dirt, charge, hold, attach, power⟩ := same
  obtain ⟨⟨easing, own⟩, aside, closed⟩ := h
  have driven : (t.drive = s.drive ∧ t.dirt = s.dirt) ∨
      (t.drive = (driveTarget 0 { s with time := t.time }).drive ∧
        t.dirt = (driveTarget 0 { s with time := t.time }).dirt) := by
    rcases easing.drive with ⟨left, clean, -⟩ | ⟨eased, -⟩
    · exact .inl ⟨left.trans drive, clean.trans dirt⟩
    · refine .inr ⟨by rw [driveTarget_zero, eased, drive, State.now, ← easing.time]; rfl, ?_⟩
      have rest : t.drive.state ≠ .run := by
        intro run
        have quiet := easedDrive_quiet w.drive w.now
        rw [← eased, run] at quiet
        simp [DriveState.quiet] at quiet
      have left := closed.dirt
      rw [aside.samples] at left
      rw [driveTarget_zero_dirt, left]
      simp only [drive, dirt, rest, ne_eq, not_false_eq_true, and_true]
      split <;> rfl
  have counters : CountersKept w t := easing.counters
  obtain ⟨head, dock, seat, settle⟩ := aside.attach
  rw [hold] at own
  refine ⟨⟨pack ▸ aside.readings, ?_, allow ▸ easing.share, allow ▸ easing.low, allow ▸ easing.mode,
    allow ▸ easing.target, allow ▸ easing.pAllow, driven, hold ▸ aside.history, attach ▸ head, attach ▸ dock,
    attach ▸ seat, attach ▸ settle, ?_, ?_⟩, own⟩
  · simpa only [CountersKept, drive, charge] using counters
  · rw [← running_of_power power]; exact aside.running
  · rw [← running_of_power power, ← power]; exact aside.asleep

theorem HandedOn.onlyIn {s w t : State} (h : HandedOn w t) (table : t.table = s.table)
    (same : w.time = s.time ∧ w.pins = s.pins ∧ w.loader = s.loader ∧ w.free = s.free ∧ w.pending = s.pending) :
    OnlyIn consequent s t := by
  obtain ⟨time, pins, loader, free, pending⟩ := h.aside.frame
  simp [OnlyIn, consequent, table, time, pins, loader, free, pending, same]

theorem HandedOn.onlyInTimed {s w t : State} (h : HandedOn w t) (table : t.table = s.table)
    (same : w.pins = s.pins ∧ w.loader = s.loader ∧ w.free = s.free ∧ w.pending = s.pending) :
    OnlyIn (.time :: consequent) s t := by
  obtain ⟨-, pins, loader, free, pending⟩ := h.aside.frame
  simp [OnlyIn, consequent, table, pins, loader, free, pending, same]

/-! ### Evidence of a station conflict (R126) -/

/-- The conflict stands for 5 s, and its flag is raised, before the reasons are formed again. -/
def conflictRaised (s : State) : State :=
  raise .stationConflict (s.onLine fun l => { l with conflict := some (s.now + 40000000) })

theorem conflictEvidence_eq (s : State) : conflictEvidence s = handReasons (conflictRaised s) := rfl

theorem conflictRaised_conflict (s : State) : (conflictRaised s).line.conflict = some (s.now + 40000000) := by
  rw [conflictRaised, raise_conflict, onLine_line]

@[simp] theorem conflictRaised_frame (s : State) :
    (conflictRaised s).time = s.time ∧ (conflictRaised s).pins = s.pins ∧ (conflictRaised s).loader = s.loader ∧
    (conflictRaised s).pack = s.pack ∧ (conflictRaised s).allow = s.allow ∧ (conflictRaised s).drive = s.drive ∧
    (conflictRaised s).dirt = s.dirt ∧ (conflictRaised s).charge = s.charge ∧ (conflictRaised s).table = s.table ∧
    (conflictRaised s).hold = s.hold ∧ (conflictRaised s).attach = s.attach ∧ (conflictRaised s).power = s.power ∧
    (conflictRaised s).free = s.free ∧ (conflictRaised s).pending = s.pending := by simp [conflictRaised]

/-- The reason stands, and stops suction (R126, R170). -/
theorem conflictEvidence_stops (s : State) : (conflictEvidence s).hold.reasons.stationConflict = true ∧
    (conflictEvidence s).hold.stopSuction = true := by
  have stands : (conflictRaised s).liveReasons.stationConflict = true := by
    simp [State.liveReasons, conflictRaised_conflict]
  rw [conflictEvidence_eq, handReasons_hold]
  refine ⟨stands, ?_⟩
  have stops : (conflictRaised s).liveReasons.localStop = true := by simp [Reasons.localStop, stands]
  simp [formHolds, stopsSuction, stops]

/-- What evidence of a conflict in a state `w` does to a unit that was in `s` before. -/
structure Conflicted (s w t : State) : Prop where
  conflict : t.line.conflict = some (w.now + 40000000)
  raised : Raised .stationConflict t
  reason : t.hold.reasons.stationConflict = true
  stops : t.hold.stopSuction = true
  consequences : Consequences s t ∧ OwnReasonsKept s.hold.reasons t.hold.reasons

theorem conflictEvidence_conflicted {s w : State} (s0 : State)
    (same : w.pack = s.pack ∧ w.allow = s.allow ∧ w.drive = s.drive ∧ w.dirt = s.dirt ∧ w.charge = s.charge ∧
      w.hold = s.hold ∧ w.attach = s.attach ∧ w.power = s.power) : Conflicted s w (publish s0 (conflictEvidence w)) := by
  have handed : HandedOn (conflictRaised w) (publish s0 (conflictEvidence w)) :=
    (handReasons_handedOn _).trans (publish_handedOn s0 _)
  have flags : Raised .stationConflict (handReasons (conflictRaised w)) :=
    FlagsStand.of_report (s := conflictRaised w) (by simp) _ (raise_raised _ _)
  obtain ⟨reason, stops⟩ := conflictEvidence_stops w
  exact ⟨by rw [handed.handing.easing.conflict, conflictRaised_conflict], publish_flags _ _ _ flags,
    by simpa using reason,
    by simpa using stops, handed.consequences (by simp [same])⟩

/-! ### A complete notice (R119, R120) -/

/-- The reception in progress is over. -/
def receptionOver (s : State) : State := s.onLine fun l =>
  { l with reception := none, recessiveFrom := some s.now, dominantFrom := none, risesAt := none }

theorem receiving_iff (s : State) :
    s.receiving = true ↔ s.running = true ∧ s.line.state = .busy ∧ s.line.reception.isSome = true := by
  simp [State.receiving, and_assoc]

/-- A reception ends on a busy line, on which no attempt may begin. -/
theorem exec_noticeReceived {s : State} {cs : List Byte} (receiving : s.receiving = true) (shape : noticeShape cs = true) :
    exec (.noticeReceived cs) s = .next (publish s (judgeNotice cs (receptionOver s))) := by
  simp only [exec, execNoticeReceived, finishIf, receiving, shape, Bool.and_self, if_true]
  rfl

theorem busy_of_receiving {s : State} (receiving : s.receiving = true) : s.line.state = .busy :=
  ((receiving_iff s).mp receiving).2.1

theorem judgeNotice_passed {cs : List Byte} {n : Notice} (s : State) (parsed : parseNotice cs = some n)
    (check : crc8 cs.dropLast = cs.getLastD 0) (cls : 1 ≤ n.cls) (least : 1 ≤ n.station) (most : n.station ≤ 14) :
    judgeNotice cs s = if n.station = s.cfg.station then conflictEvidence s else offerNotice n s := by
  have passed : passes cs n = true := by simp [passes, checkMatches, check, cls, least, most]
  simp [judgeNotice, parsed, passed]

theorem judgeNotice_failed {cs : List Byte} {n : Notice} (s : State) (parsed : parseNotice cs = some n)
    (fails : crc8 cs.dropLast ≠ cs.getLastD 0 ∨ n.cls = 0 ∨ n.station = 0 ∨ 14 < n.station) : judgeNotice cs s = s := by
  have failed : passes cs n = false := by
    simp only [passes, checkMatches, Bool.and_eq_false_iff, decide_eq_false_iff_not]
    rcases fails with check | cls | least | most
    · exact .inl (.inl (.inl (by simpa using check)))
    · exact .inr (by omega)
    · exact .inl (.inl (.inr (by omega)))
    · exact .inl (.inr (by omega))
  simp [judgeNotice, parsed, failed]

/-- An event on a busy line that changes neither STATE's content nor the reasons tells the line nothing. -/
theorem publish_busy_of_same {s0 s : State} (busy : s.line.state ≠ .idle) (content : s.content = s0.content)
    (reasons : s.hold.reasons = s0.hold.reasons) : publish s0 s = s := by
  rw [publish_of_same content reasons, beginAttempt_of_not (mayBegin_of_state busy)]

/-- Settles O43: the notice is judged on a busy line, so what follows is its judgement and what that tells. -/
theorem noticeReceivedQueuesOrRefuses : Obligations.NoticeReceivedQueuesOrRefuses := by
  unfold Obligations.NoticeReceivedQueuesOrRefuses
  intro s cs n
  have overBusy : s.receiving = true → (receptionOver s).line.state = .busy := fun receiving => by
    simp [receptionOver, busy_of_receiving receiving]
  refine ⟨?queued, ?overrun, ?own, ?failed, ?idle⟩
  case queued =>
    intro receiving shape parsed check cls least most other room
    have offered : judgeNotice cs (receptionOver s) = (receptionOver s).onLine fun l => { l with rx := l.rx ++ [n] } := by
      rw [judgeNotice_passed _ parsed check cls least most, if_neg (by simpa [receptionOver, State.cfg] using other),
        offerNotice, if_pos (by simpa [receptionOver] using room)]
    refine ⟨_, exec_noticeReceived receiving shape, ?_⟩
    rw [offered, publish_busy_of_same (s0 := s) (s := (receptionOver s).onLine fun l => { l with rx := l.rx ++ [n] })
      (by simp [overBusy receiving]) rfl rfl]
    simp [receptionOver, OnlyIn]
  case overrun =>
    intro receiving shape parsed check cls least most other full
    have lost : judgeNotice cs (receptionOver s) = raise .rxOverrun (receptionOver s) := by
      rw [judgeNotice_passed _ parsed check cls least most, if_neg (by simpa [receptionOver, State.cfg] using other),
        offerNotice, if_neg (by simpa [receptionOver] using full)]
    have calm := raise_calm .rxOverrun (receptionOver s)
    have line : (raise .rxOverrun (receptionOver s)).line.state ≠ .idle := by
      rw [calm.line]
      simp [overBusy receiving]
    refine ⟨_, exec_noticeReceived receiving shape, ?_⟩
    rw [lost]
    have flags := publish_flags s _ _ (raise_raised .rxOverrun (receptionOver s))
    refine ⟨?_, ?_, flags, ?_⟩
    · rw [(publish_marks s _).1, calm.rx]; rfl
    · rw [publish_of_not (mayBegin_of_state line), (tellEvent_tells _ _).line, calm.line]; rfl
    · simp [OnlyIn, receptionOver]
  case own =>
    intro receiving shape parsed check cls least most own
    have evidence : judgeNotice cs (receptionOver s) = conflictEvidence (receptionOver s) := by
      rw [judgeNotice_passed _ parsed check cls least most, if_pos (by simpa [receptionOver, State.cfg] using own)]
    have calm : LineCalm _ (conflictEvidence (receptionOver s)) := conflictEvidence_calm
    have line : (conflictEvidence (receptionOver s)).line.state ≠ .idle := by
      rw [calm.line]
      simp [overBusy receiving]
    refine ⟨_, exec_noticeReceived receiving shape, ?_⟩
    rw [evidence]
    have conflicted := conflictEvidence_conflicted (s := s) (w := receptionOver s) s (by simp [receptionOver])
    have handed : HandedOn (conflictRaised (receptionOver s)) (publish s (conflictEvidence (receptionOver s))) :=
      (handReasons_handedOn _).trans (publish_handedOn s _)
    obtain ⟨consequences, kept⟩ := conflicted.consequences
    refine ⟨?_, ?_, ?_, conflicted.raised, conflicted.reason, conflicted.stops, consequences, kept, ?_⟩
    · rw [(publish_marks s _).1, calm.rx]; rfl
    · rw [publish_of_not (mayBegin_of_state line), (tellEvent_tells _ _).line, calm.line]; rfl
    · rw [conflicted.conflict]; rfl
    · exact handed.onlyIn (by simp [receptionOver]) (by simp [receptionOver])
  case failed =>
    intro receiving shape parsed fails
    refine ⟨_, exec_noticeReceived receiving shape, ?_⟩
    rw [judgeNotice_failed _ parsed fails, publish_busy_of_same (s0 := s) (s := receptionOver s) (by simp [overBusy receiving]) rfl rfl]
    simp [receptionOver, OnlyIn]
  case idle =>
    intro none
    refine ⟨s, ?_, rfl⟩
    rcases none with away | shape
    · simp [exec, execNoticeReceived, finishIf, away]
    · simp [exec, execNoticeReceived, finishIf, shape]

end Sys2Proof.Proofs
end

section
/-! ## Edges and discards (R115, R117, R119) -/

namespace Sys2Proof.Proofs
open Sys2Proof.Machine Sys2Proof.Safety

/-- In AWAKE and DOZE an edge reaches the line unless the own break holds it (R115, R128). -/
theorem fallingEdge_of_running {s : State} (low : Option Nat) (running : s.running = true) :
    fallingEdge low s = if s.line.ownBreak.isNone then s.onLine (·.fall s.now low) else s := by
  rcases (running_iff s).mp running with awake | doze
  · simp [fallingEdge, awake]
  · simp [fallingEdge, doze]

/-- A dominant interval of more than 5 µs, or of a length that is not told, begins a character (R115). -/
theorem startBit_iff (low : Option Nat) : startBit low = low.all fun x => decide (40 < x) := by
  cases low <;> rfl

theorem discard_only (s : State) :
    (discard s).line = { s.line with reception := none } ∧ OnlyIn [.line] s (discard s) := by
  simp [Machine.discard, OnlyIn]

/-- Settles O50: each command is one equation of the line, by the power state, the line's state and the length told. -/
theorem lineEdgesAndDiscards : Obligations.LineEdgesAndDiscards := by
  unfold Obligations.LineEdgesAndDiscards
  intro s len low n
  have falls : s.running = true → s.line.ownBreak = none →
      exec (.lineFallingEdge low) s = .next (s.onLine (·.fall s.now low)) := fun running free => by
    simp [exec, execLineFallingEdge, fallingEdge_of_running low running, free]
  refine ⟨?header, ?restart, ?glitch, ?asleep, ?unseen, ?framing, ?unframed, ?long, ?short⟩
  case header =>
    intro running free bit idle
    rw [← startBit_iff] at bit
    refine ⟨_, falls running free, ?_⟩
    simp [Line.fall, bit, idle, OnlyIn]
  case restart =>
    intro running free bit other
    rw [← startBit_iff] at bit
    refine ⟨_, falls running free, ?_⟩
    by_cases stuck : s.line.state = .stuck <;> simp [Line.fall, bit, other, stuck, OnlyIn]
  case glitch =>
    intro running free told short
    subst told
    have bit : startBit (some n) = false := by simp [startBit_iff, short]
    refine ⟨_, falls running free, ?_⟩
    simp [Line.fall, bit, OnlyIn]
  case asleep =>
    intro sleep
    refine ⟨_, rfl, ?_⟩
    simp [fallingEdge, sleep, Line.watch, OnlyIn]
  case unseen =>
    intro unseen
    refine ⟨s, ?_, rfl⟩
    rcases unseen with starting | ship | ⟨running, own⟩
    · simp [exec, execLineFallingEdge, fallingEdge, starting]
    · simp [exec, execLineFallingEdge, fallingEdge, ship]
    · simp [exec, execLineFallingEdge, fallingEdge_of_running low running, Option.isNone_eq_false_iff.mpr own]
  case framing =>
    intro receiving
    exact ⟨Machine.discard s, by simp [exec, execFramingError, receiving], discard_only s⟩
  case unframed =>
    intro quiet
    exact ⟨s, by simp [exec, execFramingError, quiet], rfl⟩
  case long =>
    intro receiving great
    exact ⟨Machine.discard s, by simp [exec, execLengthTooGreat, receiving, great], discard_only s⟩
  case short =>
    intro small
    refine ⟨s, ?_, rfl⟩
    have none : ¬(s.receiving = true ∧ 12 < len.toNat) := by
      rintro ⟨receiving, great⟩
      rcases small with quiet | short
      · simp [quiet] at receiving
      · omega
    simp only [exec, execLengthTooGreat, none, if_false]

end Sys2Proof.Proofs
end

section
/-! ## The attempt that begins at IDLE (R117, R122, R172, R190) -/

namespace Sys2Proof.Proofs
open Sys2Proof.Machine Sys2Proof.Safety

/-! ### What STATE carries is read from these blocks alone -/

theorem content_of_kept {s t : State} (h : t.pack = s.pack ∧ t.allow = s.allow ∧ t.drive = s.drive ∧ t.dirt = s.dirt ∧
    t.charge = s.charge ∧ t.hold = s.hold) : t.content = s.content := by
  obtain ⟨pack, allow, drive, dirt, charge, hold⟩ := h
  simp [State.content, State.shareLine, State.holdSummary, pack, allow, drive, dirt, charge, hold]

/-- An event whose blocks are the same tells the line nothing; the attempt that may begin does. -/
theorem publish_of_kept {s0 s : State} (h : s.pack = s0.pack ∧ s.allow = s0.allow ∧ s.drive = s0.drive ∧
    s.dirt = s0.dirt ∧ s.charge = s0.charge ∧ s.hold = s0.hold) : publish s0 s = beginAttempt s :=
  publish_of_same (content_of_kept h) (by rw [h.2.2.2.2.2])

/-! ### The slot whose attempt begins -/

/-- No slot of a lower class waits than the one whose attempt begins (R122). -/
theorem nextSlot_lowest {l : Line} {i : SlotId} {w : List Byte} (h : l.nextSlot = some (i, w)) :
    (i ≠ .hold → l.hold.slot.waiting = none) ∧ (i = .state ∨ i = .report → l.ask.slot.waiting = none) ∧
    (i = .report → l.state_.slot.waiting = none) := by
  unfold Line.nextSlot at h
  (repeat' split at h) <;> cases i <;> simp_all

theorem startAttempt_payload (i : SlotId) (w : List Byte) (s : State) :
    (startAttempt i w s).line = { s.line.onSlot i (Slot.begin (payloadNow i w (startAttempt i w s))) with
      state := .busy, dominantFrom := some s.now, risesAt := none, recessiveFrom := none, reception := none
      attempt := some ⟨i, s.now, noticeChars i.cls s.cfg.station (payloadNow i w (startAttempt i w s))⟩ } := by
  have carried : (carryFlags s).line = s.line ∧ (carryFlags s).now = s.now ∧ (carryFlags s).cfg = s.cfg := by
    simp [State.now, State.cfg]
  obtain ⟨line, now, cfg⟩ := carried
  cases i with
  | state =>
    have begun : (startAttempt .state w s).line =
        { (carryFlags s).line.onSlot .state (Slot.begin (payloadNow .state w (startAttempt .state w s))) with
          state := .busy, dominantFrom := some (carryFlags s).now, risesAt := none, recessiveFrom := none
          reception := none
          attempt := some ⟨.state, (carryFlags s).now,
            noticeChars SlotId.state.cls (carryFlags s).cfg.station (payloadNow .state w (startAttempt .state w s))⟩ } := rfl
    rw [begun, line, now, cfg]
  | hold | ask | report => rfl

theorem startAttempt_flags (i : SlotId) (w : List Byte) (s : State) : (startAttempt i w s).report.flags =
    if i = .state ∧ s.cfg.reportMode = .carryOnce then s.report.flags.map .carry else s.report.flags := by
  cases i with
  | state =>
    have begun : (startAttempt .state w s).report = (carryFlags s).report := rfl
    rw [begun]
    unfold carryFlags onFlags
    split <;> simp_all
  | hold | ask | report => rfl

/-- An attempt that begins, of the slot it begins from. -/
theorem startAttempt_slot {i : SlotId} {w : List Byte} {s : State} (h : (s.line.slot i).slot = .pending w) :
    (startAttempt i w s).line.slot i = ⟨.inFlight (payloadNow i w (startAttempt i w s)), (s.line.slot i).errors⟩ := by
  rw [startAttempt_payload]
  generalize payloadNow i w (startAttempt i w s) = p
  have same : ∀ l : Line, ({ l with
      state := .busy, dominantFrom := some s.now, risesAt := none, recessiveFrom := none, reception := none
      attempt := some ⟨i, s.now, noticeChars i.cls s.cfg.station p⟩ } : Line).slot i = l.slot i := fun l => by
    cases i <;> rfl
  rw [same, onSlot_slot_same, h]
  rfl

/-! ### The contents of HOLD and STATE -/

theorem bitNat_eq (b : Bool) : bitNat b = if b then 1 else 0 := by cases b <;> rfl

theorem mul_bitNat (k : Nat) (b : Bool) : k * bitNat b = if b then k else 0 := by cases b <;> simp [bitNat]

theorem toBytes_two (v : Nat) : toBytes 2 v = [BitVec.ofNat 8 (v / 256), BitVec.ofNat 8 v] := by simp [toBytes]

/-- Bit `k` of the change set is flag `k`, as carried (R141, R142). -/
theorem testBit_flagBits (fs : List FlagState) (k : Nat) :
    (flagBits fs).testBit k = decide (fs.getD k .clear = .set ∨ fs.getD k .clear = .carried) := by
  induction fs generalizing k with
  | nil => simp [flagBits]
  | cons f fs ih =>
    cases k with
    | zero => cases f <;> simp [flagBits, FlagState.shown, bitNat, Nat.testBit_zero]
    | succ k =>
      have half : (bitNat f.shown + 2 * flagBits fs) / 2 = flagBits fs := by
        cases f <;> simp [FlagState.shown, bitNat] <;> omega
      rw [flagBits, Nat.testBit_add_one, half, ih]
      rfl

/-! ### LINE_IDLE -/

theorem mayIdle_iff (s : State) : s.mayIdle = true ↔ s.running = true ∧ s.line.state = .busy ∧
    s.line.attempt = none ∧ s.line.ownBreak = none := by
  simp [State.mayIdle, and_assoc]

theorem exec_lineIdle {s : State} (may : s.mayIdle = true) :
    exec .lineIdle s = .next (publish s (becomeIdle (runTo s.idleAt s))) := by
  simp only [exec, execLineIdle, finishIf, may, if_true]
  rfl

/-- The line as it becomes IDLE, before the settlement of a bit error (R117). -/
def idled (s : State) : State := (runTo s.idleAt s).onLine fun l =>
  { l with state := .idle, reception := none, dominantFrom := none, risesAt := none }

theorem becomeIdle_eq (s : State) : becomeIdle (runTo s.idleAt s) = settle (idled s) := rfl

theorem idled_line (s : State) : (idled s).line =
    { s.line with state := .idle, reception := none, dominantFrom := none, risesAt := none } := by simp [idled]

@[simp] theorem idled_frame (s : State) :
    (idled s).time = (runTo s.idleAt s).time ∧ (idled s).pins = s.pins ∧ (idled s).loader = s.loader ∧
    (idled s).pack = s.pack ∧ (idled s).allow = s.allow ∧ (idled s).drive = s.drive ∧ (idled s).dirt = s.dirt ∧
    (idled s).charge = s.charge ∧ (idled s).table = s.table ∧ (idled s).report = s.report ∧ (idled s).hold = s.hold ∧
    (idled s).attach = s.attach ∧ (idled s).power = s.power ∧ (idled s).free = s.free ∧
    (idled s).pending = s.pending := by simp [idled]

theorem idled_mayBegin {s : State} (may : s.mayIdle = true) (settled : s.line.unsettled = none) :
    (idled s).mayBegin = true := by
  obtain ⟨running, -, free, -⟩ := (mayIdle_iff s).mp may
  rw [mayBegin_iff, running_of_power (t := idled s) (s := s) (by simp), idled_line]
  exact ⟨running, rfl, free, settled⟩

theorem settle_of_none {s : State} (settled : s.line.unsettled = none) : settle s = s := by simp [settle, settled]

/-- With nothing unsettled an idle line does no more than begin the attempt that waits (R122). -/
theorem exec_lineIdle_settled {s : State} (may : s.mayIdle = true) (settled : s.line.unsettled = none) :
    exec .lineIdle s = .next (beginAttempt (idled s)) := by
  rw [exec_lineIdle may, becomeIdle_eq, settle_of_none (by simp [idled_line, settled]), publish_of_kept (by simp)]

/-- Settles O51: the line becomes IDLE and the lowest slot's attempt begins; HOLD and STATE are read off the layouts. -/
theorem idleBeginsAttempt : Obligations.IdleBeginsAttempt := by
  unfold Obligations.IdleBeginsAttempt
  intro s id p k
  refine ⟨?rests, ?begins, ?hold, ?state, testBit_flagBits _ k, rfl⟩
  case rests =>
    intro may settled none
    refine ⟨_, exec_lineIdle_settled may settled, ?_⟩
    rw [beginAttempt_of_none (by rw [idled_line]; exact none)]
    exact ⟨by simp, idled_line s, by simp [OnlyIn]⟩
  case begins =>
    intro may settled next
    have waits : (idled s).line.nextSlot = some (id, p) := by rw [idled_line]; exact next
    have slots : ∀ i, (idled s).line.slot i = s.line.slot i := fun i => by rw [idled_line]; cases i <;> rfl
    have pending := nextSlot_pending waits
    refine ⟨startAttempt id p (idled s), ?_, ?_⟩
    · rw [exec_lineIdle_settled may settled, beginAttempt_of_waiting (idled_mayBegin may settled) waits]
    have line := startAttempt_payload id p (idled s)
    have slot := startAttempt_slot pending
    have cfg : (idled s).cfg = s.cfg := by simp [State.cfg]
    have now : (startAttempt id p (idled s)).now = (idled s).now := by simp [State.now]
    obtain ⟨hold, ask, state⟩ := nextSlot_lowest next
    have told : LineTold s (startAttempt id p (idled s)) :=
      lineTold_trans (by simp [LineTold, idled_line]) (startAttempt_told pending)
    beta_reduce
    intro payload
    have formed : payloadNow id p (startAttempt id p (idled s)) = payload := by
      cases id <;> simp [payloadNow, payload]
    rw [formed] at line slot
    refine ⟨by simp, by rw [line], by rw [line], ?_, by rw [slot], by rw [slot, slots], hold, ask, state, ?_, told, ?_⟩
    · rw [line, now, cfg]
    · rw [startAttempt_flags, cfg]; simp
    · simp [OnlyIn]
  case hold =>
    simp only [holdPayload, byte, mul_bitNat, Reasons.asStop, Reasons.asHot, Reasons.asFault]
    simp only [bitNat_eq]
  case state =>
    simp only [statePayload, byte, toBytes_two, mul_bitNat, State.holdSummary, Reasons.localStop, State.shareLine,
      State.krpm, List.cons_append, List.nil_append]
    simp [bitNat_eq, CellClass.code, ChargePhase.code, DriveState.code, Mode.code]

end Sys2Proof.Proofs
end

section
/-! ## HOLD, REQUEST and the notices that only enter the table (R120, R135, R143, R156, R166) -/

namespace Sys2Proof.Proofs
open Sys2Proof.Machine Sys2Proof.Safety

/-! ### A handling, step by step -/

theorem handledBy_of {kind : Notice → Bool} {act : Notice → Table → State → State} {s : State} {n : Notice}
    {rest : List Notice} {tb : Table} {k : Nat} (h : Handles s n rest tb k) (fits : kind n = true) :
    handledBy kind act s = .next (act n tb (evict n (dropOldest s))) := by
  obtain ⟨running, queue, -, taken⟩ := h
  have handling : s.handling kind = some n := by simp [State.handling, running, queue, fits]
  have entered : (dropOldest s).table.enter n (dropOldest s).now = some tb := taken
  rw [handledBy, handling]
  dsimp only
  rw [enterNotice, entered]

/-- The entry of a handled notice, as an event: after the eviction, what `act` does. -/
def handledAs (act : Notice → Table → State → State) (n : Notice) (tb : Table) (s : State) : State :=
  asEvent (act n tb) (evict n (dropOldest s))

theorem handled_of {kind : Notice → Bool} {act : Notice → Table → State → State} {s : State} {n : Notice}
    {rest : List Notice} {tb : Table} {k : Nat} (h : Handles s n rest tb k) (fits : kind n = true) :
    handled kind act s = .next (handledAs act n tb s) := handledBy_of (k := k) h fits

theorem setTable_heard (tb : Table) (s : State) : (setTable tb s).hold.heard = tb.heardUnion s.cfg.holdStations := by
  rw [setTable, handTable_hold, handWish_heard]
  rfl

@[simp] theorem dropOldest_frame (s : State) :
    (dropOldest s).time = s.time ∧ (dropOldest s).pins = s.pins ∧ (dropOldest s).loader = s.loader ∧
    (dropOldest s).pack = s.pack ∧ (dropOldest s).allow = s.allow ∧ (dropOldest s).drive = s.drive ∧
    (dropOldest s).dirt = s.dirt ∧ (dropOldest s).charge = s.charge ∧ (dropOldest s).table = s.table ∧
    (dropOldest s).report = s.report ∧ (dropOldest s).hold = s.hold ∧ (dropOldest s).attach = s.attach ∧
    (dropOldest s).power = s.power ∧ (dropOldest s).free = s.free ∧ (dropOldest s).pending = s.pending := by
  simp [dropOldest]

/-! ### What an entry leaves of the change flags (R142, R143) -/

/-- The flags are the same, or an attempt of STATE has marked them. -/
def FlagsCarried (s t : State) : Prop :=
  t.report.flags = s.report.flags ∨ t.report.flags = s.report.flags.map .carry

theorem FlagsCarried.trans {s t u : State} (a : FlagsCarried s t) (b : FlagsCarried t u) : FlagsCarried s u := by
  have twice : FlagState.carry ∘ FlagState.carry = FlagState.carry := by funext f; cases f <;> rfl
  unfold FlagsCarried at *
  rcases a with a | a <;> rcases b with b | b <;> rw [b, a] <;> simp [twice]

theorem FlagsCarried.of_report {s t : State} (h : t.report = s.report) : FlagsCarried s t := .inl (by rw [h])

theorem publish_flagsCarried (s0 s : State) : FlagsCarried s (publish s0 s) := by
  obtain ⟨-, -, -, -, -, -, -, -, -, -, -, flags⟩ := publish_told s0 s
  exact flags

/-- In UNTIL_CLEAR no attempt marks a flag (R143). -/
theorem publish_flags_untilClear {s0 s : State} (mode : s.cfg.reportMode = .untilClear) :
    (publish s0 s).report.flags = s.report.flags := by
  have cfg : (tellEvent s0 s).cfg = s.cfg := by simp [State.cfg]
  rw [publish_eq]
  rcases beginAttempt_cases (tellEvent s0 s) with same | ⟨i, w, -, -, begun⟩
  · rw [same]; simp
  · rw [begun, startAttempt_flags, cfg, mode]
    simp

theorem setTable_report (tb : Table) (s : State) :
    (setTable tb s).report = s.report := (setTable_lineHanded tb s).report

theorem evict_flagsCarried (n : Notice) (s : State) : FlagsCarried s (evict n s) := by
  unfold evict
  split
  · exact (FlagsCarried.of_report (setTable_report _ s)).trans (publish_flagsCarried _ _)
  · exact .inl rfl

theorem evict_flags_untilClear {n : Notice} {s : State} (mode : s.cfg.reportMode = .untilClear) :
    (evict n s).report.flags = s.report.flags := by
  unfold evict
  split
  · rw [asEvent, publish_flags_untilClear (by simpa [State.cfg, setTable] using mode), setTable_report]
  · rfl

/-- A seen set clears the SET flags that it names, by their place (R143). -/
theorem clearSeen_eq (seen : BitVec 16) (k : Nat) (fs : List FlagState) : clearSeen seen k fs =
    fs.mapIdx fun i f => if seen.getLsbD (k + i) = true ∧ f = .set then .clear else f := by
  induction fs generalizing k with
  | nil => rfl
  | cons f fs ih => simp [clearSeen, ih, List.mapIdx_cons, Nat.add_assoc, Nat.add_comm 1]

/-! ### The entry -/

theorem seenActs_handedOn (seen : BitVec 16) (s : State) : HandedOn s (seenActs seen s) := .of_kept (by simp)

/-- What a notice's entry does: the table takes it, and a seen set acts where there is one. -/
structure Entering (act : Notice → Table → State → State) : Prop where
  handed : ∀ n tb s, s.hold.reasons.driveFault = false → HandedOn s (act n tb s)
  aside : ∀ n tb s, Aside s (act n tb s)
  table : ∀ n tb s, (act n tb s).table = tb
  heard : ∀ n tb s, (act n tb s).hold.heard = tb.heardUnion s.cfg.holdStations

theorem actEntry_entering : Entering actEntry where
  handed _ tb _ latch := setTable_handedOn tb latch
  aside _ tb s := setTable_aside tb s
  table _ tb s := by simp [actEntry, setTable]
  heard _ tb s := setTable_heard tb s

theorem actRequest_entering : Entering actRequest where
  handed _ tb _ latch := (setTable_handedOn tb latch).trans (seenActs_handedOn _ _)
  aside _ tb s := (setTable_aside tb s).trans (seenActs_handedOn _ _).aside
  table _ tb s := by simp [actRequest, setTable]
  heard _ tb s := by simpa [actRequest] using setTable_heard tb s

section
variable {act : Notice → Table → State → State} (e : Entering act) {s : State} {n : Notice} {rest : List Notice}
  {tb : Table} {k : Nat}
include e

theorem Entering.handledAs_aside : Aside (dropOldest s) (handledAs act n tb s) :=
  ((evict_aside n _).trans (e.aside n tb _)).trans (publish_aside _ _)

theorem Entering.entered (h : Handles s n rest tb k) : Entered s (handledAs act n tb s) tb rest := by
  obtain ⟨-, queue, -, -⟩ := h
  have aside : Aside (dropOldest s) (handledAs act n tb s) := e.handledAs_aside
  obtain ⟨time, pins, loader, free, pending⟩ := aside.frame
  have table : (handledAs act n tb s).table = tb := by simp [handledAs, asEvent, e.table]
  have cfg : (evict n (dropOldest s)).cfg = s.cfg := by simp [State.cfg]
  refine ⟨table, ?_, ?_, ?_⟩
  · rw [aside.marks.1]; simp [dropOldest, queue]
  · simp [handledAs, asEvent, e.heard, cfg]
  · simp [OnlyIn, time, pins, loader, free, pending]

theorem Entering.consequences (latch : s.hold.reasons.driveFault = false) :
    Consequences s (handledAs act n tb s) ∧ OwnReasonsKept s.hold.reasons (handledAs act n tb s).hold.reasons := by
  have dropped : (dropOldest s).hold.reasons.driveFault = false := by simp [latch]
  have evicted : HandedOn (dropOldest s) (evict n (dropOldest s)) := by
    unfold evict
    split
    · exact (setTable_handedOn _ dropped).trans (publish_handedOn _ _)
    · exact .of_kept (by simp)
  have handed : HandedOn (dropOldest s) (handledAs act n tb s) :=
    (evicted.trans (e.handed n tb _ (evicted.handing.latched.trans dropped))).trans (publish_handedOn _ _)
  exact handed.consequences (by simp)

end

/-! ### The DRIVE_FAULT latch (R62, R166) -/

/-- The latch is clear and the drive is not in FAULT. -/
def Unlatched (s : State) : Prop := s.hold.reasons.driveFault = false ∧ s.drive.state ≠ .fault

theorem easedDrive_fault {d : Drive} {now : Nat} (h : d.state ≠ .fault) : (easedDrive d now).state ≠ .fault := by
  unfold easedDrive
  split
  case h_3 fault => exact absurd fault h
  all_goals simp_all [Drive.quieted]

theorem Handing.unlatched {s t : State} (h : Handing s t) (clear : Unlatched s) : Unlatched t := by
  refine ⟨h.latched.trans clear.1, ?_⟩
  rcases h.easing.drive with ⟨drive, -⟩ | ⟨drive, -⟩
  · rw [drive]; exact clear.2
  · rw [drive]; exact easedDrive_fault clear.2

/-- The state in which a change of the table from `t0` has been tested against the latch. -/
def latchTested (t0 : Table) (s : State) : State := if s.table.wish = t0.wish then s else latchTest s

theorem handTable_handingFrom (t0 : Table) (s : State) : Handing (latchTested t0 s) (handTable t0 s) := by
  have wished : Handing (latchTested t0 s) (handWish t0 s) := by
    unfold handWish
    rw [← latchTested]
    dsimp only
    split
    · exact .of_kept (.refl _) rfl
    · exact handReasons_handing _
  rw [handTable_eq]
  split
  · exact wished.trans (handCharge_handing _)
  · exact wished.trans (powerJudge_handing _)

/-- A latch that stands goes with a trigger that is no longer held (R62, R166). -/
theorem latchTest_unlatched {s : State} (latch : s.hold.reasons.driveFault = true) (free : s.table.triggerHeld = false) :
    Unlatched (latchTest s) := by
  have cleared : latchTest s = onReasons (fun r => { r with driveFault := false }) (leaveFault s) := by
    simp [latchTest, latch, free]
  rw [cleared]
  exact (handReasons_handing _).unlatched ⟨by simp, by simpa using leaveFault_fault s⟩

theorem triggerHeld_eq (tb : Table) : tb.triggerHeld = decide (tb.wish = some true) := by
  unfold Table.triggerHeld Table.wish
  cases tb.activeRequest <;> simp

section
variable {s : State} {tb : Table}

/-- A table that shows the trigger released where the one before did not clears the latch. -/
theorem setTable_unlatched (latch : s.hold.reasons.driveFault = true) (wish : tb.wish ≠ s.table.wish)
    (free : tb.triggerHeld = false) : Unlatched (setTable tb s) := by
  have tested : Unlatched (latchTested s.table (s.onTable fun _ => tb)) := by
    rw [latchTested, if_neg (by simpa using wish)]
    exact latchTest_unlatched (by simpa using latch) (by simpa using free)
  exact (handTable_handingFrom _ _).unlatched tested

/-- A table that shows the trigger held, or no other request, leaves the latch. -/
theorem setTable_latched (h : tb.wish = s.table.wish ∨ tb.triggerHeld = true) : Handing s (setTable tb s) := by
  have tested : latchTested s.table (s.onTable fun _ => tb) = s.onTable fun _ => tb := by
    unfold latchTested latchTest
    rcases h with wish | held
    · simp [wish]
    · simp [held]
  have handed := handTable_handingFrom s.table (s.onTable fun _ => tb)
  rw [tested] at handed
  exact (onTable_handing _ s).trans handed

/-- A clear latch stays clear. -/
theorem setTable_keepsUnlatched (clear : Unlatched s) : Unlatched (setTable tb s) :=
  (setTable_handing tb clear.1).unlatched clear

/-- Of two tables after one another, the second showing the trigger released and not the request before both: the latch
is cleared at the one or the other. -/
theorem handledAs_unlatched {n : Notice} (latch : s.hold.reasons.driveFault = true) (wish : tb.wish ≠ s.table.wish)
    (free : tb.triggerHeld = false) : Unlatched (handledAs actRequest n tb s) := by
  have entry : Unlatched (setTable tb (evict n (dropOldest s))) := by
    unfold evict
    split
    case h_1 old _ =>
      generalize removed : (dropOldest s).table.remove old.station = gone
      have table : (asEvent (setTable gone) (dropOldest s)).table = gone := by simp [asEvent, setTable]
      by_cases kept : gone.wish = s.table.wish ∨ gone.triggerHeld = true
      · have handed : Handing (dropOldest s) (asEvent (setTable gone) (dropOldest s)) :=
          (setTable_latched (by simpa using kept)).trans (publish_handing _ _)
        refine setTable_unlatched (handed.latched.trans (by simp [latch])) ?_ free
        rw [table]
        rcases kept with same | held
        · rwa [same]
        · intro same
          rw [triggerHeld_eq] at held free
          simp [same, of_decide_eq_true held] at free
      · obtain ⟨other, released⟩ := not_or.mp kept
        have clear : Unlatched (setTable gone (dropOldest s)) :=
          setTable_unlatched (by simp [latch]) (by simpa using other) (by simpa using released)
        exact setTable_keepsUnlatched ((publish_handing _ _).unlatched clear)
    case h_2 => exact setTable_unlatched (by simp [latch]) (by simpa using wish) free
  exact (publish_handing _ _).unlatched ((seenActs_handedOn _ _).handing.unlatched entry)

end

/-- Settles O44: the notice leaves the queue, and after the eviction the table takes it as one event. -/
theorem handledNoticesEnterTheTable : Obligations.HandledNoticesEnterTheTable := by
  unfold Obligations.HandledNoticesEnterTheTable
  intro s c n rest tb
  refine ⟨?entries, ?request, ?released⟩
  case entries =>
    intro handles command
    have answered : exec c s = .next (handledAs actEntry n tb s) := by
      rcases command with named | ⟨rfl, other⟩
      · simp only [List.mem_cons, Prod.mk.injEq, List.not_mem_nil, or_false] at named
        rcases named with ⟨rfl, cls⟩ | ⟨rfl, cls⟩ | ⟨rfl, cls⟩ <;>
          exact handled_of handles (by simp [Notice.isClass, cls])
      · refine handled_of handles ?_
        simp only [List.mem_cons, List.not_mem_nil, or_false] at other
        simp only [otherClass]
        simp
        omega
    have flags : FlagsCarried s (handledAs actEntry n tb s) :=
      (((FlagsCarried.of_report (by simp)).trans (evict_flagsCarried n (dropOldest s))).trans
        (.of_report (setTable_report tb _))).trans (publish_flagsCarried _ _)
    exact ⟨_, answered, actEntry_entering.entered handles, actEntry_entering.consequences, flags⟩
  case request =>
    rintro handles rfl
    have answered : exec .request s = .next (handledAs actRequest n tb s) :=
      handled_of handles (by simp [Notice.isClass, handles.2.2.1])
    refine ⟨_, answered, actRequest_entering.entered handles, actRequest_entering.consequences, fun mode => ?_,
      fun mode => ?_⟩
    · have cfg : (dropOldest s).cfg.reportMode = .untilClear := by simpa [State.cfg] using mode
      have entered : (setTable tb (evict n (dropOldest s))).cfg.reportMode = .untilClear := by
        simpa [State.cfg, setTable] using mode
      have seen : (actRequest n tb (evict n (dropOldest s))).report.flags =
          clearSeen n.seenSet 0 (setTable tb (evict n (dropOldest s))).report.flags := by
        simp only [actRequest, seenActs, entered]
        rfl
      have acted : (actRequest n tb (evict n (dropOldest s))).cfg.reportMode = .untilClear := by
        simpa [State.cfg, actRequest, setTable] using mode
      rw [handledAs, asEvent, publish_flags_untilClear acted, seen, setTable_report, evict_flags_untilClear cfg,
        clearSeen_eq]
      simp
    · have entered : (setTable tb (evict n (dropOldest s))).cfg.reportMode = .carryOnce := by
        simpa [State.cfg, setTable] using mode
      have acted : actRequest n tb (evict n (dropOldest s)) = setTable tb (evict n (dropOldest s)) := by
        simp only [actRequest, seenActs, entered]
      have report : FlagsCarried (evict n (dropOldest s)) (actRequest n tb (evict n (dropOldest s))) :=
        .of_report (by rw [acted, setTable_report])
      exact (((FlagsCarried.of_report (s := s) (by simp)).trans (evict_flagsCarried n (dropOldest s))).trans report).trans
        (publish_flagsCarried _ _)
  case released =>
    rintro handles rfl latch wish free
    have answered : exec .request s = .next (handledAs actRequest n tb s) :=
      handled_of handles (by simp [Notice.isClass, handles.2.2.1])
    have aside : Aside (dropOldest s) (handledAs actRequest n tb s) := actRequest_entering.handledAs_aside
    obtain ⟨clear, drive⟩ := handledAs_unlatched (n := n) latch wish free
    exact ⟨_, answered, actRequest_entering.entered handles, clear, drive, by rw [aside.history]; simp⟩

end Sys2Proof.Proofs
end

section
/-! ## A change of content, an attempt and a slot, fact by fact (R121, R122, R130, R131, R142) -/

namespace Sys2Proof.Proofs
open Sys2Proof.Machine Sys2Proof.Safety

/-! ### Slots of a changed line -/

theorem slot_of_same {l m : Line} (h : m.hold = l.hold ∧ m.ask = l.ask ∧ m.state_ = l.state_ ∧ m.report = l.report)
    (i : SlotId) : m.slot i = l.slot i := by
  obtain ⟨hold, ask, state, report⟩ := h
  cases i
  · exact hold
  · exact ask
  · exact state
  · exact report

/-- No slot's notice is lost. -/
def KeepsOccupied (l m : Line) : Prop := ∀ i, occupied (l.slot i).slot = true → occupied (m.slot i).slot = true

theorem KeepsOccupied.trans {l m o : Line} (a : KeepsOccupied l m) (b : KeepsOccupied m o) : KeepsOccupied l o :=
  fun i h => b i (a i h)

theorem LineHanded.occupied {s t : State} (h : LineHanded s t) : KeepsOccupied s.line t.line := by
  intro i
  cases i with
  | ask => exact h.asked
  | hold | state | report => rw [h.line]; exact id

theorem Told.keepsOccupied {s t : State} (h : Told s t) : KeepsOccupied s.line t.line := by
  intro i
  cases i with
  | hold => exact h.occupied.1
  | state => exact h.occupied.2
  | ask | report => rw [h.line]; exact id

/-- The bit-error counts of the four slots are the same. -/
def SameErrors (l m : Line) : Prop := ∀ i, (m.slot i).errors = (l.slot i).errors

theorem SameErrors.trans {l m o : Line} (a : SameErrors l m) (b : SameErrors m o) : SameErrors l o :=
  fun i => (b i).trans (a i)

theorem LineHanded.sameErrors {s t : State} (h : LineHanded s t) : SameErrors s.line t.line := by
  intro i
  cases i with
  | ask => exact h.errors
  | hold | state | report => rw [h.line]; rfl

theorem Told.sameErrors {s t : State} (h : Told s t) : SameErrors s.line t.line := by
  intro i
  cases i with
  | hold => exact h.errors.1
  | state => exact h.errors.2
  | ask | report => rw [h.line]; rfl

/-! ### The attempt that may begin -/

theorem beginAttempt_unsettled (s : State) : (beginAttempt s).line.unsettled = s.line.unsettled := by
  rcases beginAttempt_cases s with same | ⟨i, w, -, -, begun⟩
  · rw [same]
  · obtain ⟨payload, line⟩ := startAttempt_line i w s
    rw [begun, line]
    cases i <;> rfl

/-- The slots after the begin of an attempt: the one it begins from is in flight. -/
theorem startAttempt_slots (i : SlotId) (w : List Byte) (s : State) : ∃ payload, ∀ j,
    (startAttempt i w s).line.slot j = (s.line.onSlot i (Slot.begin payload)).slot j := by
  obtain ⟨payload, line⟩ := startAttempt_line i w s
  exact ⟨payload, fun j => by rw [line]; exact slot_of_same ⟨rfl, rfl, rfl, rfl⟩ j⟩

theorem onSlot_slot_other {i j : SlotId} (h : j ≠ i) (l : Line) (f : Slot → Slot) :
    (l.onSlot i f).slot j = l.slot j := setSlot_slot_other h l _

/-- A slot that does not wait is left alone. -/
theorem beginAttempt_slot_of_not_waiting {s : State} {j : SlotId} (h : (s.line.slot j).slot.waiting = none) :
    (beginAttempt s).line.slot j = s.line.slot j := by
  rcases beginAttempt_cases s with same | ⟨i, w, -, next, begun⟩
  · rw [same]
  · obtain ⟨payload, slots⟩ := startAttempt_slots i w s
    rw [begun, slots]
    refine onSlot_slot_other ?_ _ _
    rintro rfl
    rw [nextSlot_pending next] at h
    contradiction

theorem beginAttempt_occupied (s : State) (j : SlotId) :
    occupied ((beginAttempt s).line.slot j).slot = occupied (s.line.slot j).slot := by
  rcases beginAttempt_cases s with same | ⟨i, w, -, -, begun⟩
  · rw [same]
  · obtain ⟨payload, slots⟩ := startAttempt_slots i w s
    rw [begun, slots]
    by_cases other : j = i
    · subst other
      simp [onSlot_slot_same]
    · rw [onSlot_slot_other other]

theorem beginAttempt_sameErrors (s : State) : SameErrors s.line (beginAttempt s).line := by
  intro j
  rcases beginAttempt_cases s with same | ⟨i, w, -, -, begun⟩
  · rw [same]
  · obtain ⟨payload, slots⟩ := startAttempt_slots i w s
    rw [begun, slots]
    by_cases other : j = i
    · subst other
      simp [onSlot_slot_same]
    · rw [onSlot_slot_other other]

/-- The cadences and the marks of a putting do not move with an attempt (R130, R131). -/
theorem beginAttempt_cadences (s : State) :
    (beginAttempt s).line.holdoff = s.line.holdoff ∧ (beginAttempt s).line.lastStatePut = s.line.lastStatePut ∧
    (beginAttempt s).line.stateCadence = s.line.stateCadence ∧ (beginAttempt s).line.holdCadence = s.line.holdCadence := by
  rcases beginAttempt_cases s with same | ⟨i, w, -, -, begun⟩
  · simp [same]
  · obtain ⟨payload, line⟩ := startAttempt_line i w s
    rw [begun, line]
    cases i <;> simp [Line.onSlot, Line.setSlot]

/-- The flags are marked by an attempt of STATE that begins in CARRY_ONCE (R142, R143). -/
theorem beginAttempt_flags {s : State} (free : s.line.attempt = none) : (beginAttempt s).report.flags =
    if (beginAttempt s).line.attempt.map (·.slot) = some .state ∧ s.cfg.reportMode = .carryOnce
      then s.report.flags.map .carry else s.report.flags := by
  rcases beginAttempt_cases s with same | ⟨i, w, -, -, begun⟩
  · rw [same, free]
    simp
  · obtain ⟨payload, line⟩ := startAttempt_line i w s
    rw [begun, startAttempt_flags, line]
    simp

theorem publish_attempt_flags {s0 s : State} (free : s.line.attempt = none) : (publish s0 s).report.flags =
    if (publish s0 s).line.attempt.map (·.slot) = some .state ∧ s.cfg.reportMode = .carryOnce
      then s.report.flags.map .carry else s.report.flags := by
  have told : (tellEvent s0 s).line.attempt = none := by rw [(tellEvent_tells s0 s).line]; exact free
  have begun := beginAttempt_flags told
  simpa [publish_eq, State.cfg] using begun

/-! ### A change of content (R130) -/

/-- 10 ms or more have passed since the last putting. -/
theorem stateMayGo_eq (s : State) : s.stateMayGo = s.line.lastStatePut.all fun e => decide (e + 80000 ≤ s.now) := by
  unfold State.stateMayGo
  cases s.line.lastStatePut <;> rfl

theorem contentChange_of_waiting {s : State} (h : s.line.state_.slot.waiting.isSome = true) : contentChange s = s := by
  simp [contentChange, h]

theorem contentChange_of_goes {s : State} (running : s.running = true)
    (free : s.line.state_.slot.waiting.isSome = false) (goes : s.stateMayGo = true) : contentChange s = putState s := by
  simp [contentChange, running, free, goes]

theorem contentChange_of_held {s : State} (running : s.running = true)
    (free : s.line.state_.slot.waiting.isSome = false) (held : s.stateMayGo = false) :
    contentChange s = s.onLine fun l => { l with holdoff := true } := by
  simp [contentChange, running, free, held]

theorem putState_line (s : State) : (putState s).line = { s.line with
    state_ := ⟨(s.line.state_.slot).put [], s.line.state_.errors⟩
    unsettled := s.line.unsettled.map (·.noticing .state)
    stateCadence := some (s.now + s.statePeriod), holdoff := false, lastStatePut := some s.now } := rfl

/-- A further change of content has no effect: STATE waits, or the holdoff mark stands within 10 ms of the putting. -/
def ContentSettled (s : State) : Prop :=
  s.line.state_.slot.waiting.isSome = true ∨ (s.stateMayGo = false ∧ s.line.holdoff = true)

theorem contentChange_of_settled {s : State} (h : ContentSettled s) : contentChange s = s := by
  rcases h with waits | ⟨held, marked⟩
  · exact contentChange_of_waiting waits
  · unfold contentChange
    have same : (s.onLine fun l => { l with holdoff := true }) = s := by
      rw [State.onLine, ← marked]
    rw [held, same]
    simp

theorem ContentSettled.of_same {s t : State} (h : ContentSettled s) (time : t.time = s.time)
    (line : t.line.state_ = s.line.state_ ∧ t.line.holdoff = s.line.holdoff ∧
      t.line.lastStatePut = s.line.lastStatePut) : ContentSettled t := by
  obtain ⟨slot, holdoff, put⟩ := line
  have goes : t.stateMayGo = s.stateMayGo := by
    rw [State.stateMayGo, State.stateMayGo, put, State.now, State.now, time]
  rwa [ContentSettled, slot, holdoff, goes]

theorem tellState_of_settled {s0 s : State} (h : ContentSettled s) : tellState s0 s = s := by
  unfold tellState
  split
  · rfl
  · exact contentChange_of_settled h

/-! ### What is told of the reasons (R131) -/

theorem putHold_line {s : State} (running : s.running = true) : (putHold s).line = { s.line with
    hold := ⟨(s.line.hold.slot).put [], s.line.hold.errors⟩
    unsettled := s.line.unsettled.map (·.noticing .hold)
    holdCadence := if s.hold.reasons.any then some (s.now + ms 200) else none } := by
  simp [putHold, running, putSlot, Line.onSlot, Line.setSlot, Line.slot]

theorem tellState_slots (s0 s : State) : (tellState s0 s).line.hold = s.line.hold ∧
    (tellState s0 s).line.holdCadence = s.line.holdCadence := by
  unfold tellState
  split
  · exact ⟨rfl, rfl⟩
  · rw [(contentChange_calm s).line]; exact ⟨rfl, rfl⟩

/-- The marks of STATE's putting do not move with a putting of HOLD. -/
theorem tellHold_state (s0 s : State) : (tellHold s0 s).line.state_ = s.line.state_ ∧
    (tellHold s0 s).line.holdoff = s.line.holdoff ∧ (tellHold s0 s).line.lastStatePut = s.line.lastStatePut ∧
    (tellHold s0 s).line.stateCadence = s.line.stateCadence := by
  unfold tellHold putHold
  (repeat' split) <;> simp [putSlot, Line.onSlot, Line.setSlot, Line.slot]

/-- Where a further change of content has no effect, the telling leaves STATE and its marks. -/
theorem tell_state_of_settled {s0 s : State} (h : ContentSettled s) :
    (Machine.tell s0 s).line.state_ = s.line.state_ ∧ (Machine.tell s0 s).line.holdoff = s.line.holdoff ∧
    (Machine.tell s0 s).line.lastStatePut = s.line.lastStatePut ∧
    (Machine.tell s0 s).line.stateCadence = s.line.stateCadence := by
  have told := tellHold_state s0 (tellState s0 s)
  rw [tellState_of_settled h] at told
  rw [Machine.tell, tellState_of_settled h]
  exact told

/-- A change of content finds STATE's slot EMPTY: STATE is put at once, or the holdoff mark is set (R130). -/
theorem contentChange_of_empty {s : State} (running : s.running = true) (empty : s.line.state_.slot = .empty) :
    ContentSettled (contentChange s) ∧
    if s.line.lastStatePut.all (fun e => decide (e + 80000 ≤ s.now)) = true
    then occupied (contentChange s).line.state_.slot = true ∧ (contentChange s).line.lastStatePut = some s.now
    else (contentChange s).line.state_.slot = .empty ∧ (contentChange s).line.holdoff = true := by
  have free : s.line.state_.slot.waiting.isSome = false := by rw [empty]; rfl
  rw [← stateMayGo_eq]
  split
  case isTrue goes =>
    have waits : (putState s).line.state_.slot = .pending [] := by rw [putState_line, empty]; rfl
    rw [contentChange_of_goes running free goes]
    exact ⟨.inl (by rw [waits]; rfl), by rw [waits]; rfl, by rw [putState_line]⟩
  case isFalse early =>
    have held : s.stateMayGo = false := by simpa using early
    rw [contentChange_of_held running free held]
    exact ⟨.inr ⟨held, by simp⟩, by simpa using empty, by simp⟩

/-- Without a new break of its own an event has not been woken in (log 20). -/
theorem rewoken_of_ownBreak {s0 s : State} (h : s.line.ownBreak = s0.line.ownBreak) : s.rewoken s0 = false := by
  simp [State.rewoken, h]

theorem tellEvent_of_ownBreak {s0 s : State} (h : s.line.ownBreak = s0.line.ownBreak) :
    tellEvent s0 s = Machine.tell s0 s := by
  simp [tellEvent, rewoken_of_ownBreak h]

/-- The HOLD slot and its cadence after the telling of an event (R131). -/
theorem tell_hold {s0 s : State} (running : s.running = true) :
    (s.hold.reasons = s0.hold.reasons →
      (Machine.tell s0 s).line.hold = s.line.hold ∧ (Machine.tell s0 s).line.holdCadence = s.line.holdCadence) ∧
    (s.hold.reasons ≠ s0.hold.reasons →
      (Machine.tell s0 s).line.hold = ⟨(s.line.hold.slot).put [], s.line.hold.errors⟩ ∧
      (Machine.tell s0 s).line.holdCadence = if s.hold.reasons.any then some (s.now + 1600000) else none) := by
  obtain ⟨hold, cadence⟩ := tellState_slots s0 s
  have kept : (tellState s0 s).hold = s.hold ∧ (tellState s0 s).power = s.power ∧ (tellState s0 s).time = s.time := by
    unfold tellState
    split <;> simp
  obtain ⟨reasons, power, time⟩ := kept
  unfold Machine.tell tellHold
  rw [reasons]
  constructor
  · intro same
    rw [if_pos same]
    exact ⟨hold, cadence⟩
  · intro other
    rw [if_neg other, putHold_line (by rw [running_of_power power, running])]
    have now : (tellState s0 s).now = s.now := by rw [State.now, State.now, time]
    simp [hold, now, ms]

end Sys2Proof.Proofs
end

section
/-! ## The end of an attempt, and the settlement of a bit error (R123 to R126) -/

namespace Sys2Proof.Proofs
open Sys2Proof.Machine Sys2Proof.Safety

/-! ### Outcomes -/

theorem outcome_flags (i : SlotId) (g : FlagState → FlagState) (s : State) : (outcome i g s).report.flags =
    if i = .state ∧ s.cfg.reportMode = .carryOnce then s.report.flags.map g else s.report.flags := by
  unfold outcome
  split
  case isTrue state =>
    unfold flagsOutcome onFlags
    split <;> simp_all
  case isFalse other => simp [other]

theorem outcome_ship (i : SlotId) (g : FlagState → FlagState) (s : State) :
    (outcome i g s).report.shipAnswer = s.report.shipAnswer ∧
    (outcome i g s).report.shipPending = s.report.shipPending := by
  unfold outcome flagsOutcome onFlags
  (repeat' split) <;> simp

theorem onAnswer_report (i : SlotId) (g : ShipAnswer → ShipAnswer) (s : State) : (onAnswer i g s).report =
    { s.report with shipAnswer := if i = .report then g s.report.shipAnswer else s.report.shipAnswer } := by
  unfold onAnswer
  split <;> simp

theorem loseAttempt_line {s : State} {a : Attempt} (h : s.line.attempt = some a) :
    (loseAttempt s).line = { s.line.onSlot a.slot Slot.lost with attempt := none } := by
  simp [loseAttempt, h]

theorem loseAttempt_flags {s : State} {a : Attempt} (h : s.line.attempt = some a) : (loseAttempt s).report.flags =
    if a.slot = .state ∧ s.cfg.reportMode = .carryOnce then s.report.flags.map .lost else s.report.flags := by
  simp only [loseAttempt, h, onAnswer_report, outcome_flags]
  rfl

theorem onSlot_state (l : Line) (i : SlotId) (f : Slot → Slot) : (l.onSlot i f).state = l.state := by
  cases i <;> rfl

/-! ### The header lost and the bit error (R123, R124) -/

theorem inHeader_iff {s : State} {a : Attempt} (h : s.line.attempt = some a) :
    s.inHeader = true ↔ s.now < a.start + 800 := by
  simp only [State.inHeader, h]
  exact decide_eq_true_iff

/-- A loss that drops no SHIP answer, on the busy line of the attempt, tells the line nothing more. -/
theorem exec_headerLoss {s : State} {a : Attempt} (h : s.line.attempt = some a) (early : s.now < a.start + 800)
    (kept : s.lossDropsShip = false) (busy : s.line.state = .busy) :
    exec .headerLoss s = .next ((loseAttempt s).onLine fun l => { l with reception := some [] }) := by
  have lost : loseHeader s = (loseAttempt s).onLine fun l => { l with reception := some [] } := by
    simp [loseHeader, kept, thenShip]
  have header := (inHeader_iff h).mpr early
  simp only [exec, execHeaderLoss, finishIf, header, if_true, finish, asEvent, lost]
  rw [publish_busy_of_same (s0 := s) (s := (loseAttempt s).onLine fun l => { l with reception := some [] })
    (by simp [loseAttempt_line h, onSlot_state, busy]) (content_of_kept (by simp)) (by simp)]

/-- The attempt in error, before anything is told. -/
def errored (a : Attempt) (s : State) : State := onAnswer a.slot .landed (s.onLine fun l =>
  { l.onSlot a.slot Slot.lost with
    attempt := none, reception := none, unsettled := some ⟨a.slot, (l.slot a.slot).slot.replaced⟩ })

theorem endErrored_eq (a : Attempt) (s : State) : endErrored a s = thenShip s.lossDropsShip (errored a s) := rfl

theorem errored_line (a : Attempt) (s : State) : (errored a s).line = { s.line.onSlot a.slot Slot.lost with
    attempt := none, reception := none, unsettled := some ⟨a.slot, (s.line.slot a.slot).slot.replaced⟩ } := by
  simp [errored]

theorem exec_bitError {s : State} {a : Attempt} (h : s.line.attempt = some a) :
    exec .bitError s = .next (publish s (thenShip s.lossDropsShip (errored a s))) := by
  simp only [exec, execBitError, h, finish, asEvent, endErrored_eq]

/-! ### The settlement (R124) -/

/-- At IDLE the attempt in error is over; its count is not yet moved. -/
def released (x : Unsettled) (s : State) : State :=
  outcome x.slot .lost ((idled s).onLine fun l => { l with unsettled := none })

theorem released_line (x : Unsettled) (s : State) : (released x s).line = { s.line with
    state := .idle, reception := none, dominantFrom := none, risesAt := none, unsettled := none } := by
  simp [released, idled_line]

theorem released_slot (x : Unsettled) (s : State) (i : SlotId) : (released x s).line.slot i = s.line.slot i := by
  rw [released_line]
  exact slot_of_same ⟨rfl, rfl, rfl, rfl⟩ i

@[simp] theorem released_frame (x : Unsettled) (s : State) :
    (released x s).time = (runTo s.idleAt s).time ∧ (released x s).pins = s.pins ∧ (released x s).loader = s.loader ∧
    (released x s).pack = s.pack ∧ (released x s).allow = s.allow ∧ (released x s).drive = s.drive ∧
    (released x s).dirt = s.dirt ∧ (released x s).charge = s.charge ∧ (released x s).table = s.table ∧
    (released x s).hold = s.hold ∧ (released x s).attach = s.attach ∧ (released x s).power = s.power ∧
    (released x s).free = s.free ∧ (released x s).pending = s.pending := by simp [released]

theorem released_flags (x : Unsettled) (s : State) : (released x s).report.flags =
    if x.slot = .state ∧ s.cfg.reportMode = .carryOnce then s.report.flags.map .lost else s.report.flags := by
  have before : ((idled s).onLine fun l => { l with unsettled := none }).cfg = s.cfg ∧
      ((idled s).onLine fun l => { l with unsettled := none }).report = s.report := by simp [State.cfg]
  rw [released, outcome_flags, before.1, before.2]

/-- A slot of the line takes a value, and nothing else of the unit changes. -/
theorem setSlot_others {l : Line} {i : SlotId} {v : TxSlot} : l.setSlot i v =
    { l with hold := (l.setSlot i v).hold, ask := (l.setSlot i v).ask, state_ := (l.setSlot i v).state_
             report := (l.setSlot i v).report } := by
  cases i <;> rfl

theorem setSlot_slot (l : Line) (i j : SlotId) (v : TxSlot) :
    (l.setSlot i v).slot j = if j = i then v else l.slot j := by
  split
  case isTrue same => rw [same, setSlot_slot_same]
  case isFalse other => rw [setSlot_slot_other other]

/-- The first or second error: the count goes up by 1. -/
def errorCounted (x : Unsettled) (s : State) : State := (released x s).onLine fun l =>
  l.setSlot x.slot { l.slot x.slot with errors := (l.slot x.slot).errors + 1 }

/-- The third error: the notice that was in flight leaves its slot. -/
def noticeDropped (x : Unsettled) (s : State) : State := (released x s).onLine fun l =>
  l.setSlot x.slot ⟨(l.slot x.slot).slot.dropSent x.replaced, 0⟩

theorem settle_counted {s : State} {x : Unsettled} (h : s.line.unsettled = some x)
    (few : (s.line.slot x.slot).errors < 2) : settle (idled s) = errorCounted x s := by
  have unsettled : (idled s).line.unsettled = some x := by rw [idled_line]; exact h
  have less : ((released x s).line.slot x.slot).errors + 1 < 3 := by rw [released_slot]; omega
  rw [settle, unsettled]
  exact if_pos less

theorem settle_dropped {s : State} {x : Unsettled} (h : s.line.unsettled = some x)
    (many : 2 ≤ (s.line.slot x.slot).errors) :
    settle (idled s) = thenShip (s.dropsShip x) (conflictEvidence (noticeDropped x s)) := by
  have unsettled : (idled s).line.unsettled = some x := by rw [idled_line]; exact h
  have more : ¬((released x s).line.slot x.slot).errors + 1 < 3 := by rw [released_slot]; omega
  have drops : (released x s).dropsShip x = s.dropsShip x := by
    simp [State.dropsShip, released, outcome_ship]
  rw [settle, unsettled, ← drops]
  exact if_neg more

theorem noticeDropped_slot (x : Unsettled) (s : State) (j : SlotId) : (noticeDropped x s).line.slot j =
    if j = x.slot then ⟨(s.line.slot x.slot).slot.dropSent x.replaced, 0⟩ else s.line.slot j := by
  rw [noticeDropped, onLine_line, setSlot_slot, released_slot, released_slot]

theorem errorCounted_slot (x : Unsettled) (s : State) (j : SlotId) : (errorCounted x s).line.slot j =
    if j = x.slot then ⟨(s.line.slot x.slot).slot, (s.line.slot x.slot).errors + 1⟩ else s.line.slot j := by
  rw [errorCounted, onLine_line, setSlot_slot, released_slot, released_slot]

theorem noticeDropped_line (x : Unsettled) (s : State) : (noticeDropped x s).line = { s.line with
    state := .idle, reception := none, dominantFrom := none, risesAt := none, unsettled := none
    hold := (noticeDropped x s).line.hold, ask := (noticeDropped x s).line.ask
    state_ := (noticeDropped x s).line.state_, report := (noticeDropped x s).line.report } := by
  rw [noticeDropped, onLine_line, setSlot_others, released_line]

theorem errorCounted_line (x : Unsettled) (s : State) : (errorCounted x s).line = { s.line with
    state := .idle, reception := none, dominantFrom := none, risesAt := none, unsettled := none
    hold := (errorCounted x s).line.hold, ask := (errorCounted x s).line.ask
    state_ := (errorCounted x s).line.state_, report := (errorCounted x s).line.report } := by
  rw [errorCounted, onLine_line, setSlot_others, released_line]

@[simp] theorem noticeDropped_frame (x : Unsettled) (s : State) :
    (noticeDropped x s).time = (runTo s.idleAt s).time ∧ (noticeDropped x s).pins = s.pins ∧
    (noticeDropped x s).loader = s.loader ∧ (noticeDropped x s).pack = s.pack ∧ (noticeDropped x s).allow = s.allow ∧
    (noticeDropped x s).drive = s.drive ∧ (noticeDropped x s).dirt = s.dirt ∧ (noticeDropped x s).charge = s.charge ∧
    (noticeDropped x s).table = s.table ∧ (noticeDropped x s).report = (released x s).report ∧
    (noticeDropped x s).hold = s.hold ∧ (noticeDropped x s).attach = s.attach ∧ (noticeDropped x s).power = s.power ∧
    (noticeDropped x s).free = s.free ∧ (noticeDropped x s).pending = s.pending := by simp [noticeDropped]

@[simp] theorem errorCounted_frame (x : Unsettled) (s : State) :
    (errorCounted x s).time = (runTo s.idleAt s).time ∧ (errorCounted x s).pins = s.pins ∧
    (errorCounted x s).loader = s.loader ∧ (errorCounted x s).pack = s.pack ∧ (errorCounted x s).allow = s.allow ∧
    (errorCounted x s).drive = s.drive ∧ (errorCounted x s).dirt = s.dirt ∧ (errorCounted x s).charge = s.charge ∧
    (errorCounted x s).table = s.table ∧ (errorCounted x s).report = (released x s).report ∧
    (errorCounted x s).hold = s.hold ∧ (errorCounted x s).attach = s.attach ∧ (errorCounted x s).power = s.power ∧
    (errorCounted x s).free = s.free ∧ (errorCounted x s).pending = s.pending := by simp [errorCounted]

/-! ### The third error (R124, R126) -/

theorem conflictRaised_tells (s : State) :
    Told (s.onLine fun l => { l with conflict := some (s.now + 40000000) }) (conflictRaised s) := by
  have flagged := contentChange_tells (((s.onLine fun l => { l with conflict := some (s.now + 40000000) })).onReport
    fun r => { r with flags := r.flags.modify Flag.stationConflict.bit FlagState.raised })
  exact ⟨flagged.line, flagged.unsettled, flagged.errors, flagged.occupied⟩

/-- What evidence of a conflict and its telling leave of the slots: no notice is lost, and the counts stay. -/
theorem conflictEvidence_slots (s : State) :
    KeepsOccupied s.line (conflictEvidence s).line ∧ SameErrors s.line (conflictEvidence s).line := by
  have told := conflictRaised_tells s
  have handed := handReasons_lineHanded (conflictRaised s)
  have first : KeepsOccupied s.line (s.onLine fun l => { l with conflict := some (s.now + 40000000) }).line ∧
      SameErrors s.line (s.onLine fun l => { l with conflict := some (s.now + 40000000) }).line :=
    ⟨fun i h => by cases i <;> exact h, fun i => by cases i <;> rfl⟩
  exact ⟨(first.1.trans told.keepsOccupied).trans handed.occupied,
    (first.2.trans told.sameErrors).trans handed.sameErrors⟩

theorem conflictEvidence_flags (s : State) : (conflictEvidence s).report.flags =
    s.report.flags.modify Flag.stationConflict.bit FlagState.raised := by
  rw [conflictEvidence_eq, (handReasons_lineHanded _).report, conflictRaised, raise_flags]
  rfl

/-- HOLD and REPORT are not touched by evidence of a conflict; its unsettled error and attempt are none where none
were. -/
theorem conflictEvidence_line (s : State) : (conflictEvidence s).line.hold = s.line.hold ∧
    (conflictEvidence s).line.report = s.line.report ∧
    (conflictEvidence s).line.attempt = s.line.attempt ∧ (conflictEvidence s).line.ownBreak = s.line.ownBreak ∧
    (conflictEvidence s).line.unsettled.isSome = s.line.unsettled.isSome ∧
    (conflictEvidence s).line.state = s.line.state := by
  have calm : LineCalm (s.onLine fun l => { l with conflict := some (s.now + sec 5) }) (conflictEvidence s) :=
    conflictEvidence_calm
  rw [calm.unsettled, calm.line]
  exact ⟨rfl, rfl, rfl, rfl, rfl, rfl⟩

/-- Where stop-charge stays as it was a handing of reasons judges the switch alone, and puts no ask (R96, R170). -/
theorem handReasons_ask {s : State} (same : s.liveReasons.stopsCharge = s.hold.stopCharge) :
    (handReasons s).line.ask = s.line.ask := by
  have told : (handStopSuction s).hold.stopCharge = s.hold.stopCharge := by
    unfold handStopSuction
    split <;> simp [formHolds, same]
  have judged : ∀ u, (powerJudge u).line.ask = u.line.ask := by
    intro u
    unfold powerJudge enterAwakeOrDoze powerTimers
    (repeat' split) <;> simp
  have railed : ∀ u, (railJudge u).line.ask = u.line.ask := fun u => by simp
  rw [handReasons_eq, judged, railed, handStopCharge, if_pos told]
  simp

/-- A conflict is no reason that stops the charge (R170). -/
theorem conflictEvidence_ask {s : State} (stop : s.liveReasons.stopsCharge = s.hold.stopCharge) :
    (conflictEvidence s).line.ask = s.line.ask := by
  have live : (conflictRaised s).liveReasons.stopsCharge = (conflictRaised s).hold.stopCharge := by
    have stuck : (conflictRaised s).line.stuck = s.line.stuck := by simp [conflictRaised]
    simpa [State.liveReasons, Reasons.stopsCharge, State.activeCells, State.cfg, stuck] using stop
  rw [conflictEvidence_eq, handReasons_ask live, (conflictRaised_tells s).line]
  rfl

end Sys2Proof.Proofs
end

section
/-! ## The third bit error of a slot (R124, R126, R130, R131) -/

namespace Sys2Proof.Proofs
open Sys2Proof.Machine Sys2Proof.Safety

/-- What a third error leads to, before it is told. -/
def thirdError (x : Unsettled) (s : State) : State := conflictEvidence (noticeDropped x s)

section
variable {s : State} {x : Unsettled}

theorem thirdError_time (x : Unsettled) (s : State) : (thirdError x s).time = (runTo s.idleAt s).time := by
  simp [thirdError]

theorem thirdError_running (may : s.mayIdle = true) : (thirdError x s).running = true := by
  have calm : LineCalm ((noticeDropped x s).onLine fun l => { l with conflict := some ((noticeDropped x s).now + sec 5) })
    (thirdError x s) := conflictEvidence_calm
  rw [calm.running, running_of_power (s := s) (by simp)]
  exact ((mayIdle_iff s).mp may).1

theorem thirdError_ownBreak (x : Unsettled) (s : State) : (thirdError x s).line.ownBreak = s.line.ownBreak := by
  obtain ⟨-, -, -, own, -, -⟩ := conflictEvidence_line (noticeDropped x s)
  rw [thirdError, own, noticeDropped_line]

theorem publish_thirdError (x : Unsettled) (s : State) :
    publish s (thirdError x s) = beginAttempt (Machine.tell s (thirdError x s)) := by
  rw [publish_eq, tellEvent_of_ownBreak (thirdError_ownBreak x s)]

/-- The HOLD that was dropped: EMPTY, unless the conflict has changed the local reasons (R131). -/
theorem thirdError_hold (may : s.mayIdle = true) (hold : x.slot = .hold) (sent : x.replaced = false) :
    if (thirdError x s).hold.reasons = s.hold.reasons then (publish s (thirdError x s)).line.hold.slot = .empty
    else occupied (publish s (thirdError x s)).line.hold.slot = true := by
  obtain ⟨dropped, -⟩ := conflictEvidence_line (noticeDropped x s)
  have empty : (thirdError x s).line.hold.slot = .empty := by
    have slot := noticeDropped_slot x s .hold
    rw [if_pos hold.symm, sent] at slot
    rw [thirdError, dropped]
    exact congrArg TxSlot.slot slot
  obtain ⟨same, other⟩ := tell_hold (s0 := s) (thirdError_running (x := x) may)
  rw [publish_thirdError]
  split
  case isTrue unchanged =>
    have kept : ((Machine.tell s (thirdError x s)).line.slot .hold).slot = .empty :=
      (congrArg TxSlot.slot (same unchanged).1).trans empty
    have still := beginAttempt_slot_of_not_waiting (j := .hold) (by rw [kept]; rfl)
    exact (congrArg TxSlot.slot still).trans kept
  case isFalse changed =>
    have put : occupied ((Machine.tell s (thirdError x s)).line.slot .hold).slot = true :=
      (congrArg (fun v => occupied v.slot) (other changed).1).trans (by simp)
    exact (beginAttempt_occupied _ .hold).trans put

/-- The flag of a third error is a change of content: STATE is put at once, or by the holdoff mark (R130). -/
theorem thirdError_content (may : s.mayIdle = true) (state : x.slot = .state) (sent : x.replaced = false) :
    ContentSettled (thirdError x s) ∧
    if s.line.lastStatePut.all (fun e => decide (e + 80000 ≤ (thirdError x s).now)) = true
    then occupied (thirdError x s).line.state_.slot = true ∧
      (thirdError x s).line.lastStatePut = some (thirdError x s).now
    else (thirdError x s).line.state_.slot = .empty ∧ (thirdError x s).line.holdoff = true := by
  have dropped : (noticeDropped x s).line.state_.slot = .empty := by
    have slot := noticeDropped_slot x s .state
    rw [if_pos state.symm, sent] at slot
    exact congrArg TxSlot.slot slot
  have put : (noticeDropped x s).line.lastStatePut = s.line.lastStatePut := by rw [noticeDropped_line]
  have now : (thirdError x s).now = (noticeDropped x s).now := by simp [State.now, thirdError]
  have running : (noticeDropped x s).running = true := by
    rw [running_of_power (s := s) (by simp)]
    exact ((mayIdle_iff s).mp may).1
  have told := contentChange_of_empty (s := ((noticeDropped x s).onLine fun l =>
    { l with conflict := some ((noticeDropped x s).now + 40000000) }).onReport fun r =>
      { r with flags := r.flags.modify Flag.stationConflict.bit FlagState.raised }) running dropped
  obtain ⟨settled, effect⟩ : ContentSettled (conflictRaised (noticeDropped x s)) ∧
      if s.line.lastStatePut.all (fun e => decide (e + 80000 ≤ (noticeDropped x s).now)) = true
      then occupied (conflictRaised (noticeDropped x s)).line.state_.slot = true ∧
        (conflictRaised (noticeDropped x s)).line.lastStatePut = some (noticeDropped x s).now
      else (conflictRaised (noticeDropped x s)).line.state_.slot = .empty ∧
        (conflictRaised (noticeDropped x s)).line.holdoff = true := by
    rw [← put]
    exact told
  have line : (thirdError x s).line.state_ = (conflictRaised (noticeDropped x s)).line.state_ ∧
      (thirdError x s).line.holdoff = (conflictRaised (noticeDropped x s)).line.holdoff ∧
      (thirdError x s).line.lastStatePut = (conflictRaised (noticeDropped x s)).line.lastStatePut := by
    rw [thirdError, conflictEvidence_eq, (handReasons_lineHanded _).line]
    exact ⟨rfl, rfl, rfl⟩
  refine ⟨settled.of_same (by simp [thirdError]) line, ?_⟩
  obtain ⟨slot, holdoff, last⟩ := line
  rw [now, slot, holdoff, last]
  exact effect

theorem thirdError_state (may : s.mayIdle = true) (state : x.slot = .state) (sent : x.replaced = false) :
    if s.line.lastStatePut.all (fun e => decide (e + 80000 ≤ (thirdError x s).now)) = true
    then occupied (publish s (thirdError x s)).line.state_.slot = true ∧
      (publish s (thirdError x s)).line.lastStatePut = some (thirdError x s).now
    else (publish s (thirdError x s)).line.state_.slot = .empty ∧
      (publish s (thirdError x s)).line.holdoff = true := by
  obtain ⟨settled, told⟩ := thirdError_content may state sent
  obtain ⟨slot, holdoff, put, -⟩ := tell_state_of_settled (s0 := s) settled
  obtain ⟨holdoff', put', -⟩ := beginAttempt_cadences (Machine.tell s (thirdError x s))
  have occupied' := beginAttempt_occupied (Machine.tell s (thirdError x s)) .state
  rw [publish_thirdError, holdoff', put', holdoff, put]
  by_cases late : s.line.lastStatePut.all (fun e => decide (e + 80000 ≤ (thirdError x s).now)) = true
  · rw [if_pos late] at told ⊢
    obtain ⟨stands, last⟩ := told
    exact ⟨occupied'.trans ((congrArg (fun v => occupied v.slot) slot).trans stands), last⟩
  · rw [if_neg late] at told ⊢
    obtain ⟨empty, marked⟩ := told
    have kept : ((Machine.tell s (thirdError x s)).line.slot .state).slot = .empty :=
      (congrArg TxSlot.slot slot).trans empty
    have still := beginAttempt_slot_of_not_waiting (j := .state) (by rw [kept]; rfl)
    exact ⟨(congrArg TxSlot.slot still).trans kept, marked⟩

end

end Sys2Proof.Proofs
end

section
/-! ## Bit errors and their settlement (R123, R124, R126) -/

namespace Sys2Proof.Proofs
open Sys2Proof.Machine Sys2Proof.Safety

section
variable {s : State} {x : Unsettled}

theorem exec_lineIdle_counted (may : s.mayIdle = true) (h : s.line.unsettled = some x)
    (few : (s.line.slot x.slot).errors < 2) : exec .lineIdle s = .next (beginAttempt (errorCounted x s)) := by
  rw [exec_lineIdle may, becomeIdle_eq, settle_counted h few, publish_of_kept (by simp)]

theorem exec_lineIdle_dropped (may : s.mayIdle = true) (h : s.line.unsettled = some x)
    (many : 2 ≤ (s.line.slot x.slot).errors) (kept : s.dropsShip x = false) :
    exec .lineIdle s = .next (publish s (thirdError x s)) := by
  rw [exec_lineIdle may, becomeIdle_eq, settle_dropped h many, kept]
  rfl

theorem newest_of_slot {l m : Line} {i : SlotId} (h : (m.slot i).slot = (l.slot i).slot) :
    newest (m.slot i).slot = newest (l.slot i).slot := by rw [h]

theorem errorCounted_kept (x : Unsettled) (s : State) (i : SlotId) :
    ((errorCounted x s).line.slot i).slot = (s.line.slot i).slot := by
  rw [errorCounted_slot]
  split
  case isTrue same => rw [same]
  case isFalse => rfl

theorem publish_sameErrors (s0 s : State) : SameErrors s.line (publish s0 s).line :=
  (tellEvent_tells s0 s).sameErrors.trans (beginAttempt_sameErrors _)

theorem publish_keepsOccupied (s0 s : State) : KeepsOccupied s.line (publish s0 s).line :=
  (tellEvent_tells s0 s).keepsOccupied.trans fun i h => (beginAttempt_occupied _ i).trans h

/-- A slot of another class than HOLD and STATE that does not wait is the same after an event. -/
theorem publish_slot_of_not_waiting {s0 s : State} {i : SlotId} (other : i = .ask ∨ i = .report)
    (free : (s.line.slot i).slot.waiting = none) : (publish s0 s).line.slot i = s.line.slot i := by
  have told : (tellEvent s0 s).line.slot i = s.line.slot i := by
    rw [(tellEvent_tells s0 s).line]
    rcases other with rfl | rfl <;> rfl
  rw [publish_eq, beginAttempt_slot_of_not_waiting (by rw [told, free]), told]

/-- The slots of a third error, their counts and what is unsettled. -/
theorem thirdError_slots (x : Unsettled) (s : State) : (thirdError x s).line.report = (noticeDropped x s).line.report ∧
    (thirdError x s).line.attempt = s.line.attempt ∧ (thirdError x s).line.unsettled = none ∧
    KeepsOccupied (noticeDropped x s).line (thirdError x s).line ∧
    SameErrors (noticeDropped x s).line (thirdError x s).line := by
  obtain ⟨-, report, attempt, -, unsettled, -⟩ := conflictEvidence_line (noticeDropped x s)
  obtain ⟨occupied, errors⟩ := conflictEvidence_slots (noticeDropped x s)
  have line := noticeDropped_line x s
  refine ⟨report, ?_, ?_, occupied, errors⟩
  · rw [thirdError, attempt, line]
  · rw [line] at unsettled
    simpa [thirdError] using unsettled

/-- The ask of a charge is not touched by a third error of another slot, and is dropped by its own (R124). -/
theorem thirdError_ask (live : lawLive s) (outputs : lawOutputs s) :
    (thirdError x s).line.ask = (noticeDropped x s).line.ask := by
  obtain ⟨-, stop, -⟩ := outputs
  refine conflictEvidence_ask ?_
  have same : (noticeDropped x s).liveReasons = s.liveReasons := by
    have line : (noticeDropped x s).line.stuck = s.line.stuck ∧
        (noticeDropped x s).line.conflict = s.line.conflict := by
      rw [noticeDropped_line]
      exact ⟨rfl, rfl⟩
    simp [State.liveReasons, State.activeCells, State.cfg, line]
  have hold : (noticeDropped x s).hold = s.hold := by simp
  rw [same, live.1, hold, stop]

theorem publish_unsettled {s0 s : State} (h : s.line.unsettled = none) : (publish s0 s).line.unsettled = none := by
  have told := (tellEvent_tells s0 s).unsettled
  rw [publish_eq, beginAttempt_unsettled, ← Option.not_isSome_iff_eq_none, told, h]
  simp

end

/-- An answer that was in flight waits again (R123, R147). -/
theorem onAnswer_landed (i : SlotId) (s : State) : (onAnswer i .landed s).report = { s.report with shipAnswer :=
    if i = .report ∧ s.report.shipAnswer = .flying then .waiting else s.report.shipAnswer } := by
  rw [onAnswer_report]
  cases answer : s.report.shipAnswer <;> simp [ShipAnswer.landed]

/-- Settles O52: an attempt that is lost or in error ends on a busy line; at IDLE its error is counted, or the third
drops the notice as evidence of a conflict. -/
theorem bitErrorsSettleAtIdle : Obligations.BitErrorsSettleAtIdle := by
  unfold Obligations.BitErrorsSettleAtIdle
  intro s a x
  refine ⟨?lost, ?late, ?error, ?counted, ?third⟩
  case lost =>
    intro attempt early kept busy
    refine ⟨_, exec_headerLoss attempt early kept busy, ?_⟩
    have line := loseAttempt_line attempt
    have slot : ((loseAttempt s).onLine fun l => { l with reception := some [] }).line.slot a.slot =
        ⟨(s.line.slot a.slot).slot.lost, (s.line.slot a.slot).errors⟩ := by
      rw [onLine_line, line, ← onSlot_slot_same]
      exact slot_of_same ⟨rfl, rfl, rfl, rfl⟩ a.slot
    refine ⟨by rw [onLine_line, line], by simp, by simp [line, onSlot_state, busy], by rw [slot], by rw [slot]; simp,
      by rw [slot], ?_, by simp [OnlyIn]⟩
    rw [onLine_report, loseAttempt_flags attempt]
  case late =>
    intro attempt late
    refine ⟨s, ?_, rfl⟩
    have ended : s.inHeader = false := by
      rw [Bool.eq_false_iff, ne_eq, inHeader_iff attempt]
      omega
    simp [exec, execHeaderLoss, finishIf, ended]
  case error =>
    intro attempt kept busy
    have line := errored_line a s
    have slot : (errored a s).line.slot a.slot = ⟨(s.line.slot a.slot).slot.lost, (s.line.slot a.slot).errors⟩ := by
      rw [line, ← onSlot_slot_same]
      exact slot_of_same ⟨rfl, rfl, rfl, rfl⟩ a.slot
    have told : publish s (errored a s) = errored a s :=
      publish_busy_of_same (by rw [line]; simp [onSlot_state, busy]) (content_of_kept (by simp [errored])) (by simp [errored])
    refine ⟨errored a s, by rw [exec_bitError attempt, kept]; exact congrArg _ told, ?_⟩
    refine ⟨by rw [line], by rw [line], by rw [line]; simp [onSlot_state, busy], by rw [line], by rw [slot],
      by rw [slot],
      ?_, by simp [errored, OnlyIn]⟩
    rw [errored, onAnswer_landed]
    rfl
  case counted =>
    intro may unsettled few
    refine ⟨_, exec_lineIdle_counted may unsettled few, ?_⟩
    obtain ⟨-, -, free, -⟩ := (mayIdle_iff s).mp may
    have line := errorCounted_line x s
    have told := beginAttempt_told (errorCounted x s)
    obtain ⟨-, -, conflict, -, -, -, -, -, newestReport, newestAsk, -, -⟩ := told
    have flags := beginAttempt_flags (s := errorCounted x s) (by rw [line]; exact free)
    have mode : (errorCounted x s).cfg = s.cfg ∧ (errorCounted x s).report = (released x s).report := by
        simp [State.cfg]
    refine ⟨by simp, ?_, ?_, ?_, ?_, ?_, ?_, by simp, by simp [OnlyIn]⟩
    · rw [beginAttempt_sameErrors _ x.slot, errorCounted_slot, if_pos rfl]
    · rw [beginAttempt_unsettled, line]
    · rw [flags, mode.1, mode.2, released_flags]
    · intro i other
      have slot := newest_of_slot (errorCounted_kept x s i)
      rw [← slot]
      simp only [List.mem_cons, List.not_mem_nil, or_false] at other
      rcases other with rfl | rfl
      · exact newestAsk
      · exact newestReport
    · intro i _
      rw [beginAttempt_occupied, errorCounted_kept]
    · rw [conflict, line]
  case third =>
    intro may unsettled many kept
    refine ⟨_, exec_lineIdle_dropped may unsettled many kept, ?_⟩
    obtain ⟨-, -, free, -⟩ := (mayIdle_iff s).mp may
    obtain ⟨report, attempt, settled, occupied, errors⟩ := thirdError_slots x s
    have conflicted := conflictEvidence_conflicted (s := s) (w := noticeDropped x s) s (by simp)
    have now : (publish s (thirdError x s)).now = (noticeDropped x s).now := by simp [State.now, thirdError]
    have now' : (thirdError x s).now = (publish s (thirdError x s)).now := by simp [State.now]
    have flags := publish_attempt_flags (s0 := s) (s := thirdError x s) (attempt.trans free)
    have mode : (thirdError x s).cfg = s.cfg := by simp [State.cfg, thirdError]
    have told := publish_told s (thirdError x s)
    obtain ⟨-, -, -, -, -, -, -, -, newestReport, newestAsk, -, -⟩ := told
    have dropped := noticeDropped_slot x s
    have handed : HandedOn (conflictRaised (noticeDropped x s)) (publish s (thirdError x s)) :=
      (handReasons_handedOn _).trans (publish_handedOn s _)
    refine ⟨by simp [thirdError_time], ?_, publish_unsettled settled, ?_, conflicted.raised, conflicted.reason,
      conflicted.stops, ?_, ?_, ?_, ?_, ?_, ?_, ?_, conflicted.consequences.1, conflicted.consequences.2, ?_⟩
    · rw [publish_sameErrors _ _ x.slot, errors x.slot, dropped, if_pos rfl]
    · rw [now]; exact conflicted.conflict
    · rw [flags, mode, thirdError, conflictEvidence_flags]
      simp only [noticeDropped_frame, released_flags]
    · intro slot sent
      have empty : ((thirdError x s).line.slot .report).slot = .empty := by
        have gone := dropped .report
        rw [if_pos slot.symm, sent] at gone
        rw [show (thirdError x s).line.slot .report = (noticeDropped x s).line.slot .report from report, gone]
        rfl
      have still := publish_slot_of_not_waiting (s0 := s) (i := .report) (.inr rfl) (by rw [empty]; rfl)
      exact (congrArg TxSlot.slot still).trans empty
    · intro held
      have same : ((noticeDropped x s).line.slot .report).slot = (s.line.slot .report).slot := by
        rw [dropped]
        split
        case isTrue own =>
          rw [held.resolve_left (not_not.mpr own.symm), ← own]
          rfl
        case isFalse => rfl
      rw [newestReport, report]
      exact newest_of_slot same
    · intro live outputs
      have ask := thirdError_ask (x := x) live outputs
      split
      case isTrue own =>
        have empty : ((thirdError x s).line.slot .ask).slot = .empty := by
          have gone := dropped .ask
          rw [if_pos own.1.symm, own.2] at gone
          rw [show (thirdError x s).line.slot .ask = (noticeDropped x s).line.slot .ask from ask, gone]
          rfl
        have still := publish_slot_of_not_waiting (s0 := s) (i := .ask) (.inl rfl) (by rw [empty]; rfl)
        exact (congrArg TxSlot.slot still).trans empty
      case isFalse other =>
        have same : ((noticeDropped x s).line.slot .ask).slot = (s.line.slot .ask).slot := by
          rw [dropped]
          split
          case isTrue own =>
            have replaced : x.replaced = true := by
              by_contra sent
              exact other ⟨own.symm, by simpa using sent⟩
            rw [replaced, ← own]
            rfl
          case isFalse => rfl
        rw [newestAsk, ask]
        exact newest_of_slot same
    · intro replaced stands
      refine publish_keepsOccupied s _ x.slot (occupied x.slot ?_)
      rw [dropped, if_pos rfl, replaced]
      exact stands
    · intro hold sent
      have reasons : (publish s (thirdError x s)).hold = (thirdError x s).hold := by simp
      rw [reasons]
      exact thirdError_hold may hold sent
    · intro state sent
      rw [← now']
      exact thirdError_state may state sent
    · exact handed.onlyInTimed (by simp [thirdError]) (by simp)

end Sys2Proof.Proofs
end

section
/-! ## The entry to SLEEP and SHIP (R133, R185, R186) -/

namespace Sys2Proof.Proofs
open Sys2Proof.Machine Sys2Proof.Safety

/-! ### The undocking, block by block -/

theorem undock_dirt (s : State) : (undock false s).dirt = s.dirt ∧ (undock false s).allow = s.allow := by
  unfold undock
  dsimp only
  obtain ⟨-, dirt, allow, -⟩ := switchJudge_open (s := openBleeds ((if (false && s.charge.phase.charging) = true
    then putSlot .ask Ask.disabled.payload s else s).onCharge fun c => { c with
      phase := .undocked, causes := .none, window := none, ask := .disabled, awaiting := false, echoTimer := none,
      resendTimer := none, regTimer := none, termination := .zero, precharge := .zero, total := .zero,
      supplyLost := false })) rfl
  rw [dirt, allow]
  simp

theorem switchJudge_open_pack {s : State} (h : s.charge.phase.charging = false) : (switchJudge s).pack =
    { s.pack with scanSwitchClosed := if s.charge.switch = true then false else s.pack.scanSwitchClosed } := by
  have off : s.switchWanted = false := by simp [State.switchWanted, h]
  unfold switchJudge
  rw [off]
  by_cases closed : s.charge.switch = true
  · rw [if_neg (by simp [closed]), if_neg Bool.false_ne_true]
    simp [closed]
  · rw [if_pos (by simp [closed])]
    simp [closed]

theorem undock_pack (s : State) : (undock false s).pack = { s.pack with
    cells := s.pack.cells.map unbled
    scanSwitchClosed := if s.charge.switch = true then false else s.pack.scanSwitchClosed } := by
  unfold undock
  dsimp only
  rw [switchJudge_open_pack rfl]
  simp [openBleeds_pack]

/-! ### The drive (R36, R67) -/

theorem zeroTarget_dirt (s : State) :
    (zeroTarget s).dirt = if s.drive.state = .run then s.dirt.closeRun else s.dirt := driveTarget_zero_dirt _

/-- At an entry to SLEEP or SHIP the drive stops, from any state but FAULT, with its gates off. -/
theorem quietTarget_drive (s : State) :
    (quietTarget s).drive.state = (if s.drive.state = .fault then .fault else .stopped) ∧
    (s.drive.state ≠ .fault →
      (quietTarget s).drive.appDuty = 0 ∧ (quietTarget s).drive.bufDuty = 0 ∧ (quietTarget s).drive.gatesOn = false) ∧
    (s.drive.state = .run → DirtClosed s.dirt (quietTarget s).dirt) ∧
    (s.drive.state ≠ .run → (quietTarget s).dirt = s.dirt) ∧
    (quietTarget s).allow = { s.allow with target := 0, mode := .off } := by
  have fault : ((zeroTarget s).onAllow fun a => { a with mode := .off }).drive.state = .fault ↔
      s.drive.state = .fault := zeroTarget_fault s
  have dirt := zeroTarget_dirt s
  have idle : (zeroTarget s).drive.state ≠ .run := by
    have quiet := easedDrive_quiet s.drive s.now
    rw [← zeroTarget_drive] at quiet
    intro run
    simp [run, DriveState.quiet] at quiet
  unfold quietTarget
  dsimp only
  by_cases faulted : s.drive.state = .fault
  · rw [if_pos (fault.mpr faulted), if_pos faulted]
    refine ⟨fault.mpr faulted, fun other => absurd faulted other, fun run => ?_, fun _ => ?_, ?_⟩
    · simp [run] at faulted
    · simpa [faulted] using dirt
    · simp [zeroTarget_allow]
  · rw [if_neg (fun h => faulted (fault.mp h)), if_neg faulted]
    have closed : (quietDrive .stopped ((zeroTarget s).onAllow fun a => { a with mode := .off })).dirt =
        if s.drive.state = .run then s.dirt.closeRun else s.dirt := by
      rw [quietDrive_dirt]
      simp [idle, dirt]
    refine ⟨by simp, fun _ => by simp [quietDrive_drive, Drive.quieted], fun run => ?_, fun other => ?_, ?_⟩
    · rw [closed, if_pos run]; rfl
    · rw [closed, if_neg other]
    · simp [zeroTarget_allow]

theorem quietTarget_counters (s : State) : CountersKept s (quietTarget s) := by
  have zeroed : CountersKept s (zeroTarget s) := (zeroTarget_easing s).counters
  unfold quietTarget
  dsimp only
  split
  · simpa [CountersKept] using zeroed
  · simpa [CountersKept, quietDrive_drive, Drive.quieted] using zeroed

@[simp] theorem quietTarget_others (s : State) : (quietTarget s).pack = s.pack ∧ (quietTarget s).charge = s.charge ∧
    (quietTarget s).hold = s.hold := by
  unfold quietTarget
  dsimp only
  split <;> simp

/-! ### The entry -/

/-- The unit as it undocks at the entry, before the line is quieted. -/
def stilled (s : State) : State := undock false (quietTarget (s.onPack Pack.quieted))

@[simp] theorem loseUnsettled_others (s : State) :
    (loseUnsettled s).pack = s.pack ∧ (loseUnsettled s).allow = s.allow ∧ (loseUnsettled s).drive = s.drive ∧
    (loseUnsettled s).dirt = s.dirt ∧ (loseUnsettled s).charge = s.charge ∧ (loseUnsettled s).hold = s.hold := by
  unfold loseUnsettled
  split <;> simp

theorem quiet_blocks (st : PowerState) (s : State) : (quiet st s).drive = (stilled s).drive ∧
    (quiet st s).dirt = (stilled s).dirt ∧ (quiet st s).allow = (stilled s).allow ∧
    (quiet st s).charge = (stilled s).charge ∧ (quiet st s).pack = (stilled s).pack ∧
    (quiet st s).hold.history = (stilled s).hold.history ∧
    OwnReasonsKept (stilled s).hold.reasons (quiet st s).hold.reasons := by
  simp [quiet, stilled, formHolds, State.liveReasons, OwnReasonsKept]

theorem stilled_pack (s : State) : PackQuieted s.pack (stilled s).pack := by
  rw [PackQuieted, stilled, undock_pack]
  simp [Pack.quieted, Cell.quieted, Thermistor.quieted, unbled, Function.comp_def]

theorem quiet_line (st : PowerState) (s : State) : (quiet st s).line = quietLine st s := by simp [quiet, formHolds]

theorem quiet_lineQuieted {st : PowerState} (h : st = .sleep ∨ st = .ship) (s : State) :
    LineQuieted st s (quiet st s) := by
  have time : (quiet st s).time = s.time := by simp
  rw [LineQuieted, quiet_line, time, State.now, time]
  refine ⟨rfl, fun none => ?_, fun sleep d dominant => ?_⟩
  · rcases h with rfl | rfl
    · simp [quietLine, State.heldPulse, none.resolve_left (by simp)]
    · simp [quietLine]
  · subst sleep
    have dominant : s.line.dominantFrom = some d := dominant
    simp only [quietLine, State.heldPulse, if_true, dominant]
    cases s.line.risesAt <;> rfl

/-- Every block after the entry to SLEEP or SHIP (R185, R186). -/
theorem quiet_asleep {st : PowerState} (h : st = .sleep ∨ st = .ship) (s : State) : Asleep st s (quiet st s) := by
  obtain ⟨drive, dirt, allow, charge, pack, history, own⟩ := quiet_blocks st s
  obtain ⟨state, stopped, closed, left, target⟩ := quietTarget_drive (s.onPack Pack.quieted)
  obtain ⟨dirt', allow'⟩ := undock_dirt (quietTarget (s.onPack Pack.quieted))
  have drive' := undock_drive false (quietTarget (s.onPack Pack.quieted))
  have held : (stilled s).hold = s.hold := by simp [stilled]
  have counters : CountersKept s (quietTarget (s.onPack Pack.quieted)) := by
    simpa [CountersKept] using quietTarget_counters (s.onPack Pack.quieted)
  rw [stilled, drive'] at drive
  rw [stilled, dirt'] at dirt
  rw [stilled, allow'] at allow
  rw [stilled, undock_charge] at charge
  have power : (quiet st s).power.state = st ∧ (quiet st s).power.dozeTimer = none := by simp [quiet, formHolds]
  have attach : (quiet st s).attach = s.attach.quieted := by simp [quiet, formHolds]
  refine ⟨power.1, power.2, quiet_lineQuieted h s, by simp [quiet], by simp [quiet], ?_, ?_, ?_, ?_, ?_, ?_, ?_, ?_,
    ?_, ?_,
    pack ▸ stilled_pack s, by rw [history, held], held ▸ own, ?_, ?_, ?_⟩
  · rw [drive]; exact state
  · rw [drive]; exact stopped
  · rw [allow]; exact target
  · rw [dirt]; exact closed
  · rw [dirt]; exact left
  · rw [charge]
  · rw [charge]
  · rw [charge]
  · rw [charge]
  · rw [attach]; rfl
  · simpa only [CountersKept, drive, charge] using counters
  · rw [State.tapsConnected, power.1]
  · simp [OnlyIn]

/-- An entry to SHIP is the same from a state that differs in its time, line, table, report or power alone. -/
theorem Asleep.of_kept {s v t : State} (h : Asleep .ship v t)
    (same : v.pack = s.pack ∧ v.allow = s.allow ∧ v.drive = s.drive ∧ v.dirt = s.dirt ∧ v.charge = s.charge ∧
      v.hold = s.hold ∧ v.attach = s.attach ∧ v.pins = s.pins ∧ v.loader = s.loader ∧ v.free = s.free ∧
      v.pending = s.pending) : Asleep .ship s t := by
  obtain ⟨pack, allow, drive, dirt, charge, hold, attach, pins, loader, free, pending⟩ := same
  obtain ⟨state, doze, ⟨line, pulse, -⟩, rest⟩ := h
  refine ⟨state, doze, ⟨line, fun _ => pulse (.inl rfl), fun sleep => by simp at sleep⟩, ?_⟩
  simpa only [pack, allow, drive, dirt, charge, hold, attach, pins, loader, free, pending, CountersKept, OnlyIn,
    List.mem_cons, reduceCtorEq, List.not_mem_nil, true_or, or_true, false_or, or_false, true_and] using rest

end Sys2Proof.Proofs
end

section
/-! ## The SHIP order (R147, R186, R187) -/

namespace Sys2Proof.Proofs
open Sys2Proof.Machine Sys2Proof.Safety

/-! ### The head, the dock and the power state judged from their pins -/

theorem removal_calm (s : State) : LineCalm s (removal s) := by
  have raised : LineCalm s (raise .headRemoved (s.onAttach fun a =>
      { a with head := .removed, rail := false, railTimer := none, excess := false, overdrawTimer := none })) :=
    LineCalm.trans (.of_kept (by simp)) (raise_calm _ _)
  unfold removal
  exact (raised.trans (setTable_calm _ _)).trans (onReasons_calm _ _)

/-- The contacts and the dock input are judged, and then the rail and the power state. -/
def pinsJudged (s : State) : State := powerJudge (railJudge (judgeContacts (judgeDockPin s)))

theorem pinsJudged_calm (s : State) : LineCalm s (pinsJudged s) := by
  have dock : ∀ u, LineCalm u (judgeDockPin u) := by
    intro u
    unfold judgeDockPin
    split
    · exact .of_kept (by simp [dockSettles])
    · exact .refl u
  have head : ∀ u, LineCalm u (judgeContacts u) := by
    intro u
    unfold judgeContacts
    (repeat' split)
    · exact .of_kept (by simp [headSettles])
    · exact .refl u
    · exact .refl u
    · exact removal_calm u
    · exact .refl u
  exact (((dock s).trans (head _)).trans (.of_kept (by simp))).trans (powerJudge_calm _)

/-- No record leaves an empty table. -/
theorem pinsJudged_table {s : State} (h : s.table = .reset) : (pinsJudged s).table = .reset := by
  have dock : (judgeDockPin s).table = .reset := by
    unfold judgeDockPin
    split <;> simp [dockSettles, h]
  have head : ∀ u : State, u.table = .reset → (judgeContacts u).table = .reset := by
    intro u empty
    unfold judgeContacts
    (repeat' split) <;> simp [headSettles, empty, removal, setTable, Table.removeWhere, Table.reset]
  simpa [pinsJudged] using head _ dock

/-- The start scan, the own break and the timers of DOZE begin (R187). -/
def wakeOrdered (s : State) : State := startDozeTimers (orderBreak (orderStartScan
  ((s.onPower fun p => { p with state := .doze }).onPack fun p => { p with direct := true })))

theorem wake_eq (s : State) : wake s = pinsJudged (wakeOrdered s) := rfl

theorem wakeOrdered_frame (s : State) : (wakeOrdered s).table = s.table ∧ (wakeOrdered s).report = s.report ∧
    (wakeOrdered s).running = true := by
  simp [wakeOrdered, startDozeTimers, orderBreak, orderStartScan, State.running, PowerState.running]

theorem wake_ship (s : State) : (wake s).report.shipPending = s.report.shipPending := by
  rw [wake_eq, (pinsJudged_calm _).ship.2, (wakeOrdered_frame s).2.1]

theorem wake_running (s : State) : (wake s).running = true := by
  rw [wake_eq, (pinsJudged_calm _).running, (wakeOrdered_frame s).2.2]

theorem wake_table {s : State} (h : s.table = .reset) : (wake s).table = .reset := by
  rw [wake_eq]
  exact pinsJudged_table (by rw [(wakeOrdered_frame s).1, h])

/-! ### An event that ends asleep -/

/-- Outside AWAKE and DOZE, without an own break, an event tells the line nothing (R133). -/
theorem publish_of_asleep {s0 s : State} (asleep : s.running = false) (own : s.line.ownBreak = none) :
    publish s0 s = s := by
  have told : Machine.tell s0 s = s := by
    unfold Machine.tell tellHold tellState contentChange putHold
    simp [asleep]
  simp [publish, State.rewoken, own, told, beginAttempt, State.mayBegin, asleep]

/-! ### The order given -/

/-- The order is over, given or lapsed. -/
def orderOver (s : State) : State := s.onReport fun r => { r with shipPending := none, shipAnswer := .none }

theorem giveShipOrder_pending {s : State} (h : s.report.shipPending.isSome = true) :
    giveShipOrder s = if s.attach.dock = .docked then orderOver s else enterShip (orderOver s) := by
  have pending : s.report.shipPending.isNone = false := by simpa using h
  simp only [giveShipOrder, pending, orderOver]
  rfl

theorem giveShipOrder_none {s : State} (h : s.report.shipPending = none) : giveShipOrder s = s := by
  simp [giveShipOrder, h]

/-- What stands where the order of `s` is given: it is pending, and the dock and its input are those of `s`. -/
structure ShipOrdered (s u : State) : Prop where
  pending : u.report.shipPending.isSome = true
  dock : u.attach.dock = s.attach.dock
  pins : u.pins = s.pins

section
variable {s u : State} (s0 : State) (h : ShipOrdered s u)
include h

theorem ShipOrdered.lapses (docked : s.attach.dock = .docked) : giveShipOrder u = orderOver u := by
  rw [giveShipOrder_pending h.pending, if_pos (h.dock.trans docked)]

/-- Below the wake level the unit enters SHIP, and stays there (R147, R186). -/
theorem ShipOrdered.ships (undocked : s.attach.dock ≠ .docked) (low : s.pins.dockMv ≤ 5000) :
    publish s0 (giveShipOrder u) = quiet .ship (orderOver u) := by
  have level : (quiet .ship (orderOver u)).dockHigh = false := by
    have pins : (orderOver u).pins = s.pins := by simp [orderOver, h.pins]
    simp [State.dockHigh, pins, low]
  have asleep : enterShip (orderOver u) = quiet .ship (orderOver u) := by
    simp [enterShip, wakeByLevel, level]
  rw [giveShipOrder_pending h.pending, if_neg (by rwa [h.dock]), asleep]
  refine publish_of_asleep ?_ ?_
  · simp [State.running, quiet, formHolds, PowerState.running]
  · rw [quiet_line]
    rfl

/-- Above it the unit wakes at once (R187, log 20). -/
theorem ShipOrdered.rewakes (undocked : s.attach.dock ≠ .docked) (high : 5000 < s.pins.dockMv) :
    (publish s0 (giveShipOrder u)).running = true ∧ (publish s0 (giveShipOrder u)).table = .reset ∧
    (publish s0 (giveShipOrder u)).report.shipPending = none := by
  have level : (quiet .ship (orderOver u)).dockHigh = true := by
    have pins : (orderOver u).pins = s.pins := by simp [orderOver, h.pins]
    simp [State.dockHigh, pins, high]
  have reset : (quiet .ship (orderOver u)).table = .reset ∧ (quiet .ship (orderOver u)).report = .reset := by
      simp [quiet]
  have woken : enterShip (orderOver u) = Machine.tell (quiet .ship (orderOver u)) (wake (quiet .ship (orderOver u))) := by
    simp [enterShip, wakeByLevel, level]
  rw [giveShipOrder_pending h.pending, if_neg (by rwa [h.dock]), woken]
  generalize quiet .ship (orderOver u) = q at reset
  have told := publish_told s0 (Machine.tell q (wake q))
  obtain ⟨-, -, -, -, -, -, -, -, -, -, pending, -⟩ := told
  refine ⟨?_, by simpa using wake_table reset.1, ?_⟩
  · rw [running_of_power (s := wake q) (by simp), wake_running]
  · rw [pending]
    simp [wake_ship, reset.2, Report.reset]

theorem ShipOrdered.settled : (publish s0 (giveShipOrder u)).report.shipPending = none := by
  by_cases docked : s.attach.dock = .docked
  · have told := publish_told s0 (orderOver u)
    obtain ⟨-, -, -, -, -, -, -, -, -, -, pending, -⟩ := told
    rw [h.lapses docked, pending]
    rfl
  · by_cases low : s.pins.dockMv ≤ 5000
    · rw [h.ships s0 docked low]
      simp [quiet, Report.reset]
    · exact (h.rewakes s0 docked (by omega)).2.2

/-- The order is over, and the unit in SHIP unless it is docked or held awake by its dock input (R147). -/
theorem ShipOrdered.given : (publish s0 (giveShipOrder u)).report.shipPending = none ∧
    (s.attach.dock ≠ .docked → s.pins.dockMv ≤ 5000 → (publish s0 (giveShipOrder u)).power.state = .ship ∧
      (publish s0 (giveShipOrder u)).line = .reset ∧ (publish s0 (giveShipOrder u)).table = .reset) := by
  refine ⟨h.settled s0, fun undocked low => ?_⟩
  rw [h.ships s0 undocked low, quiet_line]
  exact ⟨by simp [quiet, formHolds], rfl, by simp [quiet]⟩

/-- The same, of a state that differs from `s` in its time, line and report alone. -/
theorem ShipOrdered.ordered (same : u.pack = s.pack ∧ u.allow = s.allow ∧ u.drive = s.drive ∧ u.dirt = s.dirt ∧
    u.charge = s.charge ∧ u.table = s.table ∧ u.hold = s.hold ∧ u.attach = s.attach ∧ u.power = s.power ∧ u.loader = s.loader ∧
    u.free = s.free ∧ u.pending = s.pending) :
    (publish s0 (giveShipOrder u)).report.shipPending = none ∧
    (s.attach.dock ≠ .docked → s.pins.dockMv ≤ 5000 → Asleep .ship s (publish s0 (giveShipOrder u))) ∧
    (s.attach.dock ≠ .docked → 5000 < s.pins.dockMv →
      (publish s0 (giveShipOrder u)).running = true ∧ (publish s0 (giveShipOrder u)).table = .reset) ∧
    (s.attach.dock = .docked → (publish s0 (giveShipOrder u)).power.state = s.power.state ∧
      (publish s0 (giveShipOrder u)).table = s.table) := by
  obtain ⟨pack, allow, drive, dirt, charge, table, hold, attach, power, loader, free, pending⟩ := same
  refine ⟨h.settled s0, fun undocked low => ?_, fun undocked high => ?_, fun docked => ?_⟩
  · rw [h.ships s0 undocked low]
    exact Asleep.of_kept (quiet_asleep (.inr rfl) (orderOver u))
      (by simp [orderOver, pack, allow, drive, dirt, charge, hold, attach, h.pins, loader, free, pending])
  · obtain ⟨running, reset, -⟩ := h.rewakes s0 undocked high
    exact ⟨running, reset⟩
  · rw [h.lapses docked]
    simp [orderOver, power, table]

end

end Sys2Proof.Proofs
end

section
/-! ## A completed attempt, and the ways the SHIP order is given (R125, R142, R147) -/

namespace Sys2Proof.Proofs
open Sys2Proof.Machine Sys2Proof.Safety

/-! ### The completion (R125) -/

/-- The attempt is over and its flags are settled; its SHIP order is not yet given. -/
def attemptCompleted (a : Attempt) (s : State) : State := outcome a.slot .completed (s.onLine fun l =>
  { l.setSlot a.slot ⟨(l.slot a.slot).slot.completed, 0⟩ with
    attempt := none, dominantFrom := none, risesAt := none, recessiveFrom := some s.now })

theorem completeAttempt_eq (a : Attempt) (s : State) :
    completeAttempt a s = thenShip (s.sendsShip a) (attemptCompleted a s) := rfl

theorem attemptCompleted_line (a : Attempt) (s : State) : (attemptCompleted a s).line =
    { s.line.setSlot a.slot ⟨(s.line.slot a.slot).slot.completed, 0⟩ with
      attempt := none, dominantFrom := none, risesAt := none, recessiveFrom := some s.now } := by
  simp [attemptCompleted]

theorem attemptCompleted_slot (a : Attempt) (s : State) :
    (attemptCompleted a s).line.slot a.slot = ⟨(s.line.slot a.slot).slot.completed, 0⟩ := by
  rw [attemptCompleted_line]
  exact (slot_of_same ⟨rfl, rfl, rfl, rfl⟩ a.slot).trans (setSlot_slot_same s.line a.slot _)

theorem attemptCompleted_flags (a : Attempt) (s : State) : (attemptCompleted a s).report.flags =
    if a.slot = .state ∧ s.cfg.reportMode = .carryOnce then s.report.flags.map .completed else s.report.flags := by
  rw [attemptCompleted, outcome_flags]
  rfl

theorem setSlot_state (l : Line) (i : SlotId) (v : TxSlot) : (l.setSlot i v).state = l.state := by cases i <;> rfl

theorem exec_attemptCompletion {s : State} {a : Attempt} (h : s.line.attempt = some a) : exec .attemptCompletion s =
    .next (publish s (thenShip (s.sendsShip a) (attemptCompleted a (runTo a.endsAt s)))) := by
  have sends : (runTo a.endsAt s).sendsShip a = s.sendsShip a := by simp [State.sendsShip]
  simp only [exec, execAttemptCompletion, h, finish, asEvent, completeAttempt_eq, sends]

theorem thenShip_none {s : State} {given : Bool} (h : given = false ∨ s.report.shipPending = none) :
    thenShip given s = s := by
  unfold thenShip
  split
  case isTrue sends => exact giveShipOrder_none (h.resolve_left (by simp [sends]))
  case isFalse => rfl

/-! ### The answer that waits (R147) -/

/-- The order is over, and the unit in SHIP unless it is docked or held awake by its dock input. -/
def OrderGiven (s t : State) : Prop := t.report.shipPending = none ∧
  (s.attach.dock ≠ .docked → s.pins.dockMv ≤ 5000 → t.power.state = .ship ∧ t.line = .reset ∧ t.table = .reset)

/-- The SHIP answer of `s` waits in its slot, which no attempt can take. -/
structure AnswerWaits (s t : State) : Prop where
  order : ShipOrdered s t
  answer : t.report.shipAnswer = .waiting
  held : t.mayBegin = true → t.line.report.slot.waiting = none

theorem LineCalm.mayBegin {s t : State} (h : LineCalm s t) : t.mayBegin = s.mayBegin :=
  mayBegin_of_kept h.running (by rw [h.line]) (by rw [h.line]) h.unsettled

theorem report_of_nextSlot_none {l : Line} (h : l.nextSlot = none) : l.report.slot.waiting = none := by
  unfold Line.nextSlot at h
  (repeat' split at h) <;> simp_all

/-- An attempt of another class does not take the answer up. -/
theorem startAttempt_ship {i : SlotId} (other : i ≠ .report) (w : List Byte) (s : State) :
    (startAttempt i w s).report.shipAnswer = s.report.shipAnswer := by
  have carried : (carryFlags s).report.shipAnswer = s.report.shipAnswer := by
    unfold carryFlags onFlags
    split <;> simp
  unfold startAttempt
  dsimp only
  rw [onLine_report, onAnswer_report, if_neg other]
  split
  · exact carried
  · rfl

theorem publish_shipAnswer {s0 s : State} (held : s.mayBegin = true → s.line.report.slot.waiting = none) :
    (publish s0 s).report.shipAnswer = s.report.shipAnswer := by
  have told : (tellEvent s0 s).line.report = s.line.report := by rw [(tellEvent_tells s0 s).line]
  have report : (tellEvent s0 s).report = s.report := by simp
  rw [publish_eq]
  rcases beginAttempt_cases (tellEvent s0 s) with same | ⟨i, w, may, next, begun⟩
  · rw [same, report]
  · rw [begun, startAttempt_ship ?_, report]
    rintro rfl
    have waits : (tellEvent s0 s).line.report.slot = .pending w := nextSlot_pending next
    rw [tellEvent_mayBegin] at may
    rw [told] at waits
    simp [waits, Slot.waiting] at held
    simp [held] at may

section
variable {s t u : State}

theorem AnswerWaits.calm (h : AnswerWaits s t) (calm : LineCalm t u) (dock : u.attach.dock = t.attach.dock)
    (pins : u.pins = t.pins) : AnswerWaits s u where
  order := ⟨by rw [calm.ship.2, h.order.pending], dock.trans h.order.dock, pins.trans h.order.pins⟩
  answer := calm.ship.1.trans h.answer
  held := by
    rw [calm.mayBegin, calm.line]
    exact h.held

theorem AnswerWaits.publish (h : AnswerWaits s t) (s0 : State) : AnswerWaits s (publish s0 t) where
  order := by
    have told := publish_told s0 t
    obtain ⟨-, -, -, -, -, -, -, -, -, -, pending, -⟩ := told
    exact ⟨by rw [pending, h.order.pending], by simpa using h.order.dock, by simpa using h.order.pins⟩
  answer := (publish_shipAnswer h.held).trans h.answer
  held may := report_of_nextSlot_none (publish_lawIdle s0 t may)

theorem AnswerWaits.setTable (h : AnswerWaits s t) (tb : Table) : AnswerWaits s (setTable tb t) := by
  obtain ⟨-, dock, -⟩ := (setTable_aside tb t).attach
  exact h.calm (setTable_calm tb t) dock (setTable_aside tb t).frame.2.1

theorem AnswerWaits.evict (h : AnswerWaits s t) (n : Notice) : AnswerWaits s (evict n t) := by
  unfold Machine.evict
  split
  · exact (h.setTable _).publish _
  · exact h

/-- A newer answer in the slot gives the order (R147). -/
theorem AnswerWaits.replaced (h : AnswerWaits s t) (s0 : State) (p : List Byte) :
    OrderGiven s (Machine.publish s0 (putReport p t)) := by
  have order : ShipOrdered s (putSlot .report p t) := ⟨by simpa using h.order.pending, by simpa using h.order.dock,
    by simpa using h.order.pins⟩
  have given : putReport p t = giveShipOrder (putSlot .report p t) := by simp [putReport, thenShip, h.answer]
  rw [given]
  exact order.given s0

/-- Where its answer waits and the line obeys R122, the handling of a QUERY that is answered gives the order. -/
theorem orderGiven_of_handledBy {n : Notice} {rest : List Notice} {tb : Table} {v k : Nat} {kind : Notice → Bool}
    {act : Notice → Table → State → State} (handles : Handles s n rest tb k) (idle : lawIdle s)
    (answer : s.report.shipAnswer = .waiting) (pending : s.report.shipPending = some v) (fits : kind n = true)
    (acts : ∀ t, AnswerWaits s t → OrderGiven s (act n tb t)) : Answers (handledBy kind act s) (OrderGiven s) := by
  have waits : AnswerWaits s (dropOldest s) := by
    refine ⟨⟨by simp [pending], by simp, by simp⟩, by simp [answer], fun may => ?_⟩
    have same : (dropOldest s).mayBegin = s.mayBegin := rfl
    exact report_of_nextSlot_none (idle (same ▸ may))
  exact ⟨_, handledBy_of handles fits, acts _ (waits.evict n)⟩

theorem actAnswer_orderGiven (form : Notice → State → List Byte) (n : Notice) (tb : Table) (h : AnswerWaits s t) :
    OrderGiven s (asEvent (actAnswer form n tb) t) := (h.setTable tb).replaced _ _

theorem actSample_orderGiven (n : Notice) (tb : Table) (h : AnswerWaits s t) :
    OrderGiven s (asEvent (actSample n tb) t) :=
  ((h.setTable tb).calm (.of_kept (by simp)) (by simp) (by simp)).replaced _ _

/-- An action that leaves the line calm and the dock alone: accepted or refused, its answer replaces the one waiting. -/
theorem actAction_orderGiven {act : State → State} (calm : ∀ u, LineCalm u (act u))
    (kept : ∀ u, (act u).attach.dock = u.attach.dock ∧ (act u).pins = u.pins) (n : Notice) (tb : Table)
    (h : AnswerWaits s t) : OrderGiven s (actAction act n tb t) := by
  have entered : AnswerWaits s (asEvent (Machine.setTable tb) t) := (h.setTable tb).publish t
  unfold actAction
  generalize asEvent (Machine.setTable tb) t = w at entered ⊢
  unfold asEvent answerAction
  split
  · exact (entered.calm (calm w) (kept w).1 (kept w).2).replaced w _
  · exact entered.replaced w _

theorem onReasons_dock (f : Reasons → Reasons) (u : State) :
    (onReasons f u).attach.dock = u.attach.dock ∧ (onReasons f u).pins = u.pins := by
  obtain ⟨-, dock, -⟩ := (onReasons_aside f u).attach
  exact ⟨dock, (onReasons_aside f u).frame.2.1⟩

/-- A pending SHIP keeps its own acceptance, and a second one replaces its answer (R147, log 19). -/
theorem actShip_orderGiven (n : Notice) (tb : Table) (h : AnswerWaits s t) :
    OrderGiven s (asEvent (actShip n tb) t) := by
  have entered := h.setTable tb
  have accepted : ∀ u, u.report.shipPending.isSome = true → acceptShip n u = putReport (bareAnswer n .ok) u := by
    intro u pending
    simp [acceptShip, pending]
  unfold asEvent actShip
  dsimp only
  split
  · rw [accepted _ entered.order.pending]
    exact entered.replaced _ _
  · exact entered.replaced _ _

end

/-! ### Breaks and the stuck line before the order (R127, R129) -/

/-- The attempt and the unsettled error of `s` are lost; the rest of a break is yet to come. -/
def lineFreed (s : State) : State := loseUnsettled (loseAttempt s)

theorem loseAttempt_ship (s : State) : (loseAttempt s).report.shipPending = s.report.shipPending := by
  unfold loseAttempt
  split
  · rw [onAnswer_report, (outcome_ship _ _ _).2]
    rfl
  · rfl

theorem lineFreed_ship (s : State) : (lineFreed s).report.shipPending = s.report.shipPending := by
  rw [lineFreed, ← loseAttempt_ship s]
  unfold loseUnsettled
  split
  · exact (outcome_ship _ _ _).2
  · rfl

@[simp] theorem lineFreed_frame (s : State) :
    (lineFreed s).time = s.time ∧ (lineFreed s).pins = s.pins ∧ (lineFreed s).loader = s.loader ∧
    (lineFreed s).pack = s.pack ∧ (lineFreed s).allow = s.allow ∧ (lineFreed s).drive = s.drive ∧
    (lineFreed s).dirt = s.dirt ∧ (lineFreed s).charge = s.charge ∧ (lineFreed s).table = s.table ∧
    (lineFreed s).hold = s.hold ∧ (lineFreed s).attach = s.attach ∧ (lineFreed s).power = s.power ∧
    (lineFreed s).free = s.free ∧ (lineFreed s).pending = s.pending := by
  simp [lineFreed]

/-- The line after a break: BUSY, with no reception and nothing queued (R127). -/
def breakOver (s : State) : State := (lineFreed s).onLine fun l =>
  { l with
    state := .busy, reception := none, rx := [], dominantFrom := none, risesAt := none
    recessiveFrom := some s.releasedAt }

/-- A break taken, before a lost SHIP answer gives its order. -/
def breakEnded (s : State) : State :=
    breakSettled (holdAtBreak (putState (raise .lineReset (setTable .reset (breakOver s)))))

theorem takeBreak_eq (s : State) : takeBreak s = thenShip s.lossDropsShip (breakEnded s) := rfl

/-- The stuck line, before its reason is handed on (R129). -/
def lineStuckAt (s : State) : State := (lineFreed s).onLine fun l =>
  { l with state := .stuck, stuck := true, reception := none, recessiveFrom := l.risesAt, breakOwed := false }

theorem stickLine_eq (s : State) : stickLine s = thenShip s.lossDropsShip (handReasons (lineStuckAt s)) := rfl

theorem lossDropsShip_runTo (d : Nat) (s : State) : (runTo d s).lossDropsShip = s.lossDropsShip := by
  simp [State.lossDropsShip, State.sendsShip]

theorem holdAtBreak_kept (s : State) : (holdAtBreak s).report = s.report ∧ (holdAtBreak s).attach = s.attach ∧
    (holdAtBreak s).pins = s.pins := by
  unfold holdAtBreak
  split <;> simp

theorem breakEnded_ordered {s w : State} (same : w.attach = s.attach ∧ w.pins = s.pins)
    (pending : w.report.shipPending.isSome = true) : ShipOrdered s (breakEnded w) := by
  have table : ShipOrdered s (setTable .reset (breakOver w)) := by
    have aside := setTable_aside .reset (breakOver w)
    obtain ⟨-, dock, -⟩ := aside.attach
    refine ⟨?_, by rw [dock]; simp [breakOver, same], by rw [aside.frame.2.1]; simp [breakOver, same]⟩
    rw [setTable_report, breakOver, onLine_report, lineFreed_ship]
    exact pending
  have raised := raise_calm .lineReset (setTable .reset (breakOver w))
  obtain ⟨report, attach, pins⟩ := holdAtBreak_kept (putState (raise .lineReset (setTable .reset (breakOver w))))
  have rest : (breakEnded w).report.shipPending = (setTable .reset (breakOver w)).report.shipPending ∧
      (breakEnded w).attach = (setTable .reset (breakOver w)).attach ∧
      (breakEnded w).pins = (setTable .reset (breakOver w)).pins := by
    unfold breakEnded breakSettled
    rw [onLine_report, report, onLine_attach, attach, onLine_pins, pins, ← raised.ship.2]
    simp
  obtain ⟨rest, attach', pins'⟩ := rest
  exact ⟨by rw [rest, table.pending], by rw [attach', table.dock], by rw [pins', table.pins]⟩

theorem lineStuckAt_ordered {s w : State} (same : w.attach = s.attach ∧ w.pins = s.pins)
    (pending : w.report.shipPending.isSome = true) : ShipOrdered s (handReasons (lineStuckAt w)) := by
  have aside := handReasons_aside (lineStuckAt w)
  obtain ⟨-, dock, -⟩ := aside.attach
  refine ⟨?_, by rw [dock]; simp [lineStuckAt, same], by rw [aside.frame.2.1]; simp [lineStuckAt, same]⟩
  rw [(handReasons_calm _).ship.2, lineStuckAt, onLine_report, lineFreed_ship]
  exact pending

/-- Settles O53: a completed attempt leaves the line busy and tells nothing more; the SHIP order is given from a state
in which it is pending, with the dock and its input unchanged. -/
theorem attemptCompletionAndShipOrder : Obligations.AttemptCompletionAndShipOrder := by
  unfold Obligations.AttemptCompletionAndShipOrder
  intro s a v c n rest tb x
  refine ⟨?completed, ?sent, ?timeout, ?replaced, ?lost, ?dropped⟩
  case completed =>
    intro attempt kept busy
    have pending : (attemptCompleted a (runTo a.endsAt s)).report.shipPending = s.report.shipPending := by
      rw [attemptCompleted, (outcome_ship _ _ _).2]
      simp
    have line := attemptCompleted_line a (runTo a.endsAt s)
    have told : publish s (attemptCompleted a (runTo a.endsAt s)) = attemptCompleted a (runTo a.endsAt s) :=
      publish_busy_of_same (by rw [line]; simp [setSlot_state, busy]) (content_of_kept (by simp [attemptCompleted]))
        (by simp [attemptCompleted])
    refine ⟨attemptCompleted a (runTo a.endsAt s), ?_, ?_, by rw [line], by rw [attemptCompleted_slot]; simp, ?_,
      ?_, ?_⟩
    · rw [exec_attemptCompletion attempt, thenShip_none (by rwa [pending]), told]
    · simp [attemptCompleted, Attempt.endsAt, us]
    · rw [line]
      simp [State.now, attemptCompleted]
    · have mode : (runTo a.endsAt s).cfg = s.cfg ∧ (runTo a.endsAt s).report = s.report := by simp [State.cfg]
      rw [attemptCompleted_flags, mode.1, mode.2]
    · simp [attemptCompleted, OnlyIn]
  case sent =>
    intro attempt sends pending running
    refine ⟨_, exec_attemptCompletion attempt, ?_⟩
    rw [sends]
    have order : ShipOrdered s (attemptCompleted a (runTo a.endsAt s)) := by
      refine ⟨?_, by simp [attemptCompleted], by simp [attemptCompleted]⟩
      rw [attemptCompleted, (outcome_ship _ _ _).2]
      simp [pending]
    exact order.ordered s (by simp [attemptCompleted])
  case timeout =>
    intro pending running
    have answered : exec .shipOrderTimeout s = .next (publish s (giveShipOrder (runTo (v + 800000) s))) := by
      simp [exec, execShipOrderTimeout, onTimer, finish, asEvent, pending, ms]
    have order : ShipOrdered s (runTo (v + 800000) s) := ⟨by simp [pending], by simp, by simp⟩
    exact ⟨_, answered, by simp, order.ordered s (by simp)⟩
  case replaced =>
    intro handles idle item answer pending
    have item8 := handles.2.2.1
    simp only [List.mem_cons, List.not_mem_nil, or_false, Prod.mk.injEq] at item
    have gives {kind act} (fits : kind n = true) (acts : ∀ t, AnswerWaits s t → OrderGiven s (act n tb t)) :
        Answers (handledBy kind act s) (OrderGiven s) :=
      orderGiven_of_handledBy handles idle answer pending fits acts
    have asks {k : Nat} (h : n.item = k) : Notice.asks k n = true := by simp [Notice.asks, item8, h]
    have reads {k : Nat} {form : Notice → State → List Byte} (h : n.item = k) :
        Answers (handled (Notice.asks k) (actAnswer form) s) (OrderGiven s) :=
      gives (asks h) fun _ => actAnswer_orderGiven form n tb
    rcases item with (⟨rfl, k⟩ | ⟨rfl, k⟩ | ⟨rfl, k⟩ | ⟨rfl, k⟩ | ⟨rfl, k⟩ | ⟨rfl, k⟩ | ⟨rfl, k⟩ | ⟨rfl, k⟩ | ⟨rfl, k⟩ |
      ⟨rfl, k⟩ | ⟨rfl, k⟩ | ⟨rfl, k⟩ | ⟨rfl, k⟩ | ⟨rfl, k⟩) | ⟨rfl, unknown⟩
    · exact reads k
    · exact reads k
    · exact reads k
    · exact reads k
    · exact reads k
    · exact reads k
    · exact reads k
    · exact gives (asks k) fun _ => actSample_orderGiven n tb
    · exact reads k
    · exact reads k
    · exact gives (asks k) fun _ => actAction_orderGiven (onReasons_calm _) (onReasons_dock _) n tb
    · exact gives (asks k) fun _ => actAction_orderGiven (onReasons_calm _) (onReasons_dock _) n tb
    · exact gives (asks k) fun _ => actAction_orderGiven (onHold_calm _) (fun u => by simp) n tb
    · exact gives (asks k) fun _ => actShip_orderGiven n tb
    · have other : namedItem n.item = false := by
        simp [namedItem]
        omega
      exact gives (by simp [item8, other]) fun _ => actAnswer_orderGiven _ n tb
  case lost =>
    intro drops pending running how
    obtain ⟨b, attempt⟩ : ∃ b, s.line.attempt = some b := by
      cases attempt : s.line.attempt with
      | none => simp [State.lossDropsShip, attempt] at drops
      | some b => exact ⟨b, rfl⟩
    rcases how with rfl | ⟨rfl, header⟩ | ⟨rfl, takes⟩ | ⟨rfl, inBreak, ends⟩
    · refine ⟨_, exec_bitError attempt, ?_⟩
      rw [drops]
      have order : ShipOrdered s (errored b s) := by
        refine ⟨?_, by simp [errored], by simp [errored]⟩
        rw [errored, onAnswer_landed]
        simp [pending]
      exact order.given s
    · have answered : exec .headerLoss s = .next (publish s (giveShipOrder ((loseAttempt s).onLine fun l =>
          { l with reception := some [] }))) := by
        simp only [exec, execHeaderLoss, finishIf, header, if_true, finish, asEvent, loseHeader, drops, thenShip]
      have order : ShipOrdered s ((loseAttempt s).onLine fun l => { l with reception := some [] }) :=
        ⟨by rw [onLine_report, loseAttempt_ship, pending]; rfl, by simp, by simp⟩
      exact ⟨_, answered, order.given s⟩
    · have answered : exec .breakTaken s =
          .next (publish s (giveShipOrder (breakEnded (runTo s.releasedAt s)))) := by
        simp only [exec, execBreakTaken, finishIf, takes, if_true, finish, asEvent, takeBreak_eq, lossDropsShip_runTo,
          drops, thenShip]
      have order := breakEnded_ordered (s := s) (w := runTo s.releasedAt s) (by simp) (by simp [pending])
      exact ⟨_, answered, order.given s⟩
    · obtain ⟨d, ends⟩ := Option.isSome_iff_exists.mp ends
      have answered : exec .lineStuck s = .next (publish s (giveShipOrder (handReasons (lineStuckAt (runTo d s))))) := by
        have limit : ms 2 = 16000 := rfl
        simp only [exec, execLineStuck, inBreak, if_true, onTimer, limit, ends, finish, asEvent, stickLine_eq,
          lossDropsShip_runTo, drops, thenShip]
      have order := lineStuckAt_ordered (s := s) (w := runTo d s) (by simp) (by simp [pending])
      exact ⟨_, answered, order.given s⟩
  case dropped =>
    intro may unsettled many drops pending
    have answered : exec .lineIdle s = .next (publish s (giveShipOrder (conflictEvidence (noticeDropped x s)))) := by
      rw [exec_lineIdle may, becomeIdle_eq, settle_dropped unsettled many, drops]
      rfl
    have calm : LineCalm ((noticeDropped x s).onLine fun l => { l with conflict := some ((noticeDropped x s).now + sec 5) })
      (conflictEvidence (noticeDropped x s)) := conflictEvidence_calm
    have aside := handReasons_aside (conflictRaised (noticeDropped x s))
    obtain ⟨-, dock, -⟩ := aside.attach
    have order : ShipOrdered s (conflictEvidence (noticeDropped x s)) := by
      refine ⟨?_, by rw [conflictEvidence_eq, dock]; simp, by rw [conflictEvidence_eq, aside.frame.2.1]; simp⟩
      rw [calm.ship.2, onLine_report, (noticeDropped_frame x s).2.2.2.2.2.2.2.2.2.1, released, (outcome_ship _ _ _).2]
      simp [pending]
    exact ⟨_, answered, order.given s⟩

end Sys2Proof.Proofs
end

section
/-! ## Breaks, the stuck line, and the end of STARTING (R117, R127 to R129, R183) -/

namespace Sys2Proof.Proofs
open Sys2Proof.Machine Sys2Proof.Safety

/-! ### What every hand-on and every putting leaves of the line -/

/-- The slots, the cadences and the marks of a putting may have moved; the rest of the line is the same. -/
structure LineStays (s t : State) : Prop where
  line : t.line = { s.line with
    hold := t.line.hold, ask := t.line.ask, state_ := t.line.state_, unsettled := t.line.unsettled
    stateCadence := t.line.stateCadence, holdoff := t.line.holdoff, lastStatePut := t.line.lastStatePut
    holdCadence := t.line.holdCadence }
  unsettled : t.line.unsettled.isSome = s.line.unsettled.isSome

theorem LineStays.trans {s t u : State} (a : LineStays s t) (b : LineStays t u) : LineStays s u where
  line := by rw [b.line, a.line]
  unsettled := b.unsettled.trans a.unsettled

theorem LineStays.refl (s : State) : LineStays s s := ⟨rfl, rfl⟩

theorem LineCalm.stays {s t : State} (h : LineCalm s t) : LineStays s t := ⟨by rw [h.line], h.unsettled⟩

theorem Told.stays {s t : State} (h : Told s t) : LineStays s t := ⟨by rw [h.line], h.unsettled⟩

/-- On a line that is not IDLE an event puts, and no attempt begins. -/
theorem publish_stays {s0 s : State} (h : s.line.state ≠ .idle) : LineStays s (publish s0 s) := by
  rw [publish_of_not (mayBegin_of_state h)]
  exact (tellEvent_tells s0 s).stays

theorem unsettled_of_isSome {s t : State} (h : t.line.unsettled.isSome = s.line.unsettled.isSome)
    (settled : s.line.unsettled = none) : t.line.unsettled = none := by
  rw [← Option.not_isSome_iff_eq_none, h, settled]
  simp

/-! ### The timers of the dominant interval -/

section
variable {l : Line} {d e : Nat}

theorem dominantEnds_of_held {k : Nat} (dominant : l.dominantFrom = some d)
    (held : l.risesAt.all (fun x => decide (d + k ≤ x)) = true) : l.dominantEnds k = some (d + k) := by
  have stays : l.heldTo (d + k) = true := by
    unfold Line.heldTo
    cases rises : l.risesAt with
    | none => rfl
    | some r => simpa [rises] using held
  simp [Line.dominantEnds, dominant, stays]

theorem dominantEnds_of_released {k : Nat} (dominant : l.dominantFrom = some d) (rises : l.risesAt = some e)
    (early : e < d + k) : l.dominantEnds k = none := by
  have ended : l.heldTo (d + k) = false := by
    simp only [Line.heldTo, rises, decide_eq_false_iff_not]
    omega
  simp [Line.dominantEnds, dominant, ended]

end

theorem runTo_self (s : State) : runTo s.now s = s := by simp [runTo]

theorem releasedAt_runTo (s : State) : (runTo s.releasedAt s).releasedAt = s.releasedAt := by
  cases rises : s.line.risesAt with
  | none =>
    have now : s.releasedAt = s.now := by simp [State.releasedAt, rises]
    rw [now, runTo_self, now]
  | some r => simp [State.releasedAt, rises]

/-! ### The attempt that a break or a stuck line ends -/

theorem loseUnsettled_line (s : State) : (loseUnsettled s).line = { s.line with unsettled := none } := by
  unfold loseUnsettled
  split
  case h_1 => simp
  case h_2 settled => rw [← settled]

theorem lineFreed_line (s : State) : (lineFreed s).line = { s.line with
    attempt := none, unsettled := none, hold := (lineFreed s).line.hold, ask := (lineFreed s).line.ask
    state_ := (lineFreed s).line.state_, report := (lineFreed s).line.report } := by
  rw [lineFreed, loseUnsettled_line]
  cases attempt : s.line.attempt with
  | none => simp [loseAttempt, attempt]
  | some a =>
    rw [loseAttempt_line attempt, Line.onSlot, setSlot_others]

/-! ### A break taken (R127, R132) -/

/-- The line is reset and STATE put; HOLD is still to be put at the break of the 6224's own. -/
def breakTold (s : State) : State := putState (raise .lineReset (setTable .reset (breakOver s)))

theorem breakEnded_eq (s : State) : breakEnded s = breakSettled (holdAtBreak (breakTold s)) := rfl

theorem breakTold_stays (s : State) : LineStays (breakOver s) (breakTold s) :=
  ((setTable_calm _ _).stays.trans (raise_calm _ _).stays).trans (putState_tells _).stays

theorem breakTold_aside (s : State) : Aside (breakOver s) (breakTold s) :=
  ((setTable_aside _ _).trans (raise_aside _ _)).trans
    (.of_kept (s := raise .lineReset (setTable .reset (breakOver s))) (by simp [breakTold, putState_line]))

theorem holdAtBreak_tells (s : State) : Told s (holdAtBreak s) := by
  unfold holdAtBreak
  split
  · exact putHold_tells s
  · exact .refl s

theorem breakTold_running {s : State} (running : s.running = true) : (breakTold s).running = true := by
  refine (breakTold_aside s).running ?_
  rw [running_of_power (s := s) (by simp [breakOver]), running]

theorem breakTold_raised (s : State) : Raised .lineReset (breakTold s) :=
  FlagsStand.of_report (s := raise .lineReset (setTable .reset (breakOver s))) (by simp [breakTold]) _ (raise_raised _ _)

theorem breakTold_hold (s : State) :
    (breakTold s).hold = (setTable .reset (breakOver s)).hold := by simp [breakTold]

theorem breakTold_table (s : State) : (breakTold s).table = .reset := by simp [breakTold, setTable]

theorem breakTold_heard (s : State) : (breakTold s).hold.heard = 0 := by
  rw [breakTold_hold, setTable_heard]
  simp [Table.heardUnion, Table.reset]

theorem breakTold_state (s : State) : occupied (breakTold s).line.state_.slot = true := by
  rw [breakTold, putState_line]
  exact occupied_put _ _

/-- HOLD is put where the own break was owed and a reason stands, and its cadence restarts (R132, R175). -/
theorem holdAtBreak_hold {s : State} (running : s.running = true) (owed : s.line.breakOwed = true)
    (reason : s.hold.reasons.any = true) : occupied (holdAtBreak s).line.hold.slot = true ∧
    (holdAtBreak s).line.holdCadence = some (s.now + 1600000) := by
  have put : holdAtBreak s = putHold s := by simp [holdAtBreak, owed, reason]
  rw [put, putHold_line running]
  simp [reason, ms]

/-- While a reason stands, the telling of an event leaves HOLD standing and its cadence running to the same end. -/
theorem publish_hold {s0 s : State} (running : s.running = true) (own : s.line.ownBreak = s0.line.ownBreak)
    (reason : s.hold.reasons.any = true) (cadence : s.line.holdCadence = some (s.now + 1600000)) :
    (publish s0 s).line.holdCadence = some (s.now + 1600000) := by
  obtain ⟨-, -, -, kept⟩ := beginAttempt_cadences (Machine.tell s0 s)
  obtain ⟨same, other⟩ := tell_hold (s0 := s0) running
  rw [publish_eq, tellEvent_of_ownBreak own, kept]
  by_cases unchanged : s.hold.reasons = s0.hold.reasons
  · rw [(same unchanged).2, cadence]
  · rw [(other unchanged).2, if_pos reason]

/-! ### The stuck line (R129, R170) -/

/-- A reason that stops the charge opens the switch as it is handed on (R99, R170). -/
theorem handReasons_opens {s : State} (stops : s.liveReasons.stopsCharge = true) :
    (handReasons s).charge.switch = false := by
  have stop : (handStopSuction s).hold.stopCharge = true := by
    unfold handStopSuction
    split <;> simp [formHolds, stops]
  have judged : ∀ u, u.hold.stopCharge = true → (switchJudge u).charge.switch = false := by
    intro u stop
    rw [switchJudge_switch]
    simp [State.switchWanted, stop]
  have opened : (handStopCharge s.hold.stopCharge (handStopSuction s)).charge.switch = false := by
    unfold handStopCharge
    split
    · exact judged _ stop
    · exact judged _ (by simpa using stop)
  simpa [handReasons_eq] using opened

/-- A reason that begins to stop suction zeroes the target (R35, R170). -/
theorem handReasons_zeroes {s : State} (stops : (formHolds s).hold.stopSuction = true) (free : s.hold.stopSuction = false) :
    (handReasons s).allow.target = 0 := by
  have zeroed : (handStopSuction s).allow.target = 0 := by
    simp [handStopSuction, stops, free, zeroTarget_allow]
  have rest : Easing (handStopSuction s) (handReasons s) :=
    ((handStopCharge_easing _ _).trans (railJudge_easing _)).trans (powerJudge_easing _)
  rcases rest.target with same | zero
  · exact same.trans zeroed
  · exact zero

theorem lineStuckAt_line (s : State) : (lineStuckAt s).line = { s.line with
    state := .stuck, stuck := true, reception := none, recessiveFrom := s.line.risesAt, breakOwed := false
    attempt := none, unsettled := none, hold := (lineFreed s).line.hold, ask := (lineFreed s).line.ask
    state_ := (lineFreed s).line.state_, report := (lineFreed s).line.report } := by
  rw [lineStuckAt, onLine_line, lineFreed_line]

theorem lineStuckAt_reason (s : State) : (lineStuckAt s).liveReasons.lineStuck = true := by
  simp [State.liveReasons, lineStuckAt_line]

/-! ### The end of STARTING (R183) -/

/-- The timers that begin with DOZE at the end of STARTING. -/
def started (s : State) : State :=
  let s := startDozeTimers (s.onPower fun p => { p with state := .doze })
  s.onPack fun p => { p with scanTimer := some (s.now + ms 100) }

theorem endStarting_eq (s : State) : endStarting s = pinsJudged (started s) := rfl

/-- The scan timer and the STATE cadence run on through the judging of the power state. -/
theorem powerJudge_timers (s : State) :
    (s.pack.scanTimer.isSome = true → (powerJudge s).pack.scanTimer.isSome = true) ∧
    (s.line.stateCadence.isSome = true → (powerJudge s).line.stateCadence.isSome = true) := by
  unfold powerJudge enterAwakeOrDoze powerTimers broughtForward
  (repeat' split) <;> simp

/-- A STATE cadence that runs is restarted at most by an event. -/
theorem publish_cadence {s0 s : State} (h : s.line.stateCadence.isSome = true) :
    (publish s0 s).line.stateCadence.isSome = true := by
  have changed : ∀ u, u.line.stateCadence.isSome = true → (contentChange u).line.stateCadence.isSome = true := by
    intro u runs
    unfold contentChange
    (repeat' split)
    · exact runs
    · simp [putState_line]
    · simpa using runs
  have told : (tellEvent s0 s).line.stateCadence.isSome = true := by
    unfold tellEvent Machine.tell
    split
    · exact h
    · rw [(tellHold_state s0 (tellState s0 s)).2.2.2]
      unfold tellState
      split
      · exact h
      · exact changed s h
  rw [publish_eq, (beginAttempt_cadences _).2.2.1]
  exact told

/-- With no head attached, the contacts and the dock input set their detectors alone. -/
theorem pinsJudged_detached {s : State} (h : s.attach.head = .removed) : ∃ f : Attach → Attach,
    pinsJudged s = powerJudge (railJudge (s.onAttach f)) ∧
    (5000 < s.pins.dockMv → (f s.attach).dock = .settling) := by
  have dock : ∃ f : Attach → Attach, judgeDockPin s = s.onAttach f ∧ (f s.attach).head = .removed ∧
      (5000 < s.pins.dockMv → (f s.attach).dock = .settling) := by
    unfold judgeDockPin
    split
    case isTrue => exact ⟨_, rfl, h, fun _ => rfl⟩
    case isFalse low => exact ⟨id, rfl, h, fun high => absurd (decide_eq_true high) low⟩
  obtain ⟨f, docked, head, settling⟩ := dock
  have contacts : ∃ g : Attach → Attach, judgeContacts (s.onAttach f) = (s.onAttach f).onAttach g ∧
      ∀ a, (g a).dock = a.dock := by
    unfold judgeContacts
    rw [show (s.onAttach f).attach.head = .removed from head]
    dsimp only
    split
    · exact ⟨_, rfl, fun _ => rfl⟩
    · exact ⟨id, rfl, fun _ => rfl⟩
  obtain ⟨g, settled, kept⟩ := contacts
  refine ⟨g ∘ f, ?_, fun high => (kept _).trans (settling high)⟩
  rw [pinsJudged, docked, settled]
  rfl

end Sys2Proof.Proofs
end

section
/-! ## The commands of breaks and of the stuck line (R117, R126 to R129, R183) -/

namespace Sys2Proof.Proofs
open Sys2Proof.Machine Sys2Proof.Safety

section
variable {s : State} {d e : Nat}

/-! ### The commands, where their occasion stands -/

theorem exec_breakInProgress (busy : s.line.state = .busy) (dominant : s.line.dominantFrom = some d)
    (held : s.line.risesAt.all (fun x => decide (d + 1040 ≤ x)) = true) :
    exec .breakInProgress s = .next ((runTo (d + 1040) s).onLine fun l => { l with state := .inBreak }) := by
  have ends : s.line.dominantEnds (us 130) = some (d + 1040) := dominantEnds_of_held dominant held
  simp [exec, execBreakInProgress, onTimerQuietly, busy, ends]

/-- The line as it is released by the 6224 (R128). -/
def ownReleased (s : State) : State := s.onLine fun l =>
  { l with ownBreak := none, state := if l.state = .busy then .inBreak else l.state }

theorem exec_ownBreakRelease (own : s.line.ownBreak = some d) : exec .ownBreakRelease s = .next (publish s
    (if s.power.state = .starting then endStarting (ownReleased (runTo d s)) else ownReleased (runTo d s))) := by
  have power : (ownReleased (runTo d s)).power.state = s.power.state := by simp [ownReleased]
  simp only [exec, execOwnBreakRelease, own, onTimer, finish, asEvent]
  rw [← power]
  rfl

theorem exec_breakTaken (takes : s.mayTakeBreak = true) (kept : s.lossDropsShip = false) :
    exec .breakTaken s = .next (publish s (breakEnded (runTo s.releasedAt s))) := by
  simp only [exec, execBreakTaken, finishIf, takes, if_true, finish, asEvent, takeBreak_eq, lossDropsShip_runTo, kept]
  rfl

theorem exec_lineStuck (inBreak : s.line.state = .inBreak) (dominant : s.line.dominantFrom = some d)
    (held : s.line.risesAt.all (fun x => decide (d + 16000 ≤ x)) = true) (kept : s.lossDropsShip = false) :
    exec .lineStuck s = .next (publish s (handReasons (lineStuckAt (runTo (d + 16000) s)))) := by
  have ends : s.line.dominantEnds (ms 2) = some (d + 16000) := dominantEnds_of_held dominant held
  simp only [exec, execLineStuck, inBreak, if_true, onTimer, ends, finish, asEvent, stickLine_eq,
    lossDropsShip_runTo, kept]
  rfl

/-- The line as it is after a recovery, before its reason is taken back (R129). -/
def lineRecovered (s : State) : State := s.onLine fun l =>
  { l with state := .idle, stuck := false, dominantFrom := none, risesAt := none, recessiveFrom := some s.now }

/-- The tick at which a stuck line has recovered. -/
def recoveredAt (s : State) : Nat := match s.line.recessiveFrom with
  | some x => x + 8000
  | none => s.now

theorem exec_stuckRecovery (stuck : s.line.state = .stuck) (free : s.line.ownBreak = none) :
    exec .stuckRecovery s = .next (publish s (handReasons (lineRecovered (runTo (recoveredAt s) s)))) := by
  have may : s.mayRecover = true := by simp [State.mayRecover, stuck, free]
  have at_ : s.recoversAt.getD s.now = recoveredAt s := by
    unfold State.recoversAt recoveredAt
    cases s.line.recessiveFrom <;> rfl
  simp only [exec, execStuckRecovery, finishIf, may, if_true, finish, asEvent, at_]
  rfl

/-- The conflict is over, before its reason is taken back (R126). -/
def conflictEnded (s : State) : State := s.onLine fun l => { l with conflict := none }

theorem exec_conflictTimerExpiry (conflict : s.line.conflict = some d) :
    exec .conflictTimerExpiry s = .next (publish s (handReasons (conflictEnded (runTo d s)))) := by
  simp only [exec, execConflictTimerExpiry, conflict, onTimer, finish, asEvent]
  rfl

theorem mayTakeBreak_iff (s : State) : s.mayTakeBreak = true ↔
    s.running = true ∧ s.line.state = .inBreak ∧ s.line.ownBreak = none ∧ s.breakLong = true := by
  simp [State.mayTakeBreak, and_assoc]

/-! ### What they do -/

/-- What is left of the line and of the unit by the hand-on of a changed reason and its telling (R156, R170). -/
theorem reasons_told {w : State} (s0 : State) (same : w.pack = s.pack ∧ w.allow = s.allow ∧ w.drive = s.drive ∧
    w.dirt = s.dirt ∧ w.charge = s.charge ∧ w.hold = s.hold ∧ w.attach = s.attach ∧ w.power = s.power)
    (frame : w.table = s.table ∧ w.pins = s.pins ∧ w.loader = s.loader ∧ w.free = s.free ∧ w.pending = s.pending) :
    Consequences s (publish s0 (handReasons w)) ∧
    OwnReasonsKept s.hold.reasons (publish s0 (handReasons w)).hold.reasons ∧
    OnlyIn (.time :: consequent) s (publish s0 (handReasons w)) := by
  obtain ⟨table, pins, loader, free, pending⟩ := frame
  have handed : HandedOn w (publish s0 (handReasons w)) := (handReasons_handedOn w).trans (publish_handedOn s0 _)
  obtain ⟨consequences, own⟩ := handed.consequences same
  exact ⟨consequences, own, handed.onlyInTimed (by simp [table]) ⟨pins, loader, free, pending⟩⟩

/-- A line that a hand-on finds busy or stuck stays so. -/
theorem reasons_stays {w : State} (s0 : State) (busy : w.line.state ≠ .idle) :
    LineStays w (publish s0 (handReasons w)) := by
  have handed := (handReasons_calm w).stays
  have held : (handReasons w).line.state ≠ .idle := by
    rw [handed.line]
    exact busy
  exact handed.trans (publish_stays held)

theorem breakEnded_line (s : State) :
    LineStays ((breakOver s).onLine fun l => { l with breakOwed := false }) (breakEnded s) := by
  have told : LineStays (breakOver s) (holdAtBreak (breakTold s)) :=
    (breakTold_stays s).trans (holdAtBreak_tells _).stays
  have line : (breakEnded s).line = { (holdAtBreak (breakTold s)).line with breakOwed := false } := rfl
  refine ⟨?_, ?_⟩
  · rw [line, told.line]
    rfl
  · rw [line]
    exact told.unsettled

@[simp] theorem breakOver_frame (s : State) :
    (breakOver s).time = s.time ∧ (breakOver s).pins = s.pins ∧ (breakOver s).loader = s.loader ∧
    (breakOver s).hold = s.hold ∧ (breakOver s).power = s.power ∧ (breakOver s).free = s.free ∧
    (breakOver s).pending = s.pending := by simp [breakOver]

/-- The line after a break taken: BUSY, with no attempt, no reception and nothing queued (R127). -/
theorem breakEnded_marks (s : State) : (breakEnded s).line.rx = [] ∧ (breakEnded s).line.attempt = none ∧
    (breakEnded s).line.unsettled = none ∧ (breakEnded s).line.reception = none ∧ (breakEnded s).line.state = .busy ∧
    (breakEnded s).line.recessiveFrom = some s.releasedAt ∧ (breakEnded s).line.breakOwed = false ∧
    (breakEnded s).line.ownBreak = s.line.ownBreak := by
  have ended := breakEnded_line s
  have settled : (breakEnded s).line.unsettled = none := by
    refine unsettled_of_isSome ended.unsettled ?_
    rw [onLine_line, breakOver, onLine_line, lineFreed_line]
  rw [settled, ended.line, onLine_line, breakOver, onLine_line, lineFreed_line]
  exact ⟨rfl, rfl, rfl, rfl, rfl, rfl, rfl, rfl⟩

/-- What a break taken leaves of the line, and of its slots (R127, R130, R132). -/
theorem breakEnded_slots {s : State} (running : s.running = true) :
    occupied (breakEnded s).line.state_.slot = true ∧
    ((breakEnded s).hold.reasons.any = true → s.line.breakOwed = true →
      occupied (breakEnded s).line.hold.slot = true ∧
      (breakEnded s).line.holdCadence = some ((breakEnded s).now + 1600000)) := by
  have owed : (breakTold s).line.breakOwed = s.line.breakOwed := by
    have marks := (breakTold_aside s).marks.2.2
    rw [marks, breakOver, onLine_line, lineFreed_line]
  have kept : (holdAtBreak (breakTold s)).hold = (breakTold s).hold ∧
      (holdAtBreak (breakTold s)).time = (breakTold s).time := by
    unfold holdAtBreak
    split <;> simp
  refine ⟨(holdAtBreak_tells _).keepsOccupied .state (breakTold_state s), fun reason own => ?_⟩
  have put := holdAtBreak_hold (breakTold_running running) (owed.trans own) (by
    rw [← kept.1]
    exact reason)
  refine ⟨put.1, ?_⟩
  have now : (breakEnded s).now = (breakTold s).now := by
    rw [State.now, State.now, ← kept.2]
    rfl
  rw [now]
  exact put.2

theorem breakEnded_frame (s : State) : (breakEnded s).hold = (breakTold s).hold ∧
    (breakEnded s).time = (breakTold s).time ∧ (breakEnded s).table = (breakTold s).table ∧
    (breakEnded s).report = (breakTold s).report ∧ (breakEnded s).pins = (breakTold s).pins ∧
    (breakEnded s).loader = (breakTold s).loader ∧ (breakEnded s).free = (breakTold s).free ∧
    (breakEnded s).pending = (breakTold s).pending ∧ (breakEnded s).power = (breakTold s).power := by
  rw [breakEnded_eq, breakSettled]
  unfold holdAtBreak
  split <;> simp

end

end Sys2Proof.Proofs
end

section
/-! ## The line reset, stuck and recovered, and the unit started (R126 to R129, R183) -/

namespace Sys2Proof.Proofs
open Sys2Proof.Machine Sys2Proof.Safety

/-- What a break taken, at the tick `e`, does to a unit that was in `s` (R127, R132). -/
abbrev BreakTakenAt (e : Nat) (s t : State) : Prop :=
  t.line.rx = [] ∧ t.table = .reset ∧ t.hold.heard = 0 ∧ t.line.attempt = none ∧ t.line.unsettled = none ∧
  t.line.reception = none ∧ t.line.state = .busy ∧ t.line.recessiveFrom = some e ∧ t.time = (runTo e s).time ∧
  Raised .lineReset t ∧ occupied t.line.state_.slot = true ∧
  (t.hold.reasons.any = true → s.line.breakOwed = true →
    occupied t.line.hold.slot = true ∧ t.line.holdCadence = some (t.now + 1600000)) ∧ t.line.breakOwed = false ∧
  t.hold.history = s.hold.history ∧ OnlyIn (.time :: .table :: consequent) s t

/-- `w` is `s` at the tick of the release. -/
theorem breakTaken_effects {s w : State} {e : Nat} (running : w.running = true) (line : w.line = s.line)
    (release : w.releasedAt = e) (moment : w.time = (runTo e s).time)
    (frame : w.pins = s.pins ∧ w.loader = s.loader ∧ w.hold = s.hold ∧ w.free = s.free ∧ w.pending = s.pending) :
    BreakTakenAt e s (publish s (breakEnded w)) := by
  obtain ⟨rx, attempt, settled, reception, busy, recessive, settledBreak, own⟩ := breakEnded_marks w
  have told := (publish_stays (s0 := s) (s := breakEnded w) (by simp [busy])).line
  obtain ⟨hold, time, table, report, pins, loader, freeKept, pending, power⟩ := breakEnded_frame w
  obtain ⟨timeAside, pinsAside, loaderAside, freeAside, pendingAside⟩ := (breakTold_aside w).frame
  obtain ⟨state, holdPut⟩ := breakEnded_slots running
  have now : (publish s (breakEnded w)).now = (breakEnded w).now := by simp [State.now]
  have reasons : (publish s (breakEnded w)).hold = (breakEnded w).hold := by simp
  refine ⟨by rw [told, rx], by simp [table, breakTold_table], by simp [hold, breakTold_heard],
    by rw [told, attempt], publish_unsettled settled, by rw [told, reception], by rw [told, busy],
    by rw [told, recessive, release], by simp [time, timeAside, moment], ?_, ?_, ?_, by rw [told, settledBreak], ?_, ?_⟩
  · exact publish_flags s _ _ (FlagsStand.of_report report _ (breakTold_raised w))
  · exact publish_keepsOccupied s _ .state state
  · rw [reasons, now]
    intro reason broke
    obtain ⟨stands, cadence⟩ := holdPut reason (by rwa [line])
    refine ⟨publish_keepsOccupied s _ .hold stands, publish_hold ?_ (by rw [own, line]) reason cadence⟩
    rw [running_of_power power, breakTold_running running]
  · rw [reasons, hold, (breakTold_aside w).history]
    simp [frame]
  · simp [OnlyIn, consequent, pins, loader, freeKept, pending, pinsAside, loaderAside, freeAside, pendingAside, frame]

/-- What the end of STARTING does to a unit that was in `s` (R183). -/
abbrev StartEnded (e : Nat) (s t : State) : Prop :=
  t.time = (runTo e s).time ∧ t.line.ownBreak = none ∧ t.running = true ∧
  t.pack.deliveryTimer = some (t.now + 2000000) ∧ t.pack.carried = 0 ∧ t.pack.scanTimer.isSome = true ∧
  t.line.stateCadence.isSome = true ∧ (5000 < s.pins.dockMv → t.attach.dock = .settling) ∧ t.loader = s.loader ∧
  t.pack.cells.map unbled = s.pack.cells.map unbled ∧ t.pack.q = s.pack.q ∧ CountersKept s t

theorem endStarting_effects {s : State} {d : Nat} (head : s.attach.head = .removed) :
    StartEnded d s (publish s (endStarting (ownReleased (runTo d s)))) := by
  have headStarted : (started (ownReleased (runTo d s))).attach.head = .removed := by
    simpa [started, startDozeTimers, ownReleased] using head
  obtain ⟨f, judged, settling⟩ := pinsJudged_detached headStarted
  rw [endStarting_eq, judged]
  obtain ⟨w, at_⟩ : ∃ w, w = (started (ownReleased (runTo d s))).onAttach f := ⟨_, rfl⟩
  rw [← at_]
  have begun : w.running = true := by simp [at_, started, startDozeTimers, State.running, PowerState.running]
  have kept : w.time = (runTo d s).time ∧ w.loader = s.loader ∧ w.line.ownBreak = none ∧ w.pack.cells = s.pack.cells ∧
      w.pack.q = s.pack.q ∧ w.drive = s.drive ∧ w.charge = s.charge := by
    simp [at_, started, startDozeTimers, ownReleased]
  obtain ⟨time, loader, own, cells, q, drive, charge⟩ := kept
  have timers : w.pack.deliveryTimer = some ((runTo d s).now + 2000000) ∧ w.pack.carried = 0 ∧
      w.pack.scanTimer.isSome = true ∧ w.line.stateCadence.isSome = true := by
    simp [at_, started, startDozeTimers, ownReleased, State.now, ms]
  obtain ⟨delivery, carried, scan, cadence⟩ := timers
  have dock : 5000 < s.pins.dockMv → w.attach.dock = .settling := fun high => by
    rw [at_]
    exact settling (by simpa [started, startDozeTimers, ownReleased] using high)
  have aside : Aside w (powerJudge (railJudge w)) := (railJudge_aside w).trans (powerJudge_aside _)
  obtain ⟨timeKept, -, loaderKept, -⟩ := aside.frame
  obtain ⟨-, ownKept, -⟩ := aside.marks
  obtain ⟨packKept, bleeds⟩ := aside.readings
  obtain ⟨-, dockKept, -⟩ := aside.attach
  obtain ⟨scans, states⟩ := powerJudge_timers (railJudge w)
  have pack : (publish s (powerJudge (railJudge w))).pack = (powerJudge (railJudge w)).pack := by simp
  refine ⟨by simp [time], ?_, ?_, ?_, ?_, ?_, ?_, ?_, ?_, ?_, ?_, ?_⟩
  · rw [(publish_marks s _).2.1, ownKept, own]
  · rw [running_of_power (s := powerJudge (railJudge w)) (by simp)]
    exact aside.running begun
  · have now : (publish s (powerJudge (railJudge w))).now = (runTo d s).now := by simp [State.now, time]
    rw [pack, packKept, now]
    exact delivery
  · rw [pack, packKept]
    exact carried
  · rw [pack]
    exact scans (by simpa using scan)
  · exact publish_cadence (states (by simpa using cadence))
  · intro high
    rw [← dock high, ← dockKept]
    simp
  · rw [← loader, ← loaderKept]
    simp
  · rw [pack, bleeds, cells]
  · rw [pack, packKept]
    exact q
  · simp [CountersKept, drive, charge]

/-- Settles O54: each command of a break or a stuck line finds its tick, and what it changes is handed on and told. -/
theorem breaksStuckLineAndStart : Obligations.BreaksStuckLineAndStart := by
  unfold Obligations.BreaksStuckLineAndStart
  intro s d e
  refine ⟨?seen, ?unseen, ?short, ?own, ?start, ?taken, ?untaken, ?stuck, ?unstuck, ?released, ?recovers, ?stays,
    ?conflict⟩
  case seen =>
    intro busy dominant held
    exact ⟨_, exec_breakInProgress busy dominant held, by simp [OnlyIn]⟩
  case unseen =>
    intro away
    exact ⟨s, by simp [exec, execBreakInProgress, away], rfl⟩
  case short =>
    intro dominant rises early
    have ends : s.line.dominantEnds (us 130) = none := dominantEnds_of_released dominant rises early
    exact ⟨s, by simp [exec, execBreakInProgress, onTimerQuietly, ends], rfl⟩
  case own =>
    intro own awake
    refine ⟨_, exec_ownBreakRelease own, ?_⟩
    rw [if_neg awake, publish_of_kept (by simp [ownReleased])]
    refine ⟨by simp [ownReleased], ?_, ?_, by simp [OnlyIn, ownReleased]⟩
    · obtain ⟨-, -, -, ownKept, -⟩ := beginAttempt_told (ownReleased (runTo d s))
      rw [ownKept]
      rfl
    · intro busy
      have inBreak : (ownReleased (runTo d s)).line.state = .inBreak := by simp [ownReleased, busy]
      rw [beginAttempt_of_not (mayBegin_of_state (by simp [inBreak])), inBreak]
  case start =>
    intro own starting law
    obtain ⟨-, head, -⟩ := law starting
    refine ⟨_, exec_ownBreakRelease own, ?_⟩
    rw [if_pos starting]
    exact endStarting_effects head
  case taken =>
    intro takes kept
    obtain ⟨running, -⟩ := (mayTakeBreak_iff s).mp takes
    exact ⟨_, exec_breakTaken takes kept, breakTaken_effects (by rw [running_of_power (s := s) (by simp), running])
      (by simp) (releasedAt_runTo s) rfl (by simp)⟩
  case untaken =>
    intro dominant release outside
    have length : s.breakLong = false := by
      have limits : us 130 = 1040 ∧ ms 2 = 16000 := ⟨rfl, rfl⟩
      have at_ : s.releasedAt = e := release
      simp only [State.breakLong, dominant, at_, limits, Bool.and_eq_false_iff, decide_eq_false_iff_not]
      omega
    have may : s.mayTakeBreak = false := by simp [State.mayTakeBreak, length]
    exact ⟨s, by simp [exec, execBreakTaken, finishIf, may], rfl⟩
  case stuck =>
    intro inBreak dominant held kept
    refine ⟨_, exec_lineStuck inBreak dominant held kept, ?_⟩
    have same : (runTo (d + 16000) s).line = s.line := by simp
    have reason := lineStuckAt_reason (runTo (d + 16000) s)
    have line := lineStuckAt_line (runTo (d + 16000) s)
    rw [same] at line
    have told := reasons_stays s (w := lineStuckAt (runTo (d + 16000) s)) (by simp [line])
    have effects := reasons_told (s := s) s (w := lineStuckAt (runTo (d + 16000) s)) (by simp [lineStuckAt])
      (by simp [lineStuckAt])
    obtain ⟨timeKept, -⟩ := (handReasons_aside (lineStuckAt (runTo (d + 16000) s))).frame
    have time : (lineStuckAt (runTo (d + 16000) s)).time = (runTo (d + 16000) s).time := by simp [lineStuckAt]
    have free : (lineStuckAt (runTo (d + 16000) s)).hold = s.hold := by simp [lineStuckAt]
    have table : (lineStuckAt (runTo (d + 16000) s)).table = s.table := by simp [lineStuckAt]
    have suction : (formHolds (lineStuckAt (runTo (d + 16000) s))).hold.stopSuction = true := by
      simp [formHolds, stopsSuction, Reasons.localStop, reason]
    have charge : (lineStuckAt (runTo (d + 16000) s)).liveReasons.stopsCharge = true := by
      simp [Reasons.stopsCharge, reason]
    generalize lineStuckAt (runTo (d + 16000) s) = w at *
    have formed : (publish s (handReasons w)).hold = (formHolds w).hold := by simp [handReasons_hold]
    refine ⟨by simp [time], by rw [told.line, line], by rw [told.line, line], by rw [told.line, line],
      by rw [told.line, line], unsettled_of_isSome told.unsettled (by rw [line]), by rw [told.line, line], ?_, ?_, ?_, ?_, ?_,
      by simp [table], by rw [told.line, line], effects⟩
    · rw [formed, formHolds_reasons, reason]
    · rw [formed, suction]
    · rw [formed, formHolds_stopCharge, charge]
    · simpa using handReasons_opens charge
    · intro calm
      simpa using handReasons_zeroes suction (by rwa [free])
  case unstuck =>
    intro away
    exact ⟨s, by simp [exec, execLineStuck, away], rfl⟩
  case released =>
    intro dominant rises early
    have ends : s.line.dominantEnds (ms 2) = none := dominantEnds_of_released dominant rises early
    exact ⟨s, by simp [exec, execLineStuck, onTimer, ends], rfl⟩
  case recovers =>
    intro stuck free
    refine ⟨_, exec_stuckRecovery stuck free, ?_⟩
    have effects := reasons_told (s := s) s (w := lineRecovered (runTo (recoveredAt s) s)) (by simp [lineRecovered])
      (by simp [lineRecovered])
    have time : (lineRecovered (runTo (recoveredAt s) s)).time = (runTo (recoveredAt s) s).time := by
        simp [lineRecovered]
    have line : (lineRecovered (runTo (recoveredAt s) s)).line.state = .idle ∧
        (lineRecovered (runTo (recoveredAt s) s)).line.stuck = false := by simp [lineRecovered]
    obtain ⟨idle, unstuck⟩ := line
    generalize lineRecovered (runTo (recoveredAt s) s) = w at *
    have calm := (handReasons_calm w).stays.trans (tellEvent_tells s (handReasons w)).stays
    have timed : (publish s (handReasons w)).time = w.time := by simp
    refine ⟨timed.trans time, ?_, ?_, ?_, effects⟩
    · rw [publish_stuck, (handReasons_calm w).line]
      exact unstuck
    · simp [handReasons_hold, formHolds_reasons, State.liveReasons, unstuck]
    · rw [publish_eq]
      rcases beginAttempt_cases (tellEvent s (handReasons w)) with same | ⟨i, p, -, -, begun⟩
      · rw [same, calm.line]
        exact .inl idle
      · obtain ⟨payload, started⟩ := startAttempt_line i p (tellEvent s (handReasons w))
        rw [begun, started]
        exact .inr rfl
  case stays =>
    intro away
    have may : s.mayRecover = false := by
      rcases away with state | own
      · simp [State.mayRecover, state]
      · simp only [State.mayRecover, Bool.and_eq_false_iff]
        exact .inr (by simpa using own)
    exact ⟨s, by simp [exec, execStuckRecovery, finishIf, may], rfl⟩
  case conflict =>
    intro conflict
    refine ⟨_, exec_conflictTimerExpiry conflict, ?_⟩
    have effects := reasons_told (s := s) s (w := conflictEnded (runTo d s)) (by simp [conflictEnded]) (by simp [conflictEnded])
    have time : (conflictEnded (runTo d s)).time = (runTo d s).time := by simp [conflictEnded]
    have gone : (conflictEnded (runTo d s)).line.conflict = none := by simp [conflictEnded]
    generalize conflictEnded (runTo d s) = w at *
    refine ⟨by simp [time], ?_, ?_, effects⟩
    · rw [publish_conflict, (handReasons_easing w).conflict, gone]
    · simp [handReasons_hold, formHolds_reasons, State.liveReasons, gone]

end Sys2Proof.Proofs
end

section
/-! ## The cadences, and what a scan completion tells the line (R121, R130, R131) -/

namespace Sys2Proof.Proofs
open Sys2Proof.Machine Sys2Proof.Safety

/-! ### One event of a scan completion -/

section
variable {f : State → State} {w : State}

/-- An event that leaves the line calm and tells of no new break is told, and an attempt may begin. -/
theorem asEvent_of_calm (calm : LineCalm w (f w)) : asEvent f w = beginAttempt (Machine.tell w (f w)) := by
  rw [asEvent, publish_eq, tellEvent_of_ownBreak (by rw [calm.line])]

theorem asEvent_running (calm : LineCalm w (f w)) : (asEvent f w).running = w.running := by
  rw [asEvent, running_of_power (s := f w) (by simp), calm.running]

theorem asEvent_content : (asEvent f w).content = (f w).content := content_of_kept (by simp)

/-- HOLD and its cadence through an event: as they were, or put anew where the reasons have changed (R131). -/
theorem asEvent_hold (calm : LineCalm w (f w)) (running : w.running = true) (time : (f w).time = w.time) :
    ((f w).hold.reasons = w.hold.reasons →
      (occupied w.line.hold.slot = true → occupied (asEvent f w).line.hold.slot = true) ∧
      (asEvent f w).line.holdCadence = w.line.holdCadence) ∧
    ((f w).hold.reasons ≠ w.hold.reasons → occupied (asEvent f w).line.hold.slot = true ∧
      (asEvent f w).line.holdCadence = if (f w).hold.reasons.any then some (w.now + 1600000) else none) := by
  have slot := beginAttempt_occupied (Machine.tell w (f w)) .hold
  obtain ⟨-, -, -, cadence⟩ := beginAttempt_cadences (Machine.tell w (f w))
  obtain ⟨same, other⟩ := tell_hold (s0 := w) (calm.running.trans running)
  have now : (f w).now = w.now := by rw [State.now, State.now, time]
  rw [asEvent_of_calm calm, cadence]
  constructor
  · intro unchanged
    obtain ⟨hold, kept⟩ := same unchanged
    rw [calm.line] at hold kept
    exact ⟨fun stands => slot.trans ((congrArg (fun v => occupied v.slot) hold).trans stands), kept⟩
  · intro changed
    obtain ⟨hold, put⟩ := other changed
    rw [put, now]
    exact ⟨slot.trans ((congrArg (fun v => occupied v.slot) hold).trans (occupied_put _ _)), rfl⟩

theorem tellHold_owed {s0 s : State} (owed : StateOwed s.line) : StateOwed (tellHold s0 s).line := by
  obtain ⟨slot, holdoff, -⟩ := tellHold_state s0 s
  rwa [StateOwed, slot, holdoff]

theorem beginAttempt_owed {s : State} (owed : StateOwed s.line) : StateOwed (beginAttempt s).line := by
  obtain ⟨holdoff, -⟩ := beginAttempt_cadences s
  have slot := beginAttempt_occupied s .state
  rcases owed with stands | marked
  · exact .inl (slot.trans stands)
  · exact .inr (holdoff.trans marked)

/-- A change of content is owed to the line after the event (R130). -/
theorem asEvent_owed (calm : LineCalm w (f w)) (running : w.running = true) :
    (StateOwed w.line → StateOwed (asEvent f w).line) ∧ ((f w).content ≠ w.content → StateOwed (asEvent f w).line) := by
  rw [asEvent_of_calm calm]
  constructor
  · intro owed
    have told : StateOwed (tellState w (f w)).line := by
      unfold tellState
      split
      · exact calm.owed owed
      · exact contentChange_keepsOwed (calm.owed owed)
    exact beginAttempt_owed (tellHold_owed told)
  · intro changed
    have told : tellState w (f w) = contentChange (f w) := if_neg changed
    rw [Machine.tell, told]
    exact beginAttempt_owed (tellHold_owed (contentChange_owed (calm.running.trans running)))

end

/-! ### The events from the scan on -/

/-- What the events since `s` have told: HOLD stands where the reasons are others, and STATE is owed where its
content is. -/
structure ScanTold (s t : State) : Prop where
  running : t.running = true
  time : t.time = s.time
  owed : t.content ≠ s.content → StateOwed t.line
  put : t.hold.reasons ≠ s.hold.reasons → occupied t.line.hold.slot = true ∧
    t.line.holdCadence = if t.hold.reasons.any then some (s.now + 1600000) else none

theorem ScanTold.start {s : State} (running : s.running = true) : ScanTold s s :=
  ⟨running, rfl, fun h => absurd rfl h, fun h => absurd rfl h⟩

theorem ScanTold.event {s w : State} {f : State → State} (h : ScanTold s w) (calm : LineCalm w (f w))
    (time : (f w).time = w.time) : ScanTold s (asEvent f w) where
  running := (asEvent_running calm).trans h.running
  time := by simp [asEvent, time, h.time]
  owed changed := by
    rw [asEvent_content] at changed
    by_cases same : (f w).content = w.content
    · exact (asEvent_owed calm h.running).1 (h.owed (same ▸ changed))
    · exact (asEvent_owed calm h.running).2 same
  put changed := by
    have reasons : (asEvent f w).hold.reasons = (f w).hold.reasons := by simp [asEvent]
    have now : w.now = s.now := by rw [State.now, State.now, h.time]
    obtain ⟨kept, put⟩ := asEvent_hold calm h.running time
    rw [reasons] at changed ⊢
    by_cases same : (f w).hold.reasons = w.hold.reasons
    · obtain ⟨stands, cadence⟩ := h.put (same ▸ changed)
      obtain ⟨stays, ticks⟩ := kept same
      exact ⟨stays stands, by rw [ticks, same, cadence]⟩
    · rw [← now]
      exact put same

theorem scanPack_time (r : ScanReading) (s : State) : (scanPack r s).time = s.time := by
  unfold scanPack
  split <;> simp [clearScan]

theorem scanAllowance_time (s : State) : (scanAllowance s).time = s.time := by
  simp [scanAllowance_eq, allowanceFormed]

theorem scanBefore_told {s : State} (r : ScanReading) (running : s.running = true) : ScanTold s (scanBefore r s) :=
  (((ScanTold.start running).event (scanPack_calm r _) (scanPack_time r _)).event (scanTemps_calm r _) (by simp)).event
    (scanCharge_calm r s _) (by simp)

/-- In AWAKE and DOZE the end of the start scan is the scan timer alone (R2). -/
theorem startScanEnd_of_running {s : State} (b : Bool) (running : s.running = true) : ∃ timer,
    startScanEnd b s = s.onPack fun p => { p with scanTimer := timer } := by
  have awake : s.power.state ≠ .starting := by
    intro starting
    simp [State.running, starting, PowerState.running] at running
  cases b with
  | false => exact ⟨s.pack.scanTimer, rfl⟩
  | true => exact ⟨some (s.now + s.power.state.scanPeriod), by simp [startScanEnd, endStartScan, awake]⟩

theorem scanEnd_told {s : State} (r : ScanReading) (running : s.running = true) :
    ScanTold s (asEvent scanAllowance (scanBefore r s)) :=
  (scanBefore_told r running).event (scanAllowance_calm _) (scanAllowance_time _)

theorem completeScan_told {s : State} (r : ScanReading) (running : s.running = true) :
    ScanTold s (completeScan r s) := by
  have told := scanEnd_told r running
  obtain ⟨timer, ended⟩ := startScanEnd_of_running s.pack.startScan told.running
  rw [completeScan_eq_before, ended]
  exact ⟨told.running, told.time, told.owed, told.put⟩

/-! ### Two changes of the reasons at one scan (R121, R131) -/

/-- The attempt of a HOLD is in progress. -/
structure HoldFlying (t : State) : Prop where
  attempt : t.line.attempt.map (·.slot) = some .hold
  busy : t.line.state ≠ .idle
  flying : t.line.hold.slot ≠ .empty ∧ t.line.hold.slot.waiting = none

theorem HoldFlying.of_held {w t : State} (h : HoldFlying w) (attempt : t.line.attempt = w.line.attempt)
    (state : t.line.state = w.line.state) (hold : t.line.hold = w.line.hold) : HoldFlying t :=
  ⟨by rw [attempt, h.attempt], by rw [state]; exact h.busy, by rw [hold]; exact h.flying⟩

/-- The slot of a notice in flight takes a newer one behind it (R121). -/
theorem put_of_flying {sl : Slot} (p : List Byte) (flying : sl ≠ .empty ∧ sl.waiting = none) :
    (sl.put p).replaced = true ∧ sl.put p ≠ .empty ∧ (sl.put p).waiting = none := by
  obtain ⟨stands, sent⟩ := flying
  cases sl with
  | empty => exact absurd rfl stands
  | pending => simp [Slot.waiting] at sent
  | inFlight | inFlightReplaced => simp [Slot.put, Slot.replaced, Slot.waiting]

section
variable {f : State → State} {w : State}

/-- The HOLD slot after an event on a busy line. -/
theorem asEvent_hold_of_busy (calm : LineCalm w (f w)) (running : w.running = true) (busy : w.line.state ≠ .idle) :
    (asEvent f w).line.attempt = w.line.attempt ∧ (asEvent f w).line.state = w.line.state ∧
    ((f w).hold.reasons = w.hold.reasons → (asEvent f w).line.hold = w.line.hold) ∧
    ((f w).hold.reasons ≠ w.hold.reasons →
      (asEvent f w).line.hold = ⟨(w.line.hold.slot).put [], w.line.hold.errors⟩) := by
  have line := (tell_tells w (f w)).line
  have state : (Machine.tell w (f w)).line.state = w.line.state ∧
      (Machine.tell w (f w)).line.attempt = w.line.attempt := by
    rw [line, calm.line]
    exact ⟨rfl, rfl⟩
  obtain ⟨same, other⟩ := tell_hold (s0 := w) (calm.running.trans running)
  rw [calm.line] at same other
  rw [asEvent_of_calm calm, beginAttempt_of_not (mayBegin_of_state (by rw [state.1]; exact busy))]
  exact ⟨state.2, state.1, fun h => (same h).1, fun h => (other h).1⟩

theorem HoldFlying.event (h : HoldFlying w) (calm : LineCalm w (f w)) (running : w.running = true) :
    HoldFlying (asEvent f w) ∧
    ((f w).hold.reasons ≠ w.hold.reasons → (asEvent f w).line.hold.slot.replaced = true) := by
  obtain ⟨attempt, state, same, other⟩ := asEvent_hold_of_busy calm running h.busy
  obtain ⟨replaced, stands, sent⟩ := put_of_flying [] h.flying
  by_cases unchanged : (f w).hold.reasons = w.hold.reasons
  · exact ⟨h.of_held attempt state (same unchanged), fun changed => absurd unchanged changed⟩
  · have hold := other unchanged
    exact ⟨⟨by rw [attempt, h.attempt], by rw [state]; exact h.busy, by rw [hold]; exact ⟨stands, sent⟩⟩,
      fun _ => by rw [hold]; exact replaced⟩

/-- On an IDLE line a change of the reasons begins the attempt of its HOLD at once (R122, R131). -/
theorem asEvent_flies (calm : LineCalm w (f w)) (may : w.mayBegin = true) (empty : w.line.hold.slot = .empty)
    (changed : (f w).hold.reasons ≠ w.hold.reasons) : HoldFlying (asEvent f w) := by
  obtain ⟨running, -⟩ := (mayBegin_iff w).mp may
  obtain ⟨-, other⟩ := tell_hold (s0 := w) (calm.running.trans running)
  obtain ⟨hold, -⟩ := other changed
  have waits : (Machine.tell w (f w)).line.hold.slot = .pending [] := by
    rw [hold, calm.line]
    simp [empty, Slot.put]
  have begins : (Machine.tell w (f w)).mayBegin = true := by
    rw [(tell_tells w (f w)).mayBegin (by simp), calm.mayBegin, may]
  have next : (Machine.tell w (f w)).line.nextSlot = some (.hold, []) := by
    simp [Line.nextSlot, waits, Slot.waiting]
  obtain ⟨payload, line⟩ := startAttempt_line .hold [] (Machine.tell w (f w))
  rw [asEvent_of_calm calm, beginAttempt_of_waiting begins next]
  have slot : (startAttempt .hold [] (Machine.tell w (f w))).line.hold.slot = .inFlight payload := by
    rw [line]
    simp [Line.onSlot, Line.setSlot, Line.slot, waits, Slot.begin]
  exact ⟨by rw [line]; rfl, by rw [line]; simp, by rw [slot]; simp [Slot.waiting]⟩

end

end Sys2Proof.Proofs
end

section
/-! ## One change of STATE's content, and LOW_ALLOWANCE at a scan (R130, R164) -/

namespace Sys2Proof.Proofs
open Sys2Proof.Machine Sys2Proof.Safety

/-! ### The cadences (R130, R131) -/

/-- STATE has been put now: it stands in its slot, or in its attempt, and its cadence restarts. -/
abbrev StatePut (s t : State) : Prop :=
  occupied t.line.state_.slot = true ∧ t.line.holdoff = false ∧ t.line.lastStatePut = some t.now ∧
  t.line.stateCadence = some (t.now + if s.power.state = .awake then 800000 else 4000000) ∧ LineTold s t ∧
  OnlyIn [.time, .line, .report] s t

/-- A putting of STATE at a tick changes no content, so only an attempt may follow it. -/
theorem publish_putState (s : State) (d : Nat) : (publish s (putState (runTo d s))).time = (runTo d s).time ∧
    StatePut s (publish s (putState (runTo d s))) := by
  have line : (putState (runTo d s)).line = { s.line with
      state_ := ⟨(s.line.state_.slot).put [], s.line.state_.errors⟩
      unsettled := s.line.unsettled.map (·.noticing .state)
      stateCadence := some ((runTo d s).now + (runTo d s).statePeriod), holdoff := false
      lastStatePut := some (runTo d s).now } := by
    rw [putState_line]
    simp
  have put : occupied ((putState (runTo d s)).line.slot .state).slot = true := by
    rw [line]
    exact occupied_put _ _
  have period : (runTo d s).statePeriod = if s.power.state = .awake then 800000 else 4000000 := by
    simp [State.statePeriod, ms]
  have told : LineTold s (putState (runTo d s)) :=
    lineTold_trans (by simp [LineTold]) (putState_told (runTo d s))
  rw [publish_of_kept (by simp)]
  obtain ⟨holdoff, last, cadence, -⟩ := beginAttempt_cadences (putState (runTo d s))
  have now : (beginAttempt (putState (runTo d s))).now = (runTo d s).now := by simp [State.now]
  refine ⟨by simp, ?_⟩
  unfold StatePut
  rw [holdoff, last, cadence, now, line, period]
  exact ⟨(beginAttempt_occupied _ .state).trans put, rfl, rfl, rfl,
    lineTold_trans told (beginAttempt_told _), by simp [OnlyIn]⟩

/-- A putting of HOLD at a tick, in AWAKE and DOZE. -/
theorem publish_putHold {s : State} (d : Nat) (running : s.running = true) :
    occupied (publish s (putHold (runTo d s))).line.hold.slot = true ∧
    (publish s (putHold (runTo d s))).line.holdCadence =
      (if s.hold.reasons.any then some ((publish s (putHold (runTo d s))).now + 1600000) else none) ∧
    LineTold s (publish s (putHold (runTo d s))) ∧
    OnlyIn [.time, .line, .report] s (publish s (putHold (runTo d s))) := by
  have line := putHold_line (s := runTo d s) (by rw [running_of_power (s := s) (by simp), running])
  have put : occupied ((putHold (runTo d s)).line.slot .hold).slot = true := by
    rw [line]
    exact occupied_put _ _
  have told : LineTold s (putHold (runTo d s)) := lineTold_trans (by simp [LineTold]) (putHold_told (runTo d s))
  rw [publish_of_kept (by simp)]
  obtain ⟨-, -, -, cadence⟩ := beginAttempt_cadences (putHold (runTo d s))
  have now : (beginAttempt (putHold (runTo d s))).now = (runTo d s).now := by simp [State.now]
  refine ⟨(beginAttempt_occupied _ .hold).trans put, ?_, lineTold_trans told (beginAttempt_told _), by simp [OnlyIn]⟩
  rw [cadence, now, line]
  simp [ms]

/-! ### One change of content (R130) -/

/-- What one change of content in `s` leaves of STATE's slot and marks in `t`. -/
abbrev ContentPut (s t : State) : Prop :=
  if s.line.state_.slot.waiting.isSome = true
  then occupied t.line.state_.slot = true ∧ t.line.holdoff = s.line.holdoff ∧
    t.line.lastStatePut = s.line.lastStatePut ∧ t.line.stateCadence = s.line.stateCadence
  else if s.line.lastStatePut.all (fun e => decide (e + 80000 ≤ t.now)) = true
  then occupied t.line.state_.slot = true ∧ (s.line.state_.slot ≠ .empty → t.line.state_.slot.replaced = true) ∧
    t.line.holdoff = false ∧ t.line.lastStatePut = some t.now ∧
      t.line.stateCadence = some (t.now + if s.power.state = .awake then 800000 else 4000000)
  else t.line.state_.slot = s.line.state_.slot ∧ t.line.holdoff = true ∧
    t.line.lastStatePut = s.line.lastStatePut ∧ t.line.stateCadence = s.line.stateCadence

/-- `u` is `s` with its content changed, and `v` has been told of it: an attempt may begin. -/
theorem contentPut_of_contentChange {s u v : State} (running : u.running = true) (line : u.line = s.line)
    (power : u.power = s.power) (told : v.line = (contentChange u).line) (time : v.time = u.time) :
    ContentPut s (beginAttempt v) := by
  obtain ⟨holdoff, last, cadence, -⟩ := beginAttempt_cadences v
  have stands : occupied (beginAttempt v).line.state_.slot = occupied v.line.state_.slot :=
      beginAttempt_occupied v .state
  have still : v.line.state_.slot.waiting = none → (beginAttempt v).line.state_ = v.line.state_ := fun free =>
    beginAttempt_slot_of_not_waiting (j := .state) free
  have now : (beginAttempt v).now = u.now := by simp [State.now, time]
  unfold ContentPut
  rw [holdoff, last, cadence, stands, now]
  split
  case isTrue waits =>
    rw [contentChange_of_waiting (by rwa [line]), line] at told
    rw [told]
    exact ⟨occupied_of_waiting waits, rfl, rfl, rfl⟩
  case isFalse free =>
    have idle : u.line.state_.slot.waiting.isSome = false := by rw [line]; simpa using free
    have goes : u.stateMayGo = s.line.lastStatePut.all fun e => decide (e + 80000 ≤ u.now) := by
      rw [stateMayGo_eq, line]
    rw [← goes]
    split
    case isTrue may =>
      rw [contentChange_of_goes running idle may, putState_line, line] at told
      have period : u.statePeriod = if s.power.state = .awake then 800000 else 4000000 := by
        simp [State.statePeriod, power, ms]
      have flying : s.line.state_.slot.waiting = none := by simpa using free
      rw [told, period]
      refine ⟨occupied_put _ _, fun busy => ?_, rfl, rfl, rfl⟩
      obtain ⟨replaced, -, sent⟩ := put_of_flying [] ⟨busy, flying⟩
      have slot := still (by rw [told]; exact sent)
      rw [slot, told]
      exact replaced
    case isFalse held =>
      rw [contentChange_of_held running idle (by simpa using held), onLine_line, line] at told
      have slot := still (by rw [told]; simpa using free)
      rw [slot, told]
      exact ⟨rfl, rfl, rfl, rfl⟩

/-! ### The window and the seat (R81, R130, R176) -/

/-- A window expiry leaves the line and the hold unit, and changes content by the dirt level alone. -/
theorem expireWindow_frame (s : State) : (expireWindow s).line = s.line ∧ (expireWindow s).hold = s.hold ∧
    (expireWindow s).power = s.power ∧ (expireWindow s).time = s.time ∧ (expireWindow s).pack = s.pack ∧
    (expireWindow s).allow = s.allow ∧ (expireWindow s).drive = s.drive ∧ (expireWindow s).charge = s.charge := by
  unfold expireWindow
  split <;> simp

/-- Content that differs in the dirt level alone is the same exactly where the level is. -/
theorem content_eq_iff_level {s t : State} (h : t.pack = s.pack ∧ t.allow = s.allow ∧ t.drive = s.drive ∧
    t.charge = s.charge ∧ t.hold = s.hold) : t.content = s.content ↔ t.dirt.level = s.dirt.level := by
  obtain ⟨pack, allow, drive, charge, hold⟩ := h
  simp [State.content, State.shareLine, State.holdSummary, pack, allow, drive, charge, hold]

theorem windowExpiry_told {s : State} (d : Nat) (running : s.running = true) :
    ((publish s (expireWindow (runTo d s))).dirt.level ≠ s.dirt.level →
      ContentPut s (publish s (expireWindow (runTo d s)))) ∧
    ((publish s (expireWindow (runTo d s))).dirt.level = s.dirt.level →
      (publish s (expireWindow (runTo d s))).line.holdoff = s.line.holdoff ∧
      (publish s (expireWindow (runTo d s))).line.lastStatePut = s.line.lastStatePut ∧
      (publish s (expireWindow (runTo d s))).line.stateCadence = s.line.stateCadence) := by
  obtain ⟨line, hold, power, -, pack, allow, drive, charge⟩ := expireWindow_frame (runTo d s)
  simp only [runTo_frame] at line hold power pack allow drive charge
  generalize expireWindow (runTo d s) = w at *
  have level : (publish s w).dirt.level = w.dirt.level := by simp
  have content := content_eq_iff_level (s := s) (t := w) ⟨pack, allow, drive, charge, hold⟩
  rw [level]
  constructor
  · intro changed
    have told : Machine.tell s w = contentChange w := by
      rw [Machine.tell, tellState, if_neg (mt content.mp changed)]
      exact if_pos (by simp [hold])
    rw [publish_eq, tellEvent_of_ownBreak (by rw [line]), told]
    exact contentPut_of_contentChange (by rw [running_of_power power, running]) line power rfl (by simp)
  · intro same
    obtain ⟨holdoff, last, cadence, -⟩ := beginAttempt_cadences w
    rw [publish_of_same (content.mpr same) (by rw [hold]), holdoff, last, cadence, line]
    exact ⟨rfl, rfl, rfl⟩

/-- The seat changes the change set alone of what STATE carries (R140, R176). -/
theorem seat_told {s : State} (d : Nat) (running : s.running = true) :
    ContentPut s (publish s (seatHead (runTo d s))) := by
  have seated : ∃ u : State, (seatHead (runTo d s)).line = (contentChange u).line ∧ u.line = s.line ∧
      u.power = s.power ∧
      (seatHead (runTo d s)).time = u.time :=
    ⟨((runTo d s).onAttach fun a => { a with head := .seated, seatTimer := none }).onReport fun r =>
      { r with flags := r.flags.modify Flag.headAttached.bit FlagState.raised }, by simp [seatHead, raise], by simp,
      by simp, by simp [seatHead, raise]⟩
  obtain ⟨u, told, line, power, time⟩ := seated
  rw [publish_of_kept (by simp [seatHead])]
  exact contentPut_of_contentChange (by rw [running_of_power power, running]) line power told time

/-! ### LOW_ALLOWANCE from a scan to its computation (R164) -/

theorem handReasons_lowAllowance (s : State) : (handReasons s).hold.reasons.lowAllowance = s.allow.low := by
  rw [handReasons_hold, formHolds_reasons]
  rfl

theorem scanCharge_reasons (r : ScanReading) (s0 s : State) : (scanCharge r s0 s).hold.reasons = s.hold.reasons := by
  have fault : ∀ a u, (highFault a u).hold.reasons = u.hold.reasons := by
    intro a u
    unfold highFault chargeFault pushHistory
    split <;> simp
  have scanned : ∀ a b u, (chargeScan a b u).hold.reasons = u.hold.reasons := by
    intro a b u
    rw [chargeScan_eq, scanFrom, scanConclusion]
    split <;> simp [fault]
  unfold scanCharge
  split
  · simpa using scanned _ _ s
  · rfl

/-- Until the computation LOW_ALLOWANCE is the mark of the allowance unit before the scan. -/
theorem scanBefore_lowAllowance (r : ScanReading) (s : State) :
    (scanBefore r s).hold.reasons.lowAllowance = s.allow.low := by
  have pack : (packTold r s).hold.reasons.lowAllowance = s.allow.low := by
    have formed : (scanPack r s).hold.reasons.lowAllowance = s.allow.low := by
      rw [scanPack_eq, handReasons_lowAllowance, (readingsTaken_frame r s).1]
    simpa [packTold, scanPack_eq] using formed
  have low : (packTold r s).allow.low = s.allow.low := by
    have kept := (scanPack_curbing r s).low
    simpa [packTold, scanPack_eq] using kept
  have temps : (scanTemps r (packTold r s)).hold.reasons.lowAllowance = s.allow.low := by
    unfold scanTemps
    split
    · rw [handReasons_lowAllowance]
      simpa [packReasons] using low
    · exact pack
  have told : (scanBefore r s).hold.reasons = (scanTemps r (packTold r s)).hold.reasons := by
    simp [scanBefore_eq, scanCharge_reasons]
  rw [told, temps]

end Sys2Proof.Proofs
end

section
/-! ## What a scan, a cadence, a window and a seat put in the slots (R121, R130, R131, R172) -/

namespace Sys2Proof.Proofs
open Sys2Proof.Machine Sys2Proof.Safety

/-! ### The codes of STATE tell their values apart (R190) -/

theorem mode_code_injective : Function.Injective Mode.code := by
  intro a b
  cases a <;> cases b <;> simp [Mode.code]

theorem class_code_injective : Function.Injective CellClass.code := by
  intro a b
  cases a <;> cases b <;> simp [CellClass.code]

theorem phase_code_injective : Function.Injective ChargePhase.code := by
  intro a b
  cases a <;> cases b <;> simp [ChargePhase.code]

theorem drive_code_injective : Function.Injective DriveState.code := by
  intro a b
  cases a <;> cases b <;> simp [DriveState.code]

/-- The figures of STATE that a scan can move are read off its content. -/
theorem figures_of_content {s t : State} (h : t.content = s.content) :
    (t.allow.pAllow, t.allow.iShare / 100, t.allow.mode, t.pack.soc, t.pack.packState) =
      (s.allow.pAllow, s.allow.iShare / 100, s.allow.mode, s.pack.soc, s.pack.packState) ∧
    (t.charge.phase, t.drive.state, t.holdSummary) = (s.charge.phase, s.drive.state, s.holdSummary) := by
  simp only [State.content, State.shareLine, List.cons.injEq] at h
  obtain ⟨pAllow, share, mode, soc, pack, phase, drive, -, -, summary, -⟩ := h
  rw [pAllow, share, mode_code_injective mode, soc, class_code_injective pack, phase_code_injective phase,
    drive_code_injective drive, summary]
  exact ⟨rfl, rfl⟩

section
variable {s : State} {r : ScanReading}

/-- A HOLD that flies before the computation has a newer one behind it where the computation moves LOW_ALLOWANCE. -/
theorem scanEnd_replaces (flying : HoldFlying (scanBefore r s)) (running : s.running = true)
    (low : (completeScan r s).allow.low ≠ s.allow.low) :
    (completeScan r s).line.hold.slot.replaced = true ∧ (completeScan r s).line.attempt.map (·.slot) = some .hold ∧
    (completeScan r s).line.holdCadence =
      if (completeScan r s).hold.reasons.any then some (s.now + 1600000) else none := by
  have before := scanBefore_told r running
  have ended := scanEnd_told r running
  obtain ⟨timer, last⟩ := startScanEnd_of_running s.pack.startScan ended.running
  have line : (completeScan r s).line = (asEvent scanAllowance (scanBefore r s)).line := by
    rw [completeScan_eq_before, last]
    rfl
  have reasons : (completeScan r s).hold.reasons = (scanAllowance (scanBefore r s)).hold.reasons := by
    rw [completeScan_eq_before, last]
    simp [asEvent]
  have changed : (scanAllowance (scanBefore r s)).hold.reasons ≠ (scanBefore r s).hold.reasons := by
    intro same
    refine low ?_
    rw [← completeScan_lowAllowance, reasons, same, scanBefore_lowAllowance]
  obtain ⟨flies, replaced⟩ := flying.event (scanAllowance_calm _) before.running
  obtain ⟨-, cadence⟩ := (asEvent_hold (scanAllowance_calm _) before.running (scanAllowance_time _)).2 changed
  have now : (scanBefore r s).now = s.now := by rw [State.now, State.now, before.time]
  rw [line, reasons, ← now]
  exact ⟨replaced changed, flies.attempt, cadence⟩

/-- The first HOLD of a scan flies from the event that changes the reasons to the computation. -/
theorem scanBefore_flies (may : s.mayBegin = true) (empty : s.line.hold.slot = .empty)
    (changed : (scanPack r s).hold.reasons ≠ s.hold.reasons ∨
      asEvent (scanPack r) s = scanPack r s ∧
        (scanTemps r (scanPack r s)).hold.reasons ≠ (scanPack r s).hold.reasons) : HoldFlying (scanBefore r s) := by
  obtain ⟨running, -⟩ := (mayBegin_iff s).mp may
  have calm := scanPack_calm r s
  have first : (asEvent (scanPack r) s).running = true := (asEvent_running calm).trans running
  have second : (asEvent (scanTemps r) (asEvent (scanPack r) s)).running = true :=
    (asEvent_running (scanTemps_calm r _)).trans first
  have temps : HoldFlying (asEvent (scanTemps r) (asEvent (scanPack r) s)) := by
    rcases changed with monitor | ⟨untold, hot⟩
    · exact ((asEvent_flies calm may empty monitor).event (scanTemps_calm r _) first).1
    · rw [untold]
      exact asEvent_flies (scanTemps_calm r _) (calm.mayBegin.trans may) (by rw [calm.line]; exact empty) hot
  exact (temps.event (scanCharge_calm r s _) second).1

end

/-- Settles O55: each cadence puts its notice at its tick; each event of a scan, and a window or a seat, tells what it
has changed. -/
theorem cadencesPutNotices : Obligations.CadencesPutNotices := by
  unfold Obligations.CadencesPutNotices
  intro s d r
  refine ⟨?state, ?holdoff, ?hold, ?reasons, ?twice, ?window, ?seat, ?content⟩
  case state =>
    intro cadence
    have answered : exec .stateCadenceExpiry s = .next (publish s (putState (runTo d s))) := by
      simp only [exec, execStateCadenceExpiry, cadence, onTimer, finish, asEvent]
    exact ⟨_, answered, publish_putState s d⟩
  case holdoff =>
    intro marked last
    have ends : s.line.holdoffEnds = some (d + 80000) := by simp [Line.holdoffEnds, marked, last, ms]
    have answered : exec .holdoffExpiry s = .next (publish s (putState (runTo (d + 80000) s))) := by
      simp only [exec, execHoldoffExpiry, ends, onTimer, finish, asEvent]
    exact ⟨_, answered, publish_putState s (d + 80000)⟩
  case hold =>
    intro cadence running
    have answered : exec .holdCadenceExpiry s = .next (publish s (putHold (runTo d s))) := by
      simp only [exec, execHoldCadenceExpiry, cadence, onTimer, finish, asEvent]
    exact ⟨_, answered, by simp, publish_putHold d running⟩
  case reasons =>
    intro scan running
    exact ⟨_, exec_scanCompletion r s scan, (completeScan_told r running).put⟩
  case twice =>
    intro scan may empty changed low
    obtain ⟨running, -⟩ := (mayBegin_iff s).mp may
    exact ⟨_, exec_scanCompletion r s scan, scanEnd_replaces (scanBefore_flies may empty changed) running low⟩
  case window =>
    intro window running
    have answered : exec .windowExpiry s = .next (publish s (expireWindow (runTo d s))) := by
      simp only [exec, execWindowExpiry, window, onTimer, finish, asEvent]
    exact ⟨_, answered, windowExpiry_told d running⟩
  case seat =>
    intro timer running
    have answered : exec .seatTimerExpiry s = .next (publish s (seatHead (runTo d s))) := by
      simp only [exec, execSeatTimerExpiry, timer, onTimer, finish, asEvent]
    exact ⟨_, answered, seat_told d running⟩
  case content =>
    intro scan running
    refine ⟨_, exec_scanCompletion r s scan, fun changed => (completeScan_told r running).owed fun same => ?_⟩
    obtain ⟨first, second⟩ := figures_of_content same
    rcases changed with other | other
    · exact other first
    · exact other second

end Sys2Proof.Proofs
end
